-- ==== Sys2Proof/Word.lean ====
section
/-! DEFINITION. The wire words of the control links (R174, R175): bytes, and operands of two bytes. -/

namespace Sys2Proof

/-- One byte of a link transaction. -/
abbrev Byte := BitVec 8

/-- An operand of two bytes, sent high byte first (R175). -/
abbrev Half := BitVec 16

end Sys2Proof
end

