-- ==== Sys2Proof/Config.lean ====
section
/-! DEFINITION. The sizes that the part fixes, each with the rule that states it. The spec leaves no result value
undefined, so the model has no free value: this file holds constants alone. -/

namespace Sys2Proof.Config

/-- Active pixels in a line of the output raster (R88). -/
abbrev rasterWidth : Nat := 960
/-- Active lines of the output raster (R88). -/
abbrev rasterHeight : Nat := 540
/-- Entries of the placement pool (R4). -/
abbrev poolSize : Nat := 128
/-- Entries that one placement list may hold (R5). -/
abbrev listMax : Nat := 48
/-- Frames that a command queue holds (R176). -/
abbrev queueMax : Nat := 16
/-- Records that a result ring holds (R178). -/
abbrev ringMax : Nat := 8
/-- Requests that the capture queue holds (R120). -/
abbrev captureQueueMax : Nat := 4
/-- The bound of a port's outstanding count (R125). -/
abbrev outstandingMax : Nat := 5
/-- Entries that a clip stack holds (R40). -/
abbrev clipMax : Nat := 8
/-- Passes that one repeat block may ask for (R166 to R168). -/
abbrev passMax : Nat := 64
/-- Commands that a repeat cache holds (R166). -/
abbrev cacheMax : Nat := 8
/-- Pixels that a slot has room for (R47). -/
abbrev slotPixels : Nat := 16384
/-- Pixels on a side of a slot image, at most (R48). -/
abbrev slotSide : Nat := 256
/-- Data bytes that one SLT_DATA carries, at most (R56). -/
abbrev dataMax : Nat := 252
/-- Output frame starts without an input frame end at which lock is lost (R113). -/
abbrev silenceMax : Nat := 8
/-- The largest count of a frame timer (R142). -/
abbrev timerMax : Nat := 65535
/-- The largest period of a freshness monitor (R154). -/
abbrev periodMax : Nat := 4095

end Sys2Proof.Config
end

