-- ==== Sys2Proof/Syntax.lean ====
section
/-! DEFINITION. What may happen to the TK540: one constructor per row of spec/opcode_table.json, each a whole,
indivisible step (file 95). Link transactions carry the bytes the master shifts in; a command carries the port whose
executor takes it, its tag, and its operands at the width section 11.9 gives them; an event carries what its source
delivers. -/

namespace Sys2Proof

/-- The three control links, and the ports behind them. -/
inductive Port where
  | cl0 | cl1 | cl2
deriving DecidableEq, Repr

/-- One part of the work at an output frame start. The chapters do not relate the blocks' frame-start work to one
another in time (file 00), so a frame start lists these parts in the order they are taken. R17 to R21 are one part. -/
inductive FrameWork where
  /-- the Scene Table's work, R17 to R21 -/
  | scene
  /-- OPENING slots become OPEN, R55 -/
  | slots
  /-- the previous view's fallback references are given up, R156 -/
  | fallback
  /-- the pending palette is copied to live, R73 -/
  | palette
  /-- the ready frame becomes the shown frame, R116, and refreshes a monitor, R118 -/
  | promotion
  /-- the silence count, R113 -/
  | silence
  /-- a held thumbnail is taken over, R132 and R68 -/
  | takeover
  /-- one monitor's count step, R158 -/
  | monitor (l : Fin 8)
  /-- one timer's count step, R148 and R152 -/
  | timer (t : Fin 4)
deriving DecidableEq, Repr

/-- One part of the work at an input frame end (R111). The lock state machine and the Capture Unit are one part,
since R131 and R135 give the same outcome whichever of the two is first. -/
inductive MarkWork where
  | lockAndCapture
  | timer (t : Fin 4)
deriving DecidableEq, Repr

/-- What the video input bus carries at one rising edge of VIN_CLK (R110): the line valid input and VIN_D[15:0]. -/
structure BusSample where
  lineValid : Bool
  data : Half
deriving DecidableEq, Repr

/-- The steps of the part: one constructor per row of the opcode table. -/
inductive Instr where
  /-- CMD, R175: the length byte and the bytes that follow it. -/
  | cmd (port : Port) (len : Byte) (payload : List Byte)
  /-- RES, R178: sixteen byte times. -/
  | res (port : Port)
  /-- CAPREP, R179: six byte times. -/
  | caprep (port : Port)
  /-- EVT, R181: one to five byte times. -/
  | evt (port : Port) (byteTimes : Nat)
  /-- ACK, R180: the flag set. -/
  | ack (port : Port) (flags : Half)
  /-- MASK, R181: the new mask. -/
  | mask (port : Port) (newMask : Half)
  /-- STAT, R182: one to six byte times. -/
  | stat (port : Port) (byteTimes : Nat)
  /-- PRST, R183. -/
  | prst (port : Port)
  /-- INVALID_TRANSACTION, R174: every byte shifted in, the kind byte first. -/
  | invalidTransaction (port : Port) (bytes : List Byte)
  /-- UNKNOWN_COMMAND, R177: a frame whose code or payload length is not in the table of section 11.9. -/
  | unknownCommand (port : Port) (tag code : Byte) (operands : List Byte)
  /-- LYR_CLAIM, R9. -/
  | lyrClaim (port : Port) (tag l : Byte)
  /-- LYR_RELEASE, R10. -/
  | lyrRelease (port : Port) (tag l : Byte)
  /-- LYR_BEGIN, R11. -/
  | lyrBegin (port : Port) (tag l mode : Byte)
  /-- LYR_ATTR, R12. -/
  | lyrAttr (port : Port) (tag l visible target step : Byte) (ox oy : Half) (source : Byte) (x0 y0 x1 y1 : Half)
  /-- LYR_COMMIT, R14. -/
  | lyrCommit (port : Port) (tag mask : Byte)
  /-- LYR_Z, R15. -/
  | lyrZ (port : Port) (tag l index : Byte)
  /-- BACKDROP, R16. -/
  | backdrop (port : Port) (tag y cb cr : Byte)
  /-- PLC_ADD, R31. -/
  | plcAdd (port : Port) (tag l slot : Byte) (x y : Half)
  /-- PLC_CURSOR, R37. -/
  | plcCursor (port : Port) (tag l k : Byte)
  /-- CUR_SET, R36. -/
  | curSet (port : Port) (tag k : Byte) (x y dx dy : Half) (columns slot step : Byte)
  /-- CLIP_PUSH, R41. -/
  | clipPush (port : Port) (tag : Byte) (x0 y0 x1 y1 : Half)
  /-- CLIP_POP, R42. -/
  | clipPop (port : Port) (tag : Byte)
  /-- PAL_WINDOW, R82. -/
  | palWindow (port : Port) (tag w slice : Byte)
  /-- SLT_CLAIM, R51. -/
  | sltClaim (port : Port) (tag : Byte)
  /-- SLT_CLAIM_AT, R52. -/
  | sltClaimAt (port : Port) (tag slot : Byte)
  /-- SLT_RELEASE, R53. -/
  | sltRelease (port : Port) (tag slot : Byte)
  /-- SLT_OPEN, R54. -/
  | sltOpen (port : Port) (tag slot format : Byte) (width height : Half)
  /-- SLT_DATA, R56. -/
  | sltData (port : Port) (tag slot : Byte) (data : List Byte)
  /-- SLT_FILL, R58. -/
  | sltFill (port : Port) (tag slot y cb cr : Byte) (count : Half)
  /-- SLT_CLOSE, R59. -/
  | sltClose (port : Port) (tag slot : Byte)
  /-- SLT_INFO, R69. -/
  | sltInfo (port : Port) (tag slot : Byte)
  /-- PAL_CLAIM, R75. -/
  | palClaim (port : Port) (tag slice : Byte)
  /-- PAL_RELEASE, R76. -/
  | palRelease (port : Port) (tag slice : Byte)
  /-- PAL_SET, R79. -/
  | palSet (port : Port) (tag n y cb cr alpha : Byte)
  /-- PAL_SETCODE, R80. -/
  | palSetcode (port : Port) (tag c y cb cr alpha : Byte)
  /-- VIN_CLAIM, R105. -/
  | vinClaim (port : Port) (tag : Byte)
  /-- VIN_RELEASE, R107. -/
  | vinRelease (port : Port) (tag : Byte)
  /-- VIN_FORMAT, R108. -/
  | vinFormat (port : Port) (tag : Byte) (w h : Half) (settle : Byte)
  /-- VIN_ENABLE, R109. -/
  | vinEnable (port : Port) (tag on : Byte)
  /-- CAP_ENABLE, R122. -/
  | capEnable (port : Port) (tag on : Byte)
  /-- CAP_REQUEST, R123. -/
  | capRequest (port : Port) (tag slot : Byte) (x y w h : Half) (dx dy : Byte)
  /-- CAP_CANCEL, R137. -/
  | capCancel (port : Port) (tag slot : Byte)
  /-- TMR_CLAIM, R143. -/
  | tmrClaim (port : Port) (tag t : Byte)
  /-- TMR_RELEASE, R144. -/
  | tmrRelease (port : Port) (tag t : Byte)
  /-- TMR_SETUP, R145. -/
  | tmrSetup (port : Port) (tag t source prescaler : Byte) (reload : Half) (mode action : Byte)
  /-- TMR_TEMPLATE, R146. -/
  | tmrTemplate (port : Port) (tag t : Byte) (x y w h : Half) (dx dy first count : Byte)
  /-- TMR_START, R147. -/
  | tmrStart (port : Port) (tag t : Byte)
  /-- TMR_STOP, R147. -/
  | tmrStop (port : Port) (tag t : Byte)
  /-- TMR_READ, R153. -/
  | tmrRead (port : Port) (tag t : Byte)
  /-- FRS_SETUP, R155. -/
  | frsSetup (port : Port) (tag l : Byte) (period : Half) (window action fallback : Byte)
  /-- FRS_START, R157. -/
  | frsStart (port : Port) (tag l : Byte)
  /-- FRS_STOP, R157. -/
  | frsStop (port : Port) (tag l : Byte)
  /-- FRS_TOUCH, R160. -/
  | frsTouch (port : Port) (tag l : Byte)
  /-- FRS_LOCK, R164. -/
  | frsLock (port : Port) (tag l : Byte)
  /-- RPT_BLOCK, R168. -/
  | rptBlock (port : Port) (tag n k : Byte)
  /-- RPT_AGAIN, R172. -/
  | rptAgain (port : Port) (tag k : Byte)
  /-- RPT_LOOP, R167. -/
  | rptLoop (port : Port) (tag m : Byte)
  /-- SUMMARY_RECORD, R171: the executor writes the summary record of a replay that has ended. -/
  | summaryRecord (port : Port)
  /-- OUTPUT_FRAME_START, R87: the parts of the frame start in the order they are taken; a part that is not named
  is taken after those named. -/
  | outputFrameStart (order : List FrameWork)
  /-- SILENCE_LIMIT, R113. -/
  | silenceLimit
  /-- MONITOR_EXPIRY, R159. -/
  | monitorExpiry (layer : Fin 8)
  /-- TIMER_EXPIRY, R149. -/
  | timerExpiry (timer : Fin 4)
  /-- CAPTURE_TAKEOVER, R132. -/
  | captureTakeover
  /-- CAP_ACTIVATE, R129. -/
  | capActivate
  /-- FIRST_FRAME_MARK, R109. -/
  | firstFrameMark
  /-- INPUT_FRAME_END, R111: what the bus carried since the last frame mark, and the order of the blocks' work. -/
  | inputFrameEnd (bus : List BusSample) (order : List MarkWork)
  /-- RESET_ASSERTED, R184. -/
  | resetAsserted
  /-- RESET_RELEASED, R103. -/
  | resetReleased
  /-- SELECT_ASSERTED, R174: the assertion of select; with a kind byte, also the moment that byte has been
  received, at which the reply is fixed. -/
  | selectAsserted (port : Port) (kind : Option Byte)
deriving DecidableEq, Repr

end Sys2Proof
end

