-- ==== Sys2Proof/Decode.lean ====
section
/-! DEFINITION. The commands that a word spells by the bits of spec/opcode_table.json. No row of the table gives bits, so
no word spells a command. The bytes of a command frame are laid out in Machine/Frames.lean and read by the executor
(R177). -/

namespace Sys2Proof

/-- The command that the `nbits` bits of `w` spell: none, since no row gives bits. -/
def decodeTableWord (_nbits _w : Nat) : Option Instr := none

end Sys2Proof
end

