-- ==== Sys2Proof/Machine/State.lean ====
section
/-! DEFINITION. Everything the TK540 holds, as plain data, and its value after reset. Numbers that the spec adds,
compares and clamps are Nat or Int; words that it numbers bit by bit (the event word, the mask, link bytes) are bit
vectors. A bound that is a plain fact about one field is a Fin; the other ranges are invariants (Safety.lean). -/

namespace Sys2Proof.Machine

/-! ### Outcome codes -/

/-- The outcome codes of section 11.7. -/
inductive OutcomeCode where
  | ok | okClamped | okTruncated | badArg | notOwner | taken | inUse | slotBusy | slotState | poolEmpty | layerFull
  | waitFrame | noEdit | short | clipFull | clipEmpty | noBlock | barred | stopped | capFull | noInput | tooLarge
  | locked | cancelled
deriving DecidableEq, Repr

/-- Faults. The spec names no state in which the part stops: every command is answered with an outcome code, and an
event that a block does not act on changes nothing. So there is none. -/
inductive Fault where
deriving DecidableEq, Repr

/-- Refusals. -/
inductive Refusal where
  /-- Raised by `exec` alone, for a row of the table that has no meaning yet (none now). Safe: the run stops. -/
  | notModelled (mnemonic : String)
deriving DecidableEq, Repr

/-! ### Colours, rectangles, images -/

/-- A colour: luminance and the two colour differences. -/
structure Colour where
  y : Nat
  cb : Nat
  cr : Nat
deriving DecidableEq, Repr

/-- An inclusive rectangle in raster coordinates; empty when a first corner exceeds its second (R40). -/
structure Rect where
  x0 : Nat
  y0 : Nat
  x1 : Nat
  y1 : Nat
deriving DecidableEq, Repr

/-- The full raster (R40). -/
def Rect.raster : Rect := ⟨0, 0, 959, 539⟩

/-- The two slot image formats (R48). -/
inductive Format where
  | direct | indexed
deriving DecidableEq, Repr

/-- One cell of pixel memory (R48): a colour, or a 4-bit code. -/
inductive Pixel where
  | direct (c : Colour)
  | indexed (code : Fin 16)
deriving DecidableEq, Repr

/-- A frame of the input store, with its own width and height (R115): its stored lines, top first (R110). -/
structure VideoFrame where
  width : Nat
  height : Nat
  lines : List (List Colour)
deriving DecidableEq, Repr

/-! ### The Scene Table -/

/-- Whether a port holds a layer (R2). -/
inductive Binding where
  | unbound | bound | releasing
deriving DecidableEq, Repr

/-- What a layer draws (R1). -/
inductive Source where
  | placements | vin
deriving DecidableEq, Repr

/-- The effect of a layer's freshness monitor (R22). -/
inductive Expired where
  | none | hidden | fallback
deriving DecidableEq, Repr

/-- A placement entry in a list (R26). -/
structure Placement where
  index : Fin 128
  slot : Fin 64
  px : Int
  py : Int
  clip : Option Rect
  w0 : Fin 32
  w1 : Fin 32
deriving DecidableEq, Repr

/-- The live attributes of a layer other than current opacity (R1, R3). -/
structure Attributes where
  visible : Bool
  target : Nat
  step : Nat
  ox : Int
  oy : Int
  source : Source
  clip : Rect
deriving DecidableEq, Repr

/-- The attributes of R1 after RESET. -/
def Attributes.reset : Attributes := ⟨false, 16, 0, 0, 0, .placements, Rect.raster⟩

/-- The staged next state of a layer (R3). -/
structure PendingRecord where
  attrs : Attributes
  list : List Placement
  committed : Bool
  clearsExpiry : Bool
deriving DecidableEq, Repr

/-- A layer record (R1). -/
structure Layer where
  binding : Binding
  owner : Option Port
  attrs : Attributes
  current : Nat
  live : List Placement
  staged : Option PendingRecord
  expired : Expired
deriving DecidableEq, Repr

/-- The last column of R1. -/
def Layer.reset : Layer := ⟨.unbound, none, Attributes.reset, 16, [], none, .none⟩

/-! ### The Slot Store -/

/-- The six states of a slot (R49). -/
inductive SlotState where
  | free | empty | opening | opened | ready | orphan
deriving DecidableEq, Repr

/-- A slot record (R47) with the pixel memory behind it: the pixels at write positions 0, 1, 2, ...; a position past
the list's last has not been written since power-on (log 3). -/
structure Slot where
  state : SlotState
  owner : Option Port
  format : Format
  width : Nat
  height : Nat
  writePos : Nat
  refCount : Nat
  captureFlag : Bool
  orphanVisible : Bool
  pixels : List Pixel
deriving DecidableEq, Repr

/-- The last column of R47 over a pixel memory that is kept (R53, R63, R64, R66). -/
def Slot.freed (pixels : List Pixel) : Slot := ⟨.free, none, .direct, 0, 0, 0, 0, false, false, pixels⟩

/-! ### The Palette Unit -/

/-- A palette entry (R70). -/
structure PaletteEntry where
  colour : Colour
  alpha : Nat
deriving DecidableEq, Repr

/-- Every entry of both copies after RESET (R70). -/
def PaletteEntry.reset : PaletteEntry := ⟨⟨16, 128, 128⟩, 0⟩

/-! ### The Trailer Input -/

/-- The judgement of the decoder signal (R112). -/
inductive LockState where
  | off | acquiring | locked | lost
deriving DecidableEq, Repr

/-- A frame being received (R104, R111): the format it began under, and whether a VIN_FORMAT has been taken since.
Its pixels come with the input frame end that ends it (log 14). -/
structure ReceivingFrame where
  width : Nat
  height : Nat
  stale : Bool
deriving DecidableEq, Repr

/-- The record of R104. -/
structure TrailerInput where
  holder : Option Port
  width : Nat
  height : Nat
  settle : Nat
  captureEnabled : Bool
  lock : LockState
  goodCount : Nat
  badRun : Nat
  silence : Nat
  receiving : Option ReceivingFrame
  ready : Option VideoFrame
  shown : Option VideoFrame
deriving DecidableEq, Repr

/-- The last column of R104. -/
def TrailerInput.reset : TrailerInput := ⟨none, 960, 540, 1, false, .off, 0, 0, 0, none, none, none⟩

/-! ### The Capture Unit -/

/-- How a capture request was made (R120). -/
inductive Origin where
  | command
  | timer (t : Fin 4)
deriving DecidableEq, Repr

/-- The part of an input frame that is decimated, and the decimation (R120). -/
structure Crop where
  x : Nat
  y : Nat
  w : Nat
  h : Nat
  dx : Nat
  dy : Nat
deriving DecidableEq, Repr

/-- A capture request (R120). -/
structure CaptureRequest where
  requester : Port
  tag : Byte
  slot : Fin 64
  crop : Crop
  origin : Origin
deriving DecidableEq, Repr

/-- Where the unit stands in serving the active request (R121). -/
inductive Phase where
  | idle | settle | sample | held | recover
deriving DecidableEq, Repr

/-- The sampled frame (R131): none, the frame that begins at the next mark, or the frame now in reception. -/
inductive Sampled where
  | none | awaited | receiving
deriving DecidableEq, Repr

/-- The result buffer (R121): in `forming` the sums of a thumbnail whose pixels have not come yet (log 14). -/
inductive ResultBuffer where
  | empty
  | forming (width height : Nat)
  | finished (width height : Nat) (pixels : List Colour)
deriving DecidableEq, Repr

/-- The state of the Capture Unit (R120, R121). -/
structure CaptureUnit where
  queue : List CaptureRequest
  active : Option CaptureRequest
  phase : Phase
  settleCount : Nat
  sampled : Sampled
  result : ResultBuffer
deriving DecidableEq, Repr

/-- R121 and R141: the Capture Unit after RESET. -/
def CaptureUnit.reset : CaptureUnit := ⟨[], none, .idle, 0, .none, .empty⟩

/-- A capture report (R139). -/
structure CaptureReport where
  tag : Byte
  slot : Fin 64
  outcome : OutcomeCode
  origin : Origin
deriving DecidableEq, Repr

/-! ### The frame timers -/

/-- What a FREE or ONESHOT timer counts (R142). -/
inductive TimerSource where
  | ofs | ife
deriving DecidableEq, Repr

/-- What a timer does (R142). -/
inductive TimerMode where
  | free | oneshot | measure
deriving DecidableEq, Repr

/-- What an expiry does besides reloading (R142). -/
inductive TimerAction where
  | event | capture
deriving DecidableEq, Repr

/-- The capture template of a timer (R142, R146). -/
structure Template where
  crop : Crop
  first : Nat
  count : Nat
deriving DecidableEq, Repr

/-- A frame timer (R142). -/
structure FrameTimer where
  holder : Option Port
  running : Bool
  source : TimerSource
  prescaler : Nat
  prescaleCount : Nat
  reload : Nat
  count : Nat
  mode : TimerMode
  action : TimerAction
  template : Option Template
  templateIndex : Nat
  measured : Nat
deriving DecidableEq, Repr

/-- The last column of R142. -/
def FrameTimer.reset : FrameTimer := ⟨none, false, .ofs, 1, 0, 65535, 65535, .free, .event, none, 0, 0⟩

/-! ### The freshness monitors -/

/-- What an expiry does to the layer (R154). -/
inductive MonitorAction where
  | hold | hide | fallback
deriving DecidableEq, Repr

/-- A freshness monitor (R154). -/
structure Monitor where
  period : Nat
  window : Nat
  action : MonitorAction
  fallback : Option (Fin 64)
  remaining : Nat
  running : Bool
  locked : Bool
  lockingPort : Option Port
deriving DecidableEq, Repr

/-- The last column of R154. -/
def Monitor.reset : Monitor := ⟨60, 4, .hold, none, 60, false, false, none⟩

/-! ### The Compositor -/

/-- What the view holds of one layer: every field of R1 but the pending record (R25), and the fallback of its monitor
(R87). -/
structure LayerView where
  binding : Binding
  owner : Option Port
  attrs : Attributes
  current : Nat
  live : List Placement
  expired : Expired
  fallback : Option (Fin 64)
deriving DecidableEq, Repr

/-- A slot image in the view (R61). -/
structure Image where
  format : Format
  width : Nat
  height : Nat
  pixels : List Pixel
deriving DecidableEq, Repr

/-- The Compositor's view of one frame (R87). -/
structure View where
  zOrder : List (Fin 8)
  backdrop : Colour
  layers : Vector LayerView 8
  images : Vector (Option Image) 64
  palette : Vector PaletteEntry 256
  shown : Option VideoFrame
deriving DecidableEq, Repr

/-! ### The ports -/

/-- A command frame as received (R175): the part does not look at the code or the operands before it is taken. -/
structure Frame where
  tag : Byte
  code : Byte
  operands : List Byte
deriving DecidableEq, Repr

/-- A result record (R178). -/
structure ResultRecord where
  tag : Byte
  code : Byte
  outcome : OutcomeCode
  value : Nat
  extra : List Byte
deriving DecidableEq, Repr

/-- A placement cursor (R35). -/
structure Cursor where
  x : Int
  y : Int
  x0 : Int
  dx : Int
  dy : Int
  columns : Nat
  column : Nat
  slot : Fin 64
  step : Int
deriving DecidableEq, Repr

/-- The last column of R35. -/
def Cursor.reset : Cursor := ⟨0, 0, 0, 0, 0, 1, 0, 0, 0⟩

/-- Where a port stands in a block (R166). -/
inductive RepeatState where
  | none | capturing | replaying
deriving DecidableEq, Repr

/-- The repeat record (R166), with the place the replay has reached in the cache (0 for the first command) and the
summary record that awaits its writing (R171). -/
structure RepeatRecord where
  cache : List Frame
  loopCount : Nat
  state : RepeatState
  commandsLeft : Nat
  passCount : Nat
  passesLeft : Nat
  passesCompleted : Nat
  starter : Option (Byte × Byte)
  place : Nat
  summary : Option ResultRecord
deriving DecidableEq, Repr

/-- The last column of R166, with no summary record (R183). -/
def RepeatRecord.reset : RepeatRecord := ⟨[], 0, .none, 0, 1, 0, 0, none, 0, none⟩

/-- A link's select line and the transaction it carries (R174). -/
inductive Link where
  /-- select is released -/
  | idle
  /-- a transaction is in progress: the status byte and the queue-full indication fixed when select was asserted, and,
  once the kind byte has been received, that byte and the reply it fixed -/
  | selected (status : Byte) (queueFull : Bool) (reply : Option (Byte × List Byte))
  /-- select is asserted and ignored until it has been released once (R184) -/
  | ignored
deriving DecidableEq, Repr

/-- One port (R183): queue, ring, reports, events, mask, Port Context and link. `sdo` is the model's record of the
bytes that the link shifted out in its last transaction. The clip stack has its top entry first. -/
structure PortState where
  queue : List Frame
  ring : List ResultRecord
  reports : List CaptureReport
  sticky : BitVec 9
  mask : BitVec 9
  wp0 : Fin 32
  wp1 : Fin 32
  cursor0 : Cursor
  cursor1 : Cursor
  clips : List Rect
  rpt : RepeatRecord
  link : Link
  sdo : List Byte
deriving DecidableEq, Repr

/-- A port after RESET, and, but for its link, after a port reset (R183). -/
def PortState.reset : PortState :=
  ⟨[], [], [], 0, 0, 0, 1, Cursor.reset, Cursor.reset, [], RepeatRecord.reset, .idle, []⟩

/-! ### The part -/

/-- The whole part. `resetPin` is the RESET pin asserted; `frameTaken` is the model's record of the parts of the coming
frame start that have been taken as steps of their own (log 5); `pending` is the queue of events to come. -/
structure State where
  layers : Vector Layer 8
  zLive : List (Fin 8)
  zPending : List (Fin 8)
  backdropLive : Colour
  backdropPending : Colour
  slots : Vector Slot 64
  palLive : Vector PaletteEntry 256
  palPending : Vector PaletteEntry 256
  sliceOwner : Vector (Option Port) 32
  ports : Vector PortState 3
  vin : TrailerInput
  cap : CaptureUnit
  timers : Vector FrameTimer 4
  monitors : Vector Monitor 8
  view : Option View
  resetPin : Bool
  frameTaken : List FrameWork
  pending : List Instr
deriving DecidableEq, Repr

/-- The backdrop after RESET (R7). -/
def Colour.backdropReset : Colour := ⟨16, 128, 128⟩

/-- The z-order after RESET (R6). -/
def zOrderReset : List (Fin 8) := [0, 1, 2, 3, 4, 5, 6, 7]

/-- The part right after reset, the RESET pin released again (log 1). -/
def State.reset : State where
  layers := Vector.replicate 8 Layer.reset
  zLive := zOrderReset
  zPending := zOrderReset
  backdropLive := Colour.backdropReset
  backdropPending := Colour.backdropReset
  slots := Vector.replicate 64 (Slot.freed [])
  palLive := Vector.replicate 256 PaletteEntry.reset
  palPending := Vector.replicate 256 PaletteEntry.reset
  sliceOwner := Vector.replicate 32 none
  ports := Vector.replicate 3 PortState.reset
  vin := TrailerInput.reset
  cap := CaptureUnit.reset
  timers := Vector.replicate 4 FrameTimer.reset
  monitors := Vector.replicate 8 Monitor.reset
  view := none
  resetPin := false
  frameTaken := []
  pending := []

end Sys2Proof.Machine
end

