-- ==== Sys2Proof/Machine/Operands.lean ====
section
/-! DEFINITION. Operand forms and byte layouts: the wire order of wide operands (R174, R175), the codes of section
11.9, clamping, and the lines and pixels of the video input bus (R110). -/

namespace Sys2Proof.Machine

/-! ### Bytes and bits -/

/-- A two-byte field, high byte first (R175). -/
def halfBytes (v : Half) : List Byte := [v.extractLsb' 8 8, v.extractLsb' 0 8]

/-- An unsigned number as a two-byte field. -/
def natBytes (n : Nat) : List Byte := halfBytes (BitVec.ofNat 16 n)

/-- A signed number as a two-byte field, in two's complement (R175). -/
def intBytes (x : Int) : List Byte := halfBytes (BitVec.ofInt 16 x)

/-- The bits of a byte in the order the link shifts them: most significant first (R174). -/
def byteBits (b : Byte) : List Bool :=
  [b.getLsbD 7, b.getLsbD 6, b.getLsbD 5, b.getLsbD 4, b.getLsbD 3, b.getLsbD 2, b.getLsbD 1, b.getLsbD 0]

/-- The byte that eight bits shifted in make, the first one the most significant (R174). -/
def bitsByte (bits : List Bool) : Byte := BitVec.ofNat 8 (bits.foldl (fun n b => 2 * n + b.toNat) 0)

/-- A number as one byte. -/
def natByte (n : Nat) : Byte := BitVec.ofNat 8 n

/-- A boolean as 00h or 01h (section 11.9). -/
def boolByte (b : Bool) : Byte := if b then 1 else 0

/-! ### Clamping -/

/-- A value below the range becomes its lowest value and one above it its highest. -/
def clampNat (lo hi n : Nat) : Nat := if n < lo then lo else if hi < n then hi else n

/-- The same over the integers. -/
def clampInt (lo hi x : Int) : Int := if x < lo then lo else if hi < x then hi else x

/-- A colour brought into video range: Y into 16..235, Cb and Cr into 16..240 (R16, R56, R77, R110). -/
def clampColour (y cb cr : Nat) : Colour := ⟨clampNat 16 235 y, clampNat 16 240 cb, clampNat 16 240 cr⟩

/-- A signed clamp whose result is kept as a coordinate of the raster. -/
def clampCoord (hi : Nat) (x : Int) : Nat := (clampInt 0 hi x).toNat

/-- A layer or placement coordinate, −2048 to 2047 (R12, R32, R36). -/
def clampPos (x : Int) : Int := clampInt (-2048) 2047 x

/-- Four signed corners brought onto the raster (R12, R41). -/
def clampRect (x0 y0 x1 y1 : Int) : Rect :=
  ⟨clampCoord 959 x0, clampCoord 539 y0, clampCoord 959 x1, clampCoord 539 y1⟩

/-- Whether clamping changed none of the four corners. -/
def rectUnclamped (x0 y0 x1 y1 : Int) : Bool :=
  x0 = clampInt 0 959 x0 && y0 = clampInt 0 539 y0 && x1 = clampInt 0 959 x1 && y1 = clampInt 0 539 y1

/-- The success code of a command that clamps: OK when nothing was changed. -/
def clampOutcome (unchanged : Bool) : OutcomeCode := if unchanged then .ok else .okClamped

/-! ### Numbers named by an operand byte -/

/-- A layer number, 0 to 7 (R2). -/
def layerOf (b : Byte) : Option (Fin 8) := if h : b.toNat < 8 then some ⟨b.toNat, h⟩ else none

/-- A slot number, 0 to 63 (R50). -/
def slotOf (b : Byte) : Option (Fin 64) := if h : b.toNat < 64 then some ⟨b.toNat, h⟩ else none

/-- A slice number, 0 to 31 (R75, R82). -/
def sliceOf (b : Byte) : Option (Fin 32) := if h : b.toNat < 32 then some ⟨b.toNat, h⟩ else none

/-- A timer number, 0 to 3 (R143). -/
def timerOf (b : Byte) : Option (Fin 4) := if h : b.toNat < 4 then some ⟨b.toNat, h⟩ else none

/-- A slot number reached by counting, when it is one. -/
def slotAt (n : Nat) : Option (Fin 64) := if h : n < 64 then some ⟨n, h⟩ else none

/-! ### Codes of modes (section 11.9): 00h and 01h, or 00h to 02h, in the order the chapters name them -/

/-- A yes or no, an off or on (log 13). -/
def boolOf (b : Byte) : Option Bool := if b = 0 then some false else if b = 1 then some true else none

/-- PLACEMENTS, VIN. -/
def sourceOf (b : Byte) : Option Source := if b = 0 then some .placements else if b = 1 then some .vin else none

/-- DIRECT, INDEXED. -/
def formatOf (b : Byte) : Option Format := if b = 0 then some .direct else if b = 1 then some .indexed else none

/-- OFS, IFE. -/
def timerSourceOf (b : Byte) : Option TimerSource := if b = 0 then some .ofs else if b = 1 then some .ife else none

/-- FREE, ONESHOT, MEASURE. -/
def timerModeOf (b : Byte) : Option TimerMode :=
  if b = 0 then some .free else if b = 1 then some .oneshot else if b = 2 then some .measure else none

/-- EVENT, CAPTURE. -/
def timerActionOf (b : Byte) : Option TimerAction := if b = 0 then some .event else if b = 1 then some .capture else none

/-- HOLD, HIDE, FALLBACK. -/
def monitorActionOf (b : Byte) : Option MonitorAction :=
  if b = 0 then some .hold else if b = 1 then some .hide else if b = 2 then some .fallback else none

/-- A fallback operand: FFh absent, else a slot number; `none` for any other value (R155). -/
def fallbackOf (b : Byte) : Option (Option (Fin 64)) :=
  if b = 0xFF then some none else (slotOf b).map some

/-- A prescaler: 1, 2, 4 or 8 (R145). -/
def prescalerOf (b : Byte) : Option Nat :=
  if b = 1 then some 1 else if b = 2 then some 2 else if b = 4 then some 4 else if b = 8 then some 8 else none

/-- Ports are coded 00h to 02h. -/
def portByte : Port → Byte
  | .cl0 => 0x00
  | .cl1 => 0x01
  | .cl2 => 0x02

/-- A port or none: FFh for none. -/
def holderByte : Option Port → Byte
  | none => 0xFF
  | some p => portByte p

/-- The outcome codes of section 11.7. -/
def outcomeByte : OutcomeCode → Byte
  | .ok => 0x00
  | .okClamped => 0x01
  | .okTruncated => 0x02
  | .badArg => 0x10
  | .notOwner => 0x11
  | .taken => 0x12
  | .inUse => 0x13
  | .slotBusy => 0x14
  | .slotState => 0x15
  | .poolEmpty => 0x16
  | .layerFull => 0x17
  | .waitFrame => 0x18
  | .noEdit => 0x19
  | .short => 0x1A
  | .clipFull => 0x1B
  | .clipEmpty => 0x1C
  | .noBlock => 0x1D
  | .barred => 0x1E
  | .stopped => 0x1F
  | .capFull => 0x20
  | .noInput => 0x21
  | .tooLarge => 0x22
  | .locked => 0x23
  | .cancelled => 0x24

/-- Codes 00h to 02h report success (section 11.7); a replay goes on after them alone (R170). -/
def OutcomeCode.success : OutcomeCode → Bool
  | .ok | .okClamped | .okTruncated => true
  | _ => false

/-- The state field of SLT_INFO's first extra byte. -/
def slotStateCode : SlotState → Nat
  | .free => 0
  | .empty => 1
  | .opening => 2
  | .opened => 3
  | .ready => 4
  | .orphan => 5

/-- The lock state byte. -/
def lockByte : LockState → Byte
  | .off => 0
  | .acquiring => 1
  | .locked => 2
  | .lost => 3

/-- The mode field of TMR_READ. -/
def timerModeCode : TimerMode → Nat
  | .free => 0
  | .oneshot => 1
  | .measure => 2

/-- The origin byte of a capture report: 00h COMMAND, 10h + n for TIMER n. -/
def originByte : Origin → Byte
  | .command => 0x00
  | .timer t => natByte (0x10 + t.val)

/-- The repeat state byte of STAT (R182). -/
def repeatByte : RepeatState → Byte
  | .none => 0
  | .capturing => 1
  | .replaying => 2

/-! ### Frames -/

/-- How many operand bytes a command code carries in the table of section 11.9; SLT_DATA is given by `Frame.known`. -/
def operandCount (code : Byte) : Option Nat :=
  match code.toNat with
  | 0x10 => some 1
  | 0x11 => some 1
  | 0x12 => some 2
  | 0x13 => some 17
  | 0x14 => some 1
  | 0x15 => some 2
  | 0x16 => some 3
  | 0x20 => some 6
  | 0x21 => some 2
  | 0x22 => some 12
  | 0x23 => some 8
  | 0x24 => some 0
  | 0x25 => some 2
  | 0x30 => some 0
  | 0x31 => some 1
  | 0x32 => some 1
  | 0x33 => some 6
  | 0x35 => some 6
  | 0x36 => some 1
  | 0x37 => some 1
  | 0x40 => some 1
  | 0x41 => some 1
  | 0x42 => some 5
  | 0x43 => some 5
  | 0x50 => some 0
  | 0x51 => some 0
  | 0x52 => some 5
  | 0x53 => some 1
  | 0x54 => some 1
  | 0x55 => some 11
  | 0x56 => some 1
  | 0x60 => some 1
  | 0x61 => some 1
  | 0x62 => some 7
  | 0x63 => some 13
  | 0x64 => some 1
  | 0x65 => some 1
  | 0x66 => some 1
  | 0x70 => some 6
  | 0x71 => some 1
  | 0x72 => some 1
  | 0x73 => some 1
  | 0x74 => some 1
  | 0x78 => some 2
  | 0x79 => some 1
  | 0x7A => some 1
  | _ => none

/-- Whether a frame has a code of the table and the operand count of its layout (R177); SLT_DATA admits 0 to 252 data
bytes after the slot. -/
def Frame.known (f : Frame) : Bool :=
  if f.code = 0x34 then 1 ≤ f.operands.length && f.operands.length ≤ 1 + Config.dataMax
  else operandCount f.code = some f.operands.length

/-- The barred codes of R169. -/
def barredCode (code : Byte) : Bool :=
  code ∈ ([0x78, 0x79, 0x7A, 0x10, 0x11, 0x30, 0x31, 0x32, 0x40, 0x41, 0x50, 0x51, 0x60, 0x61, 0x33, 0x34, 0x35, 0x36,
    0x52, 0x53, 0x54, 0x74] : List Byte)

/-- A frame that R169 bars: a barred command of the table. A frame that is no command of the table is not barred but
refused BAD_ARG by the executor (log 12). -/
def Frame.barred (f : Frame) : Bool := f.known && barredCode f.code

/-- The frame that a CMD payload carries: tag, code, operands (R175). -/
def frameOfPayload : List Byte → Frame
  | tag :: code :: operands => ⟨tag, code, operands⟩
  | [tag] => ⟨tag, 0, []⟩
  | [] => ⟨0, 0, []⟩

/-! ### The video input bus (R110) -/

/-- The samples at the front that continue a line, and the lines after them. -/
def busRuns : List BusSample → List Half × List (List Half)
  | [] => ([], [])
  | b :: rest =>
    let (run, done) := busRuns rest
    if b.lineValid then (b.data :: run, done)
    else ([], if run = [] then done else run :: done)

/-- The lines between two frame marks: each a run of pixels with line valid asserted (R110). A run that is still asserted
across a mark, for which the spec names no frame, is cut there: one line ends the frame before the mark and another
begins the frame after it (DESIGN CHOICE, log 29). -/
def busLines (bus : List BusSample) : List (List Half) :=
  let (run, done) := busRuns bus
  if run = [] then done else run :: done

/-- Y on VIN_D[15:8]. -/
def busY (v : Half) : Nat := (v.extractLsb' 8 8).toNat

/-- The colour difference on VIN_D[7:0]. -/
def busC (v : Half) : Nat := (v.extractLsb' 0 8).toNat

/-- A line as stored: pixels 2k and 2k + 1 share the Cb of the first and the Cr of the second; a last pixel without a
partner takes Cr 128; every component is brought into video range. -/
def lineColours : List Half → List Colour
  | a :: b :: rest => clampColour (busY a) (busC a) (busC b) :: clampColour (busY b) (busC a) (busC b) :: lineColours rest
  | [a] => [clampColour (busY a) (busC a) 128]
  | [] => []

/-- What a frame buffer stores of the lines: 960 pixels of a line, 540 lines. -/
def storedLines (lines : List (List Half)) : List (List Colour) :=
  (lines.take Config.rasterHeight).map fun line => (lineColours line).take Config.rasterWidth

end Sys2Proof.Machine
end

