-- ==== Sys2Proof/Machine/Ops.lean ====
section
/-! DEFINITION. The named reads and writes of the part's records, and the operations that several commands and events
share: reference counts (R62, R63), the placement pool (R4), discarding a pending record (R3), releasing a layer (R10),
monitor expiry (R159), ending, aborting and activating capture requests (R129, R134), moving the lock state (R114). -/

namespace Sys2Proof.Machine

/-! ### Reading and writing one record -/

/-- The place of a port in the port table. -/
def portIndex : Port → Fin 3
  | .cl0 => 0
  | .cl1 => 1
  | .cl2 => 2

/-- The record of layer `l`. -/
def State.layer (s : State) (l : Fin 8) : Layer := s.layers[l.val]

/-- Replaces the record of layer `l`. -/
def State.setLayer (s : State) (l : Fin 8) (x : Layer) : State := { s with layers := s.layers.set l.val x }

/-- The record of slot `i`. -/
def State.slot (s : State) (i : Fin 64) : Slot := s.slots[i.val]

/-- Replaces the record of slot `i`. -/
def State.setSlot (s : State) (i : Fin 64) (x : Slot) : State := { s with slots := s.slots.set i.val x }

/-- The state of port `p`. -/
def State.port (s : State) (p : Port) : PortState := s.ports[(portIndex p).val]

/-- Replaces the state of port `p`. -/
def State.setPort (s : State) (p : Port) (x : PortState) : State := { s with ports := s.ports.set (portIndex p).val x }

/-- Timer `t`. -/
def State.timer (s : State) (t : Fin 4) : FrameTimer := s.timers[t.val]

/-- Replaces timer `t`. -/
def State.setTimer (s : State) (t : Fin 4) (x : FrameTimer) : State := { s with timers := s.timers.set t.val x }

/-- The monitor of layer `l`. -/
def State.monitor (s : State) (l : Fin 8) : Monitor := s.monitors[l.val]

/-- Replaces the monitor of layer `l`. -/
def State.setMonitor (s : State) (l : Fin 8) (x : Monitor) : State := { s with monitors := s.monitors.set l.val x }

/-- Replaces the Trailer Input's record. -/
def State.setVin (s : State) (x : TrailerInput) : State := { s with vin := x }

/-- Replaces the Capture Unit's state. -/
def State.setCap (s : State) (x : CaptureUnit) : State := { s with cap := x }

/-- The owner of slice `i`; slices 0 and 1 have none (R71). -/
def State.sliceHolder (s : State) (i : Fin 32) : Option Port := s.sliceOwner[i.val]

/-- Writes the owner field of slice `i`. -/
def State.setSliceHolder (s : State) (i : Fin 32) (x : Option Port) : State :=
  { s with sliceOwner := s.sliceOwner.set i.val x }

/-- Writes the pending copy of palette entry `n` (R72). -/
def State.setPalPending (s : State) (n : Fin 256) (e : PaletteEntry) : State :=
  { s with palPending := s.palPending.set n.val e }

/-! ### Event flags (R180) -/

/-- The nine event flags. -/
inductive EventFlag where
  | result | frame | capDone | capAbort | trigMiss | timer | expired | vinChange | linkErr
deriving DecidableEq, Repr

/-- The event word with one flag's bit set. -/
def flagBit : EventFlag → BitVec 9
  | .result => 0x001
  | .frame => 0x002
  | .capDone => 0x004
  | .capAbort => 0x008
  | .trigMiss => 0x010
  | .timer => 0x020
  | .expired => 0x040
  | .vinChange => 0x080
  | .linkErr => 0x100

/-- Sets a sticky flag at a port. -/
def State.raise (s : State) (p : Port) (f : EventFlag) : State :=
  s.setPort p { s.port p with sticky := (s.port p).sticky ||| flagBit f }

/-- Sets a flag at a port when there is one. -/
def State.raiseAt (s : State) (p : Option Port) (f : EventFlag) : State :=
  match p with
  | none => s
  | some p => s.raise p f

/-- Sets a flag at all three ports. -/
def State.raiseAll (s : State) (f : EventFlag) : State := ((s.raise .cl0 f).raise .cl1 f).raise .cl2 f

/-! ### Answers -/

/-- What a block answers to a command: the outcome, value and extra bytes of its result record. `silent` marks the one
command that yields no record when it is accepted, RPT_AGAIN (R172). -/
structure Answer where
  outcome : OutcomeCode
  value : Nat := 0
  extra : List Byte := []
  silent : Bool := false
deriving DecidableEq, Repr

/-- A refusal: value 0 and no extra bytes (R177). -/
def refuse (o : OutcomeCode) : Answer := { outcome := o }

/-! ### Reference counts (R62, R63) -/

/-- One more reference to slot `i`. -/
def State.addRef (s : State) (i : Fin 64) : State :=
  s.setSlot i { s.slot i with refCount := (s.slot i).refCount + 1 }

/-- A slot record after it loses a reference: an ORPHAN slot whose count falls to 0 becomes FREE (R63). -/
def slotLessRef (sl : Slot) : Slot :=
  if sl.state = .orphan ∧ sl.refCount ≤ 1 then Slot.freed sl.pixels else { sl with refCount := sl.refCount - 1 }

/-- One reference less to slot `i`. -/
def State.dropRef (s : State) (i : Fin 64) : State := s.setSlot i (slotLessRef (s.slot i))

/-- One more reference for each placement of a list. -/
def State.addRefs (s : State) (ps : List Placement) : State := ps.foldl (fun s p => s.addRef p.slot) s

/-- One reference less for each placement of a list. -/
def State.dropRefs (s : State) (ps : List Placement) : State := ps.foldl (fun s p => s.dropRef p.slot) s

/-! ### The placement pool (R4) -/

/-- The entries of a layer's pending list. -/
def Layer.stagedList (x : Layer) : List Placement :=
  match x.staged with
  | none => []
  | some r => r.list

/-- The entries that a layer's two lists hold. -/
def Layer.entries (x : Layer) : List Placement := x.live ++ x.stagedList

/-- Every placement in a list of any layer. -/
def State.placements (s : State) : List Placement := (List.finRange 8).flatMap fun l => (s.layer l).entries

/-- The pool entries that are in a list. -/
def State.poolUsed (s : State) : List (Fin 128) := s.placements.map (·.index)

/-- The free pool entries, in ascending number. -/
def State.poolFree (s : State) : List (Fin 128) := (List.finRange 128).filter fun i => i ∉ s.poolUsed

/-! ### Layers -/

/-- Discards the pending record of layer `l`, if there is one: its entries return to the pool and their slots lose a
reference each (R3). -/
def State.discardStaged (s : State) (l : Fin 8) : State :=
  (s.setLayer l { s.layer l with staged := none }).dropRefs (s.layer l).stagedList

/-- The fallback slot that the view of the frame in progress took for layer `l` (R87, R156). -/
def State.viewFallback (s : State) (l : Fin 8) : Option (Fin 64) := s.view.bind fun v => v.layers[l.val].fallback

/-- Takes the monitor's own reference in a slot away, at once unless the view of the frame in progress took that slot
as this monitor's fallback (R156). -/
def State.dropFallback (s : State) (l : Fin 8) (old : Option (Fin 64)) : State :=
  match old with
  | none => s
  | some y => if s.viewFallback l = some y then s else s.dropRef y

/-- What a layer's monitor does when the layer becomes RELEASING: an unlocked one returns to its reset values and
gives up its fallback (R163). -/
def State.releaseMonitor (s : State) (l : Fin 8) : State :=
  let m := s.monitor l
  if m.locked then s
  else (s.setMonitor l { Monitor.reset with locked := m.locked, lockingPort := m.lockingPort }).dropFallback l m.fallback

/-- A BOUND layer becomes RELEASING: its pending record is discarded and its monitor returned (R10, R24, R163). -/
def State.releaseLayer (s : State) (l : Fin 8) : State :=
  let s := s.discardStaged l
  (s.setLayer l { s.layer l with binding := .releasing }).releaseMonitor l

/-- The condition that a monitor's action sets (R159). -/
def expiredBy (a : MonitorAction) (e : Expired) : Expired :=
  match a with
  | .hold => e
  | .hide => .hidden
  | .fallback => .fallback

/-- The pending record after an expiry: HIDE and FALLBACK clear the clears-expiry flag of a committed record (R22). -/
def stagedAfterExpiry (a : MonitorAction) (r : Option PendingRecord) : Option PendingRecord :=
  match a with
  | .hold => r
  | .hide | .fallback => r.map fun r => if r.committed then { r with clearsExpiry := false } else r

/-- The port at which a layer's expiry is raised as its owner's: the recorded owner of a BOUND or RELEASING layer. -/
def Layer.notified (x : Layer) : Option Port :=
  match x.binding with
  | .unbound => none
  | .bound | .releasing => x.owner

/-- A monitor expiry, by the count or by an early touch (R159). -/
def State.expireMonitor (s : State) (l : Fin 8) : State :=
  let m := s.monitor l
  let x := s.layer l
  let s := s.setLayer l { x with expired := expiredBy m.action x.expired, staged := stagedAfterExpiry m.action x.staged }
  let s := (s.raiseAt x.notified .expired).raiseAt m.lockingPort .expired
  s.setMonitor l { m with remaining := m.period }

/-! ### Capture requests -/

/-- Thumbnail width (R127). -/
def Crop.outWidth (c : Crop) : Nat := c.w / c.dx

/-- Thumbnail height (R127). -/
def Crop.outHeight (c : Crop) : Nat := c.h / c.dy

/-- Whether a rectangle lies within the trailer input's format in force (R123, R129, R150). -/
def Crop.fits (c : Crop) (v : TrailerInput) : Bool := c.x + c.w ≤ v.width && c.y + c.h ≤ v.height

/-- The checks that CAP_REQUEST (steps 6 to 8) and TMR_TEMPLATE (steps 1 to 3) make of a rectangle and decimation;
`none` when all hold. -/
def Crop.fault (c : Crop) (v : TrailerInput) : Option OutcomeCode :=
  if ¬ (1 ≤ c.dx ∧ c.dx ≤ 8 ∧ 1 ≤ c.dy ∧ c.dy ≤ 8 ∧ 1 ≤ c.w ∧ 1 ≤ c.h ∧ c.fits v) then some .badArg
  else if ¬ (1 ≤ c.outWidth ∧ 1 ≤ c.outHeight) then some .badArg
  else if ¬ (c.outWidth ≤ 256 ∧ c.outHeight ≤ 256 ∧ c.outWidth * c.outHeight ≤ 16384) then some .tooLarge
  else none

/-- A port's outstanding count (R125). -/
def State.outstanding (s : State) (p : Port) : Nat :=
  (s.cap.queue.filter fun r => r.requester = p).length
    + (match s.cap.active with
      | none => 0
      | some r => if r.requester = p then 1 else 0)
    + (s.port p).reports.length

/-- Writes a slot's capture flag. -/
def State.setCaptureFlag (s : State) (i : Fin 64) (b : Bool) : State := s.setSlot i { s.slot i with captureFlag := b }

/-- A report joins the tail of a port's list (R139) and raises CAP_DONE or CAP_ABORT there (R140). -/
def State.pushReport (s : State) (p : Port) (r : CaptureReport) : State :=
  (s.setPort p { s.port p with reports := (s.port p).reports ++ [r] }).raise p
    (if r.outcome = .ok then .capDone else .capAbort)

/-- A request ends: its slot's capture flag clears, and, with an outcome, a report goes to its requester (R134). -/
def State.endRequest (s : State) (r : CaptureRequest) (o : Option OutcomeCode) : State :=
  let s := s.setCaptureFlag r.slot false
  match o with
  | none => s
  | some o => s.pushReport r.requester ⟨r.tag, r.slot, o, r.origin⟩

/-- The active request is aborted in SETTLE, SAMPLE or HELD: the phase becomes RECOVER, or IDLE when the lock state is
OFF (R133, R134). -/
def State.abortActive (s : State) (o : Option OutcomeCode) : State :=
  match s.cap.active with
  | none => s
  | some r =>
    (s.setCap { s.cap with
      active := none
      phase := if s.vin.lock = .off then .idle else .recover
      sampled := .none
      result := .empty }).endRequest r o

/-- The state of the Capture Unit once request `r` is active, `rest` behind it (R129 to R131). `atMark` says that the
activation takes place at an input frame end, so that the frame that begins at that mark can be sampled. -/
def startRequest (c : CaptureUnit) (settle : Nat) (atMark : Bool) (r : CaptureRequest) (rest : List CaptureRequest) :
    CaptureUnit :=
  if settle = 0 then
    { c with queue := rest, active := some r, settleCount := 0, phase := .sample
             sampled := if atMark then .receiving else .awaited
             result := .forming r.crop.outWidth r.crop.outHeight }
  else { c with queue := rest, active := some r, settleCount := 0, phase := .settle }

/-- Considers the queued requests head first: one whose rectangle no longer fits ends BAD_ARG, and the first that fits
becomes active (R129). -/
def activateFrom (atMark : Bool) : List CaptureRequest → State → State
  | [], s => s.setCap { s.cap with queue := [] }
  | r :: rest, s =>
    if r.crop.fits s.vin then s.setCap (startRequest s.cap s.vin.settle atMark r rest)
    else activateFrom atMark rest ((s.setCap { s.cap with queue := rest }).endRequest r (some .badArg))

/-- The check of R129: in IDLE, with the lock state LOCKED and the queue not empty. -/
def State.activate (s : State) (atMark : Bool) : State :=
  if s.cap.phase = .idle ∧ s.vin.lock = .locked then activateFrom atMark s.cap.queue s else s

/-- A request that passed its checks is accepted: it joins the tail of the queue, its slot's flag is set, and the head
becomes active at once when R129 admits it (R124). -/
def State.acceptRequest (s : State) (r : CaptureRequest) (atMark : Bool) : State :=
  ((s.setCap { s.cap with queue := s.cap.queue ++ [r] }).setCaptureFlag r.slot true).activate atMark

/-- Every request is aborted, the active one first and then the queued ones in queue order (R136). -/
def State.abortAll (s : State) (o : OutcomeCode) : State :=
  let s := s.abortActive (some o)
  s.cap.queue.foldl (fun s r => s.endRequest r (some o)) (s.setCap { s.cap with queue := [] })

/-- Every request of port `p` is aborted without a report; the others keep their order (R138). -/
def State.abortOf (s : State) (p : Port) : State :=
  let s := match s.cap.active with
    | none => s
    | some r => if r.requester = p then s.abortActive none else s
  (s.cap.queue.filter fun r => r.requester = p).foldl (fun s r => s.endRequest r none)
    (s.setCap { s.cap with queue := s.cap.queue.filter fun r => r.requester ≠ p })

/-! ### The lock state -/

/-- The lock state moves: VIN_CHANGE is raised at all three ports (R114), and a request in SETTLE or SAMPLE is aborted
NO_INPUT when the state leaves LOCKED (R135). A move to the same state changes nothing. -/
def State.moveLock (s : State) (st : LockState) : State :=
  if s.vin.lock = st then s
  else
    let wasLocked := s.vin.lock = .locked
    let s := (s.setVin { s.vin with lock := st }).raiseAll .vinChange
    if wasLocked ∧ (s.cap.phase = .settle ∨ s.cap.phase = .sample) then s.abortActive (some .noInput) else s

/-- RECOVER becomes IDLE when the lock state is OFF (R133). -/
def State.recoverIfOff (s : State) : State :=
  if s.cap.phase = .recover ∧ s.vin.lock = .off then s.setCap { s.cap with phase := .idle } else s

/-- Reception is switched off: the counts become 0, the receiving frame is discarded, the lock state becomes OFF and
every request is aborted NO_INPUT (R107, R109, R133, R136). -/
def State.inputOff (s : State) : State :=
  let s := s.setVin { s.vin with goodCount := 0, badRun := 0, silence := 0, receiving := none }
  ((s.moveLock .off).abortAll .noInput).recoverIfOff

/-- The holder gives up the trailer input (R107). -/
def State.giveUpInput (s : State) : State :=
  let s := s.inputOff
  s.setVin { s.vin with captureEnabled := false, holder := none }

end Sys2Proof.Machine
end

