-- ==== Sys2Proof/Machine/Flags.lean ====
section
/-! DEFINITION. What a port computes from its state: the event word and attention line (R180, R181), the executor state
(R177), the status byte and STAT (R182), and the bytes of a result record, a capture report and the event word
(section 11.9). -/

namespace Sys2Proof.Machine

/-- The event word (R180): the sticky flags, and RESULT, which follows the ring. -/
def eventWord (q : PortState) : BitVec 9 :=
  (q.sticky &&& 0x1FE) ||| (if q.ring = [] then 0 else flagBit .result)

/-- Whether a port has a flag that is set (R180). -/
def PortState.hasFlag (q : PortState) (f : EventFlag) : Bool := eventWord q &&& flagBit f != 0

/-- Whether ATTN is asserted: at least one flag is set and not masked (R181). -/
def attention (q : PortState) : Bool := eventWord q &&& ~~~q.mask != 0

/-- The four states of an executor (R177). -/
inductive ExecutorState where
  | idle | running | waitRing | replaying
deriving DecidableEq, Repr

/-- The executor state, determined by queue, ring and repeat record (R177). -/
def executorState (q : PortState) : ExecutorState :=
  match q.rpt.state with
  | .replaying => if q.rpt.summary.isSome ∧ Config.ringMax ≤ q.ring.length then .waitRing else .replaying
  | .none | .capturing =>
    if q.queue = [] then .idle
    else if Config.ringMax ≤ q.ring.length then .waitRing
    else .running

/-- The code of an executor state (R182). -/
def executorCode : ExecutorState → Nat
  | .idle => 0
  | .running => 1
  | .waitRing => 2
  | .replaying => 3

/-- Whether the command queue is full (R176). -/
def PortState.queueFull (q : PortState) : Bool := Config.queueMax ≤ q.queue.length

/-- The status byte (R182). -/
def statusByte (q : PortState) : Byte :=
  natByte ((if q.queueFull then 0x80 else 0) + (if q.ring = [] then 0 else 0x40)
    + (if q.reports = [] then 0 else 0x20) + (if attention q then 0x10 else 0) + executorCode (executorState q))

/-- A nine-bit word as the two bytes of section 11.9; bits 9 to 15 read as 0. -/
def wordBytes (w : BitVec 9) : List Byte := halfBytes (w.setWidth 16)

/-- The event word and the mask, as EVT returns them (R181). -/
def evtReply (q : PortState) : List Byte := wordBytes (eventWord q) ++ wordBytes q.mask

/-- What STAT returns (R182). -/
def statReply (q : PortState) : List Byte :=
  [natByte q.queue.length, natByte q.ring.length, natByte q.reports.length,
    natByte (executorCode (executorState q)), repeatByte q.rpt.state]

/-- A list of bytes filled up with 00h to a length. -/
def padTo (n : Nat) (bs : List Byte) : List Byte := bs ++ List.replicate (n - bs.length) 0

/-- The fifteen bytes of a result record (section 11.9). -/
def recordBytes (r : ResultRecord) : List Byte :=
  [0x01, r.tag, r.code, outcomeByte r.outcome] ++ natBytes r.value ++ [natByte r.extra.length] ++ padTo 8 r.extra

/-- What RES returns: the oldest record, or fifteen bytes of 00h (R178). -/
def resReply (q : PortState) : List Byte :=
  match q.ring with
  | [] => List.replicate 15 0
  | r :: _ => recordBytes r

/-- The five bytes of a capture report (section 11.9). -/
def reportBytes (r : CaptureReport) : List Byte :=
  [0x01, r.tag, natByte r.slot.val, outcomeByte r.outcome, originByte r.origin]

/-- What CAPREP returns: the oldest report, or five bytes of 00h (R179). -/
def caprepReply (q : PortState) : List Byte :=
  match q.reports with
  | [] => List.replicate 5 0
  | r :: _ => reportBytes r

/-- The four ATTN lines' sense for one port of the part; while RESET is asserted they are released (R184). -/
def State.attn (s : State) (p : Port) : Bool := !s.resetPin && attention (s.port p)

/-- The bits that the link shifted out in its last transaction, in the order shifted (R174). -/
def State.sdoBits (s : State) (p : Port) : List Bool := (s.port p).sdo.flatMap byteBits

end Sys2Proof.Machine
end

