-- ==== Sys2Proof/Machine/Executor.lean ====
section
/-! DEFINITION. The executor (R177) with the repeat record (R166 to R173): when a port takes a command, from its queue
or from its repeat cache, and which result records are written. A command's own effect is the operation `op` that
`takeCommand` is given. -/

namespace Sys2Proof.Machine

/-- What a block does with a command: the state it leaves and what it answers. -/
abbrev CommandOp := State → State × Answer

/-- From where a port would take a frame now. -/
inductive Grant where
  /-- not now: the executor's next command is another one, or it takes none (R177, log 7) -/
  | waits
  /-- from the head of the queue, or, with the queue empty, as it comes (log 8) -/
  | queue
  /-- from the repeat cache (R170) -/
  | cache
deriving DecidableEq, Repr

/-- Whether port `p` takes frame `f` now. From the queue: the ring has room, no replay stands, and the head is `f`
(R177); a frame at an empty queue is taken as it joins it (log 8). From the cache: the replay's next command is `f`
(R170). While RESET is asserted nothing is taken (R184). -/
def grant (s : State) (p : Port) (f : Frame) : Grant :=
  let q := s.port p
  if s.resetPin then .waits
  else match q.rpt.state with
    | .replaying =>
      if q.rpt.summary = none ∧ q.rpt.cache[q.rpt.place]? = some f then .cache else .waits
    | .none | .capturing =>
      if q.ring.length < Config.ringMax ∧ (q.queue = [] ∨ q.queue.head? = some f) then .queue else .waits

/-- Replaces a port's repeat record. -/
def State.setRepeat (s : State) (p : Port) (r : RepeatRecord) : State := s.setPort p { s.port p with rpt := r }

/-- A record joins the tail of a port's ring (R177). -/
def State.pushRecord (s : State) (p : Port) (r : ResultRecord) : State :=
  s.setPort p { s.port p with ring := (s.port p).ring ++ [r] }

/-- The head of the queue is removed (R176). -/
def State.dropHead (s : State) (p : Port) : State := s.setPort p { s.port p with queue := (s.port p).queue.tail }

/-- The result record of a command (R177, R178). -/
def recordOf (f : Frame) (a : Answer) : ResultRecord := ⟨f.tag, f.code, a.outcome, a.value, a.extra⟩

/-- A command taken from the queue outside a block: its effect, and its record unless it is silent. -/
def runPlain (s : State) (p : Port) (f : Frame) (op : CommandOp) : State :=
  let (s, a) := op s
  if a.silent then s else s.pushRecord p (recordOf f a)

/-- The repeat record after a captured command (R169): the frame joins the cache; at the last one the block is done,
with a replay to follow when more than one pass was asked for. -/
def captured (r : RepeatRecord) (f : Frame) : RepeatRecord :=
  let r := { r with cache := r.cache ++ [f], commandsLeft := r.commandsLeft - 1 }
  if r.commandsLeft = 0 then
    if r.passCount ≤ 1 then { r with state := .none, starter := none }
    else { r with state := .replaying, passesLeft := r.passCount - 1, passesCompleted := 0, place := 0, summary := none }
  else r

/-- A command taken from the queue while the port is CAPTURING (R169). -/
def runCapturing (s : State) (p : Port) (f : Frame) (op : CommandOp) : State :=
  if f.barred then
    (s.setRepeat p { (s.port p).rpt with cache := [], state := .none, starter := none }).pushRecord p
      ⟨f.tag, f.code, .barred, 0, []⟩
  else
    let s := runPlain s p f op
    s.setRepeat p (captured (s.port p).rpt f)

/-- The tag and code that a summary record echoes (R171). -/
def starterOf (r : RepeatRecord) : Byte × Byte := r.starter.getD (0, 0)

/-- The summary record of a replay run to its end (R171). -/
def summaryDone (r : RepeatRecord) : ResultRecord :=
  ⟨(starterOf r).1, (starterOf r).2, .ok, r.passesCompleted, []⟩

/-- The summary record of a replay stopped by the refusal of frame `f` with outcome `o` (R171). -/
def summaryStopped (r : RepeatRecord) (f : Frame) (o : OutcomeCode) : ResultRecord :=
  ⟨(starterOf r).1, f.code, .stopped, r.passesCompleted, [outcomeByte o, natByte (r.place + 1), f.tag]⟩

/-- The repeat record after a replayed command `f` with outcome `o` (R170): a refusal stops the replay; after the last
command of a pass the next pass begins, or the replay ends. After a refusal passes left keeps its value (DESIGN CHOICE,
log 35). -/
def replayed (r : RepeatRecord) (f : Frame) (o : OutcomeCode) : RepeatRecord :=
  if o.success then
    if r.place + 1 < r.cache.length then { r with place := r.place + 1 }
    else
      let r := { r with place := 0, passesCompleted := r.passesCompleted + 1, passesLeft := r.passesLeft - 1 }
      if r.passesLeft = 0 then { r with summary := some (summaryDone r) } else r
  else { r with summary := some (summaryStopped r f o) }

/-- A command taken from the repeat cache: its effect, without a record of its own (R170). -/
def runReplayed (s : State) (p : Port) (f : Frame) (op : CommandOp) : State :=
  let (s, a) := op s
  s.setRepeat p (replayed (s.port p).rpt f a.outcome)

/-- The command taken event of port `p` for frame `f`, whose effect is `op` (R177). -/
def takeCommand (p : Port) (f : Frame) (op : CommandOp) (s : State) : State :=
  match grant s p f with
  | .waits => s
  | .queue =>
    let s := s.dropHead p
    match (s.port p).rpt.state with
    | .capturing => runCapturing s p f op
    | .none | .replaying => runPlain s p f op
  | .cache => runReplayed s p f op

/-- The executor's refusal of a frame that is no command of the table (R177). -/
def badFrame : CommandOp := fun s => (s, refuse .badArg)

/-- UNKNOWN_COMMAND (R177): a frame with an unknown code, or with an operand count that differs from its layout, is
refused BAD_ARG. A frame of the table is not this event's. -/
def execUnknownCommand (p : Port) (tag code : Byte) (operands : List Byte) (s : State) :
    Host.Outcome State Fault Refusal :=
  .next (if (Frame.mk tag code operands).known then s else takeCommand p ⟨tag, code, operands⟩ badFrame s)

/-- SUMMARY_RECORD (R171): the summary record of a replay that has ended is written when the ring has room; the state
becomes NONE then and the cache is kept. Without a summary record, or with the ring full, nothing changes. -/
def execSummaryRecord (p : Port) (s : State) : Host.Outcome State Fault Refusal :=
  .next (match (s.port p).rpt.summary with
    | none => s
    | some r =>
      if (s.port p).ring.length < Config.ringMax then
        (s.setRepeat p { (s.port p).rpt with state := .none, starter := none, place := 0, summary := none }).pushRecord p r
      else s)

end Sys2Proof.Machine
end

