-- ==== Sys2Proof/Machine/Frames.lean ====
section
/-! DEFINITION. The frame of each command: its tag, its code and its operands, laid out as section 11.9 gives them
(R175). -/

namespace Sys2Proof.Machine

/-- The frame of LYR_CLAIM. -/
def frameLyrClaim (tag l : Byte) : Frame := ⟨tag, 0x10, [l]⟩

/-- The frame of LYR_RELEASE. -/
def frameLyrRelease (tag l : Byte) : Frame := ⟨tag, 0x11, [l]⟩

/-- The frame of LYR_BEGIN. -/
def frameLyrBegin (tag l mode : Byte) : Frame := ⟨tag, 0x12, [l, mode]⟩

/-- The frame of LYR_ATTR. -/
def frameLyrAttr (tag l visible target step : Byte) (ox oy : Half) (source : Byte) (x0 y0 x1 y1 : Half) : Frame := ⟨tag, 0x13, [l, visible, target, step] ++ halfBytes ox ++ halfBytes oy ++ [source] ++ halfBytes x0 ++ halfBytes y0 ++ halfBytes x1 ++ halfBytes y1⟩

/-- The frame of LYR_COMMIT. -/
def frameLyrCommit (tag mask : Byte) : Frame := ⟨tag, 0x14, [mask]⟩

/-- The frame of LYR_Z. -/
def frameLyrZ (tag l index : Byte) : Frame := ⟨tag, 0x15, [l, index]⟩

/-- The frame of BACKDROP. -/
def frameBackdrop (tag y cb cr : Byte) : Frame := ⟨tag, 0x16, [y, cb, cr]⟩

/-- The frame of PLC_ADD. -/
def framePlcAdd (tag l slot : Byte) (x y : Half) : Frame := ⟨tag, 0x20, [l, slot] ++ halfBytes x ++ halfBytes y⟩

/-- The frame of PLC_CURSOR. -/
def framePlcCursor (tag l k : Byte) : Frame := ⟨tag, 0x21, [l, k]⟩

/-- The frame of CUR_SET. -/
def frameCurSet (tag k : Byte) (x y dx dy : Half) (columns slot step : Byte) : Frame := ⟨tag, 0x22, [k] ++ halfBytes x ++ halfBytes y ++ halfBytes dx ++ halfBytes dy ++ [columns, slot, step]⟩

/-- The frame of CLIP_PUSH. -/
def frameClipPush (tag : Byte) (x0 y0 x1 y1 : Half) : Frame := ⟨tag, 0x23, halfBytes x0 ++ halfBytes y0 ++ halfBytes x1 ++ halfBytes y1⟩

/-- The frame of CLIP_POP. -/
def frameClipPop (tag : Byte) : Frame := ⟨tag, 0x24, []⟩

/-- The frame of PAL_WINDOW. -/
def framePalWindow (tag w slice : Byte) : Frame := ⟨tag, 0x25, [w, slice]⟩

/-- The frame of SLT_CLAIM. -/
def frameSltClaim (tag : Byte) : Frame := ⟨tag, 0x30, []⟩

/-- The frame of SLT_CLAIM_AT. -/
def frameSltClaimAt (tag slot : Byte) : Frame := ⟨tag, 0x31, [slot]⟩

/-- The frame of SLT_RELEASE. -/
def frameSltRelease (tag slot : Byte) : Frame := ⟨tag, 0x32, [slot]⟩

/-- The frame of SLT_OPEN. -/
def frameSltOpen (tag slot format : Byte) (width height : Half) : Frame := ⟨tag, 0x33, [slot, format] ++ halfBytes width ++ halfBytes height⟩

/-- The frame of SLT_DATA. -/
def frameSltData (tag slot : Byte) (data : List Byte) : Frame := ⟨tag, 0x34, [slot] ++ data⟩

/-- The frame of SLT_FILL. -/
def frameSltFill (tag slot y cb cr : Byte) (count : Half) : Frame := ⟨tag, 0x35, [slot, y, cb, cr] ++ halfBytes count⟩

/-- The frame of SLT_CLOSE. -/
def frameSltClose (tag slot : Byte) : Frame := ⟨tag, 0x36, [slot]⟩

/-- The frame of SLT_INFO. -/
def frameSltInfo (tag slot : Byte) : Frame := ⟨tag, 0x37, [slot]⟩

/-- The frame of PAL_CLAIM. -/
def framePalClaim (tag slice : Byte) : Frame := ⟨tag, 0x40, [slice]⟩

/-- The frame of PAL_RELEASE. -/
def framePalRelease (tag slice : Byte) : Frame := ⟨tag, 0x41, [slice]⟩

/-- The frame of PAL_SET. -/
def framePalSet (tag n y cb cr alpha : Byte) : Frame := ⟨tag, 0x42, [n, y, cb, cr, alpha]⟩

/-- The frame of PAL_SETCODE. -/
def framePalSetcode (tag c y cb cr alpha : Byte) : Frame := ⟨tag, 0x43, [c, y, cb, cr, alpha]⟩

/-- The frame of VIN_CLAIM. -/
def frameVinClaim (tag : Byte) : Frame := ⟨tag, 0x50, []⟩

/-- The frame of VIN_RELEASE. -/
def frameVinRelease (tag : Byte) : Frame := ⟨tag, 0x51, []⟩

/-- The frame of VIN_FORMAT. -/
def frameVinFormat (tag : Byte) (w h : Half) (settle : Byte) : Frame := ⟨tag, 0x52, halfBytes w ++ halfBytes h ++ [settle]⟩

/-- The frame of VIN_ENABLE. -/
def frameVinEnable (tag on : Byte) : Frame := ⟨tag, 0x53, [on]⟩

/-- The frame of CAP_ENABLE. -/
def frameCapEnable (tag on : Byte) : Frame := ⟨tag, 0x54, [on]⟩

/-- The frame of CAP_REQUEST. -/
def frameCapRequest (tag slot : Byte) (x y w h : Half) (dx dy : Byte) : Frame := ⟨tag, 0x55, [slot] ++ halfBytes x ++ halfBytes y ++ halfBytes w ++ halfBytes h ++ [dx, dy]⟩

/-- The frame of CAP_CANCEL. -/
def frameCapCancel (tag slot : Byte) : Frame := ⟨tag, 0x56, [slot]⟩

/-- The frame of TMR_CLAIM. -/
def frameTmrClaim (tag t : Byte) : Frame := ⟨tag, 0x60, [t]⟩

/-- The frame of TMR_RELEASE. -/
def frameTmrRelease (tag t : Byte) : Frame := ⟨tag, 0x61, [t]⟩

/-- The frame of TMR_SETUP. -/
def frameTmrSetup (tag t source prescaler : Byte) (reload : Half) (mode action : Byte) : Frame := ⟨tag, 0x62, [t, source, prescaler] ++ halfBytes reload ++ [mode, action]⟩

/-- The frame of TMR_TEMPLATE. -/
def frameTmrTemplate (tag t : Byte) (x y w h : Half) (dx dy first count : Byte) : Frame := ⟨tag, 0x63, [t] ++ halfBytes x ++ halfBytes y ++ halfBytes w ++ halfBytes h ++ [dx, dy, first, count]⟩

/-- The frame of TMR_START. -/
def frameTmrStart (tag t : Byte) : Frame := ⟨tag, 0x64, [t]⟩

/-- The frame of TMR_STOP. -/
def frameTmrStop (tag t : Byte) : Frame := ⟨tag, 0x65, [t]⟩

/-- The frame of TMR_READ. -/
def frameTmrRead (tag t : Byte) : Frame := ⟨tag, 0x66, [t]⟩

/-- The frame of FRS_SETUP. -/
def frameFrsSetup (tag l : Byte) (period : Half) (window action fallback : Byte) : Frame := ⟨tag, 0x70, [l] ++ halfBytes period ++ [window, action, fallback]⟩

/-- The frame of FRS_START. -/
def frameFrsStart (tag l : Byte) : Frame := ⟨tag, 0x71, [l]⟩

/-- The frame of FRS_STOP. -/
def frameFrsStop (tag l : Byte) : Frame := ⟨tag, 0x72, [l]⟩

/-- The frame of FRS_TOUCH. -/
def frameFrsTouch (tag l : Byte) : Frame := ⟨tag, 0x73, [l]⟩

/-- The frame of FRS_LOCK. -/
def frameFrsLock (tag l : Byte) : Frame := ⟨tag, 0x74, [l]⟩

/-- The frame of RPT_BLOCK. -/
def frameRptBlock (tag n k : Byte) : Frame := ⟨tag, 0x78, [n, k]⟩

/-- The frame of RPT_AGAIN. -/
def frameRptAgain (tag k : Byte) : Frame := ⟨tag, 0x79, [k]⟩

/-- The frame of RPT_LOOP. -/
def frameRptLoop (tag m : Byte) : Frame := ⟨tag, 0x7A, [m]⟩

end Sys2Proof.Machine
end

