-- ==== Sys2Proof/Machine/Palette.lean ====
section
/-! DEFINITION. The palette (file 04): PAL_CLAIM, PAL_RELEASE, PAL_SET and PAL_SETCODE, the resolution of a code (R83)
and the copy at an output frame start (R73). PAL_WINDOW stands with the Port Context, in Placing.lean. -/

namespace Sys2Proof.Machine

/-! ### Slices -/

/-- The effect of PAL_CLAIM (R75). -/
def palClaim (p : Port) (slice : Byte) : CommandOp := fun s =>
  match sliceOf slice with
  | none => (s, refuse .badArg)
  | some i =>
    if i.val < 2 then (s, refuse .badArg)
    else if s.sliceHolder i = none then (s.setSliceHolder i (some p), { outcome := .ok, value := i.val })
    else (s, refuse .taken)

/-- PAL_CLAIM taken by the executor of port `p` (R75, R177). -/
def execPalClaim (p : Port) (tag slice : Byte) (s : State) :
    Host.Outcome State Fault Refusal :=
  .next (takeCommand p (framePalClaim tag slice) (palClaim p slice) s)

/-- The effect of PAL_RELEASE (R76). -/
def palRelease (p : Port) (slice : Byte) : CommandOp := fun s =>
  match sliceOf slice with
  | none => (s, refuse .badArg)
  | some i =>
    if i.val < 2 then (s, refuse .badArg)
    else if s.sliceHolder i = some p then (s.setSliceHolder i none, { outcome := .ok, value := i.val })
    else (s, refuse .notOwner)

/-- PAL_RELEASE taken by the executor of port `p` (R76, R177). -/
def execPalRelease (p : Port) (tag slice : Byte) (s : State) :
    Host.Outcome State Fault Refusal :=
  .next (takeCommand p (framePalRelease tag slice) (palRelease p slice) s)

/-! ### Entries -/

/-- The slice that entry `n` lies in (R71). -/
def sliceOfEntry (n : Fin 256) : Fin 32 := ⟨n.val / 8, by omega⟩

/-- Whether port `p` may write entry `n` (R78). -/
def mayWrite (s : State) (p : Port) (n : Fin 256) : Bool :=
  n.val < 16 || s.sliceHolder (sliceOfEntry n) = some p

/-- The values that a palette write stores (R77). -/
def clampEntry (y cb cr alpha : Nat) : PaletteEntry := ⟨clampColour y cb cr, clampNat 0 16 alpha⟩

/-- The extra bytes of a palette write: the four values as stored. -/
def entryBytes (e : PaletteEntry) : List Byte :=
  [natByte e.colour.y, natByte e.colour.cb, natByte e.colour.cr, natByte e.alpha]

/-- A palette write to entry `n` (R77, R78): the value field holds the entry number, on a NOT_OWNER refusal too. -/
def writeEntry (p : Port) (n : Fin 256) (y cb cr alpha : Byte) : CommandOp := fun s =>
  if mayWrite s p n then
    let e := clampEntry y.toNat cb.toNat cr.toNat alpha.toNat
    (s.setPalPending n e,
      { outcome := clampOutcome (e = ⟨⟨y.toNat, cb.toNat, cr.toNat⟩, alpha.toNat⟩)
        value := n.val
        extra := entryBytes e })
  else (s, { outcome := .notOwner, value := n.val })

/-- The effect of PAL_SET (R79). -/
def palSet (p : Port) (n y cb cr alpha : Byte) : CommandOp := writeEntry p n.toFin y cb cr alpha

/-- PAL_SET taken by the executor of port `p` (R79, R177). -/
def execPalSet (p : Port) (tag n y cb cr alpha : Byte) (s : State) :
    Host.Outcome State Fault Refusal :=
  .next (takeCommand p (framePalSet tag n y cb cr alpha) (palSet p n y cb cr alpha) s)

/-- The entry that a 4-bit code resolves to through a window pair (R83). -/
def resolveCode (w0 w1 : Fin 32) (c : Fin 16) : Fin 256 :=
  if c.val < 8 then ⟨8 * w0.val + c.val % 8, by omega⟩ else ⟨8 * w1.val + (c.val - 8), by omega⟩

/-- The effect of PAL_SETCODE (R80). -/
def palSetcode (p : Port) (c y cb cr alpha : Byte) : CommandOp := fun s =>
  if h : c.toNat < 16 then
    writeEntry p (resolveCode (s.port p).wp0 (s.port p).wp1 ⟨c.toNat, h⟩) y cb cr alpha s
  else (s, refuse .badArg)

/-- PAL_SETCODE taken by the executor of port `p` (R80, R177). -/
def execPalSetcode (p : Port) (tag c y cb cr alpha : Byte) (s : State) :
    Host.Outcome State Fault Refusal :=
  .next (takeCommand p (framePalSetcode tag c y cb cr alpha) (palSetcode p c y cb cr alpha) s)

/-- The copy at an output frame start (R73). -/
def State.paletteWork (s : State) : State := { s with palLive := s.palPending }

end Sys2Proof.Machine
end

