-- ==== Sys2Proof/Machine/Compose.lean ====
section
/-! DEFINITION. The Compositor (file 05): the view (R87), sampling (R90 to R95), effective alpha and the blend (R97,
R98), a composed pixel (R89, R99) and the output pixel bus (R88). -/

namespace Sys2Proof.Machine

/-! ### The view -/

/-- What the view takes of layer `l` (R1, R25, R87). -/
def layerView (s : State) (l : Fin 8) : LayerView :=
  let x := s.layer l
  { binding := x.binding, owner := x.owner, attrs := x.attrs, current := x.current, live := x.live
    expired := x.expired, fallback := (s.monitor l).fallback }

/-- A slot's image, when it is in the view: READY, or ORPHAN with orphan-visible (R61). -/
def slotImage (x : Slot) : Option Image :=
  if x.state = .ready ∨ (x.state = .orphan ∧ x.orphanVisible = true) then
    some { format := x.format, width := x.width, height := x.height, pixels := x.pixels }
  else none

/-- The view of the frame that an output frame start begins (R87). -/
def takeView (s : State) : View where
  zOrder := s.zLive
  backdrop := s.backdropLive
  layers := Vector.ofFn (layerView s)
  images := Vector.ofFn fun i => slotImage (s.slot i)
  palette := s.palLive
  shown := s.vin.shown

/-- Layer `l` in the view. -/
def View.layer (v : View) (l : Fin 8) : LayerView := v.layers[l.val]

/-- Slot `i`'s image in the view. -/
def View.image (v : View) (i : Fin 64) : Option Image := v.images[i.val]

/-- Entry `n` of the live palette in the view. -/
def View.entry (v : View) (n : Fin 256) : PaletteEntry := v.palette[n.val]

/-! ### Samples -/

/-- A sample: a colour and a pixel alpha from 0 to 16 (R91). -/
structure Sample where
  colour : Colour
  alpha : Nat
deriving DecidableEq, Repr

/-- Whether a layer is visited (R90). -/
def LayerView.visited (x : LayerView) : Bool :=
  x.binding = .bound && x.attrs.visible && x.expired ≠ .hidden && 0 < x.current

/-- Whether an inclusive rectangle contains a raster point (R92). -/
def Rect.contains (r : Rect) (x y : Int) : Bool := r.x0 ≤ x && x ≤ r.x1 && r.y0 ≤ y && y ≤ r.y1

/-- Whether a placement's clip contains a raster point: an absent clip contains every one (R92). -/
def clipContains (c : Option Rect) (x y : Int) : Bool :=
  match c with
  | none => true
  | some r => r.contains x y

/-- The sample that a stored pixel yields (R93). -/
def pixelSample (v : View) (w0 w1 : Fin 32) : Pixel → Sample
  | .direct c => { colour := c, alpha := 16 }
  | .indexed code =>
    let e := v.entry (resolveCode w0 w1 code)
    { colour := e.colour, alpha := e.alpha }

/-- The sample of image point (u, v), if it lies on the image: the pixel stored at write position v × width + u (R92,
R93). -/
def imageSample (view : View) (img : Image) (w0 w1 : Fin 32) (u v : Int) : Option Sample :=
  if 0 ≤ u ∧ u < img.width ∧ 0 ≤ v ∧ v < img.height then
    (img.pixels[v.toNat * img.width + u.toNat]?).map (pixelSample view w0 w1)
  else none

/-- The sample of a placement at a raster point, when it covers the point (R92). -/
def placementSample (view : View) (ox oy : Int) (e : Placement) (x y : Int) : Option Sample :=
  if clipContains e.clip x y then
    (view.image e.slot).bind fun img => imageSample view img e.w0 e.w1 (x - (ox + e.px)) (y - (oy + e.py))
  else none

/-- The stored trailer pixel in column `s` and row `t` of a frame, inside its dimensions (R94). -/
def frameSample (f : VideoFrame) (s t : Int) : Option Sample :=
  if 0 ≤ s ∧ s < f.width ∧ 0 ≤ t ∧ t < f.height then
    ((f.lines[t.toNat]?).bind fun row => row[s.toNat]?).map fun c => { colour := c, alpha := 16 }
  else none

/-- The sample of a VIN-source layer (R94). -/
def vinSample (view : View) (a : Attributes) (x y : Int) : Option Sample :=
  if a.clip.contains x y then view.shown.bind fun f => frameSample f (x - a.ox) (y - a.oy) else none

/-- The sample of a layer in FALLBACK (R95): codes resolve through the pair (0, 1). -/
def fallbackSample (view : View) (l : LayerView) (x y : Int) : Option Sample :=
  (l.fallback.bind view.image).bind fun img => imageSample view img 0 1 (x - l.attrs.ox) (y - l.attrs.oy)

/-- The samples of a layer at a raster point, in blending order (R90, R91, R99). -/
def layerSamples (view : View) (l : LayerView) (x y : Int) : List Sample :=
  if l.visited = false then []
  else match l.expired, l.attrs.source with
    | .none, .placements => l.live.filterMap fun e => placementSample view l.attrs.ox l.attrs.oy e x y
    | .none, .vin => (vinSample view l.attrs x y).toList
    | .fallback, _ => (fallbackSample view l x y).toList
    | .hidden, _ => []

/-! ### Blending -/

/-- The effective alpha (R97). -/
def effectiveAlpha (pa opacity : Nat) : Nat := (pa * opacity + 8) / 16

/-- One component blended (R98). -/
def blendComponent (a f b : Nat) : Nat := (a * f + (16 - a) * b + 8) / 16

/-- A sample's colour blended into the running colour with effective alpha `a` (R98). -/
def blend (a : Nat) (f b : Colour) : Colour :=
  ⟨blendComponent a f.y b.y, blendComponent a f.cb b.cb, blendComponent a f.cr b.cr⟩

/-- A layer's samples blended one after another (R99). -/
def blendLayer (view : View) (l : LayerView) (x y : Int) (b : Colour) : Colour :=
  (layerSamples view l x y).foldl (fun b e => blend (effectiveAlpha e.alpha l.current) e.colour b) b

/-- The composed pixel at a raster point (R89). -/
def composePixel (view : View) (x y : Int) : Colour :=
  view.zOrder.foldl (fun b l => blendLayer view (view.layer l) x y b) view.backdrop

/-! ### The output pixel bus -/

/-- A colour as PO_D[23:0]: Y on the high byte, then Cb, then Cr (R88). -/
def busWord (c : Colour) : BitVec 24 := natByte c.y ++ natByte c.cb ++ natByte c.cr

/-- The colour of pixel (x, y) in the frame in progress: absent where the raster has no such pixel, and while the
Compositor holds no view (R88, R103). -/
def State.outputPixel (s : State) (x y : Nat) : Option Colour :=
  if x < Config.rasterWidth ∧ y < Config.rasterHeight then s.view.map fun v => composePixel v x y else none

/-- The word on the bus at the `n`-th active pixel of the frame in progress, in raster order; absent while PO_DE is
not asserted (R88). -/
def State.outputBus (s : State) (n : Nat) : Option (BitVec 24) :=
  (s.outputPixel (n % Config.rasterWidth) (n / Config.rasterWidth)).map busWord

end Sys2Proof.Machine
end

