-- ==== Sys2Proof/Machine/Scene.lean ====
section
/-! DEFINITION. The scene commands (file 01): LYR_CLAIM, LYR_RELEASE, LYR_BEGIN, LYR_ATTR, LYR_COMMIT, LYR_Z and
BACKDROP, and the Scene Table's work at an output frame start (R17 to R21). -/

namespace Sys2Proof.Machine

/-- The first two checks of every layer command (R2): the layer number (BAD_ARG), then ownership (NOT_OWNER). -/
def ownedLayer (p : Port) (l : Byte) (k : Fin 8 → CommandOp) : CommandOp := fun s =>
  match layerOf l with
  | none => (s, refuse .badArg)
  | some i => if (s.layer i).owner = some p then k i s else (s, refuse .notOwner)

/-! ### Claiming and releasing -/

/-- The effect of LYR_CLAIM (R9). -/
def lyrClaim (p : Port) (l : Byte) : CommandOp := fun s =>
  match layerOf l with
  | none => (s, refuse .badArg)
  | some i =>
    if (s.layer i).binding = .unbound then
      (s.setLayer i { s.layer i with binding := .bound, owner := some p }, { outcome := .ok, value := i.val })
    else (s, refuse .taken)

/-- LYR_CLAIM taken by the executor of port `p` (R9, R177). -/
def execLyrClaim (p : Port) (tag l : Byte) (s : State) :
    Host.Outcome State Fault Refusal :=
  .next (takeCommand p (frameLyrClaim tag l) (lyrClaim p l) s)

/-- The effect of LYR_RELEASE (R10). -/
def lyrRelease (p : Port) (l : Byte) : CommandOp := ownedLayer p l fun i s =>
  if (s.layer i).binding = .releasing then (s, refuse .waitFrame)
  else (s.releaseLayer i, { outcome := .ok })

/-- LYR_RELEASE taken by the executor of port `p` (R10, R177). -/
def execLyrRelease (p : Port) (tag l : Byte) (s : State) :
    Host.Outcome State Fault Refusal :=
  .next (takeCommand p (frameLyrRelease tag l) (lyrRelease p l) s)

/-! ### Staging an edit -/

/-- A new pending record over a layer's live attributes (R11). -/
def stage (x : Layer) (list : List Placement) : Option PendingRecord :=
  some { attrs := x.attrs, list := list, committed := false, clearsExpiry := false }

/-- The entries of a COPY: for each live entry, in order, the next free pool entry with the same fields (R4, R11). -/
def copyEntries (free : List (Fin 128)) (live : List Placement) : List Placement :=
  List.zipWith (fun i e => { e with index := i }) free live

/-- LYR_BEGIN in FRESH mode on a layer that admits it. -/
def beginFresh (i : Fin 8) : CommandOp := fun s =>
  let s := s.discardStaged i
  (s.setLayer i { s.layer i with staged := stage (s.layer i) [] }, { outcome := .ok })

/-- LYR_BEGIN in COPY mode on a layer that admits it: the pool check counts the entries that the old record would
return; the discard comes first and the copy second. -/
def beginCopy (i : Fin 8) : CommandOp := fun s =>
  if s.poolFree.length + (s.layer i).stagedList.length < (s.layer i).live.length then (s, refuse .poolEmpty)
  else
    let s := s.discardStaged i
    let list := copyEntries s.poolFree (s.layer i).live
    ((s.setLayer i { s.layer i with staged := stage (s.layer i) list }).addRefs list,
      { outcome := .ok, value := list.length })

/-- The effect of LYR_BEGIN (R11): mode 00h is FRESH and 01h COPY. -/
def lyrBegin (p : Port) (l mode : Byte) : CommandOp := ownedLayer p l fun i s =>
  if (s.layer i).binding = .releasing then (s, refuse .waitFrame)
  else if ((s.layer i).staged.any fun r => r.committed) then (s, refuse .waitFrame)
  else if mode = 0 then beginFresh i s
  else if mode = 1 then beginCopy i s
  else (s, refuse .badArg)

/-- LYR_BEGIN taken by the executor of port `p` (R11, R177). -/
def execLyrBegin (p : Port) (tag l mode : Byte) (s : State) :
    Host.Outcome State Fault Refusal :=
  .next (takeCommand p (frameLyrBegin tag l mode) (lyrBegin p l mode) s)

/-- The state check of the commands that edit a pending record (R3, R12, R31): a RELEASING layer and a committed
record refuse WAIT_FRAME, and no record NO_EDIT. -/
def editable (i : Fin 8) (k : PendingRecord → CommandOp) : CommandOp := fun s =>
  if (s.layer i).binding = .releasing then (s, refuse .waitFrame)
  else match (s.layer i).staged with
    | none => (s, refuse .noEdit)
    | some r => if r.committed then (s, refuse .waitFrame) else k r s

/-- Whether a layer names VIN, in its live attributes or in its pending record (R13). -/
def Layer.namesVin (x : Layer) : Bool :=
  x.attrs.source = .vin || x.staged.any fun r => r.attrs.source = .vin

/-- Whether a layer other than `i` names VIN (R13). -/
def vinElsewhere (s : State) (i : Fin 8) : Bool := (List.finRange 8).any fun j => j ≠ i && (s.layer j).namesVin

/-- The effect of LYR_ATTR (R12, R13). -/
def lyrAttr (p : Port) (l visible target step : Byte) (ox oy : Half) (source : Byte) (x0 y0 x1 y1 : Half) : CommandOp :=
  ownedLayer p l fun i => editable i fun r s =>
    match boolOf visible, sourceOf source with
    | some vis, some src =>
      if src = .vin ∧ (r.list ≠ [] ∨ vinElsewhere s i) then (s, refuse .badArg)
      else
        let attrs : Attributes := {
          visible := vis
          target := clampNat 0 16 target.toNat
          step := clampNat 0 16 step.toNat
          ox := clampPos ox.toInt
          oy := clampPos oy.toInt
          source := src
          clip := clampRect x0.toInt y0.toInt x1.toInt y1.toInt }
        let unchanged := target.toNat ≤ 16 && step.toNat ≤ 16 && clampPos ox.toInt = ox.toInt
          && clampPos oy.toInt = oy.toInt && rectUnclamped x0.toInt y0.toInt x1.toInt y1.toInt
        (s.setLayer i { s.layer i with staged := some { r with attrs := attrs } },
          { outcome := clampOutcome unchanged })
    | _, _ => (s, refuse .badArg)

/-- LYR_ATTR taken by the executor of port `p` (R12, R177). -/
def execLyrAttr (p : Port) (tag l visible target step : Byte) (ox oy : Half) (source : Byte) (x0 y0 x1 y1 : Half) (s : State) :
    Host.Outcome State Fault Refusal :=
  .next (takeCommand p (frameLyrAttr tag l visible target step ox oy source x0 y0 x1 y1) (lyrAttr p l visible target step ox oy source x0 y0 x1 y1) s)

/-! ### Committing -/

/-- The layers that a mask names, in ascending number. -/
def maskLayers (mask : Byte) : List (Fin 8) := (List.finRange 8).filter fun l => mask.getLsbD l.val

/-- Why a layer does not admit a commit (R14): RELEASING, or no uncommitted pending record. -/
def commitFault (x : Layer) : Option OutcomeCode :=
  if x.binding = .releasing then some .waitFrame
  else match x.staged with
    | none => some .noEdit
    | some r => if r.committed then some .noEdit else none

/-- Marks a layer's pending record committed and clears-expiry (R14, R22). -/
def State.commitLayer (s : State) (l : Fin 8) : State :=
  s.setLayer l { s.layer l with
    staged := (s.layer l).staged.map fun r => { r with committed := true, clearsExpiry := true } }

/-- The effect of LYR_COMMIT (R14). -/
def lyrCommit (p : Port) (mask : Byte) : CommandOp := fun s =>
  let ls := maskLayers mask
  if ls = [] then (s, refuse .badArg)
  else match ls.find? fun l => (s.layer l).owner ≠ some p with
    | some l => (s, { outcome := .notOwner, value := l.val })
    | none =>
      match ls.find? fun l => (commitFault (s.layer l)).isSome with
      | some l => (s, { outcome := (commitFault (s.layer l)).getD .noEdit, value := l.val })
      | none => (ls.foldl State.commitLayer s, { outcome := .ok, value := ls.length })

/-- LYR_COMMIT taken by the executor of port `p` (R14, R177). -/
def execLyrCommit (p : Port) (tag mask : Byte) (s : State) :
    Host.Outcome State Fault Refusal :=
  .next (takeCommand p (frameLyrCommit tag mask) (lyrCommit p mask) s)

/-! ### Stacking order and backdrop -/

/-- Layer `l` taken out of a z-order and put back at index `i` (R15). -/
def moveLayer (z : List (Fin 8)) (l : Fin 8) (i : Nat) : List (Fin 8) := (z.erase l).insertIdx i l

/-- The effect of LYR_Z (R15). -/
def lyrZ (p : Port) (l p' : Byte) : CommandOp := ownedLayer p l fun i s =>
  if (s.layer i).binding = .releasing then (s, refuse .waitFrame)
  else if p'.toNat < 8 then
    ({ s with zPending := moveLayer s.zPending i p'.toNat }, { outcome := .ok, value := p'.toNat })
  else (s, refuse .badArg)

/-- LYR_Z taken by the executor of port `p` (R15, R177). -/
def execLyrZ (p : Port) (tag l p' : Byte) (s : State) :
    Host.Outcome State Fault Refusal :=
  .next (takeCommand p (frameLyrZ tag l p') (lyrZ p l p') s)

/-- The effect of BACKDROP (R16); any port may issue it. -/
def backdrop (_p : Port) (y cb cr : Byte) : CommandOp := fun s =>
  let c := clampColour y.toNat cb.toNat cr.toNat
  ({ s with backdropPending := c }, { outcome := clampOutcome (c = ⟨y.toNat, cb.toNat, cr.toNat⟩) })

/-- BACKDROP taken by the executor of port `p` (R16, R177). -/
def execBackdrop (p : Port) (tag y cb cr : Byte) (s : State) :
    Host.Outcome State Fault Refusal :=
  .next (takeCommand p (frameBackdrop tag y cb cr) (backdrop p y cb cr) s)

/-! ### The Scene Table's work at an output frame start -/

/-- A committed pending record is applied (R17): its list becomes the live list, the entries of the replaced list
return and their slots lose a reference each (R18), and FRAME is raised at the owner (R23). -/
def State.applyCommit (s : State) (l : Fin 8) : State :=
  let x := s.layer l
  match x.staged with
  | none => s
  | some r =>
    if r.committed then
      ((s.setLayer l { x with
          attrs := r.attrs
          live := r.list
          staged := none
          expired := if r.clearsExpiry then .none else x.expired }).dropRefs x.live).raiseAt x.owner .frame
    else s

/-- A RELEASING layer is finished (R19): its live entries return, and it takes the values of R1 but for its expired
condition. -/
def State.finishRelease (s : State) (l : Fin 8) : State :=
  if (s.layer l).binding = .releasing then
    let s := s.discardStaged l
    (s.setLayer l { Layer.reset with expired := (s.layer l).expired }).dropRefs (s.layer l).live
  else s

/-- Current opacity after one step toward the target (R21). -/
def opacityStep (target step current : Nat) : Nat :=
  if step = 0 then target
  else if current < target then min target (current + step)
  else if target < current then max target (current - step)
  else current

/-- A layer's current opacity takes its step (R21). -/
def State.stepOpacity (s : State) (l : Fin 8) : State :=
  let x := s.layer l
  s.setLayer l { x with current := opacityStep x.attrs.target x.attrs.step x.current }

/-- The pending z-order and backdrop are copied to live (R20). -/
def State.copyScene (s : State) : State := { s with zLive := s.zPending, backdropLive := s.backdropPending }

/-- R17 to R21, in that order. -/
def State.sceneWork (s : State) : State :=
  let s := (List.finRange 8).foldl State.applyCommit s
  let s := (List.finRange 8).foldl State.finishRelease s
  let s := s.copyScene
  (List.finRange 8).foldl State.stepOpacity s

end Sys2Proof.Machine
end

