-- ==== Sys2Proof/Machine/Freshness.lean ====
section
/-! DEFINITION. Layer freshness (file 09): FRS_SETUP, FRS_START, FRS_STOP, FRS_TOUCH and FRS_LOCK, the count step
(R158) and the fallback references of the previous view (R156). -/

namespace Sys2Proof.Machine

/-- The checks of R2 for a monitor command, with its state step: a RELEASING layer refuses WAIT_FRAME (R154). They stand
before the check for LOCKED (R155), so FRS_SETUP and FRS_STOP on a locked monitor from a port that does not own the
layer answer NOT_OWNER, where R165 says that they are refused LOCKED from every port (DEDUCED, log 31). -/
def monitored (p : Port) (l : Byte) (k : Fin 8 → CommandOp) : CommandOp := ownedLayer p l fun i s =>
  if (s.layer i).binding = .releasing then (s, refuse .waitFrame) else k i s

/-- The touch threshold (R160). -/
def touchThreshold (q period : Nat) : Nat := max 1 (q * period / 4)

/-- Whether a fallback operand is acceptable: absent, or a slot that is not FREE (R155). -/
def fallbackAdmits (s : State) (fb : Option (Fin 64)) : Bool :=
  match fb with
  | none => true
  | some i => (s.slot i).state ≠ .free

/-- The references of a monitor's fallback changing from the one it names to `new` (R156): the new slot gains one
unless the monitor already holds a reference in it, and another slot named before loses one, at once unless the view of
the frame in progress took it. -/
def State.moveFallback (s : State) (l : Fin 8) (new : Option (Fin 64)) : State :=
  let old := (s.monitor l).fallback
  if new = old then s
  else
    let s := match new with
      | none => s
      | some i => if s.viewFallback l = some i then s else s.addRef i
    s.dropFallback l old

/-- The effect of FRS_SETUP (R155, R156). -/
def frsSetup (p : Port) (l : Byte) (period : Half) (window action fallback : Byte) : CommandOp := monitored p l fun i s =>
  let m := s.monitor i
  if m.locked then (s, refuse .locked)
  else if m.running then (s, refuse .waitFrame)
  else match monitorActionOf action, fallbackOf fallback with
    | some a, some fb =>
      if ¬ (1 ≤ period.toNat ∧ period.toNat ≤ Config.periodMax ∧ 1 ≤ window.toNat ∧ window.toNat ≤ 4) then
        (s, refuse .badArg)
      else if fallbackAdmits s fb = false ∨ (a = .fallback ∧ fb = none) then (s, refuse .badArg)
      else
        ((s.moveFallback i fb).setMonitor i { m with
            period := period.toNat, window := window.toNat, action := a, fallback := fb, remaining := period.toNat },
          { outcome := .ok, value := touchThreshold window.toNat period.toNat })
    | _, _ => (s, refuse .badArg)

/-- FRS_SETUP taken by the executor of port `p` (R155, R177). -/
def execFrsSetup (p : Port) (tag l : Byte) (period : Half) (window action fallback : Byte) (s : State) :
    Host.Outcome State Fault Refusal :=
  .next (takeCommand p (frameFrsSetup tag l period window action fallback) (frsSetup p l period window action fallback) s)

/-- The effect of FRS_START (R157). -/
def frsStart (p : Port) (l : Byte) : CommandOp := monitored p l fun i s =>
  let m := s.monitor i
  if m.running then (s, { outcome := .ok, value := m.remaining })
  else (s.setMonitor i { m with running := true, remaining := m.period }, { outcome := .ok, value := m.period })

/-- FRS_START taken by the executor of port `p` (R157, R177). -/
def execFrsStart (p : Port) (tag l : Byte) (s : State) :
    Host.Outcome State Fault Refusal :=
  .next (takeCommand p (frameFrsStart tag l) (frsStart p l) s)

/-- The effect of FRS_STOP (R157). -/
def frsStop (p : Port) (l : Byte) : CommandOp := monitored p l fun i s =>
  let m := s.monitor i
  if m.locked then (s, refuse .locked)
  else (s.setMonitor i { m with running := false, remaining := m.period }, { outcome := .ok, value := m.period })

/-- FRS_STOP taken by the executor of port `p` (R157, R177). -/
def execFrsStop (p : Port) (tag l : Byte) (s : State) :
    Host.Outcome State Fault Refusal :=
  .next (takeCommand p (frameFrsStop tag l) (frsStop p l) s)

/-- The effect of FRS_TOUCH (R160): a touch at or below the threshold reloads the count, and one above it is taken as
an expiry at once. -/
def frsTouch (p : Port) (l : Byte) : CommandOp := monitored p l fun i s =>
  let m := s.monitor i
  if m.running = false then (s, refuse .noEdit)
  else if m.remaining ≤ touchThreshold m.window m.period then
    (s.setMonitor i { m with remaining := m.period }, { outcome := .ok, value := m.remaining, extra := [0x00] })
  else (s.expireMonitor i, { outcome := .ok, value := m.remaining, extra := [0x01] })

/-- FRS_TOUCH taken by the executor of port `p` (R160, R177). -/
def execFrsTouch (p : Port) (tag l : Byte) (s : State) :
    Host.Outcome State Fault Refusal :=
  .next (takeCommand p (frameFrsTouch tag l) (frsTouch p l) s)

/-- The effect of FRS_LOCK (R164); any port may issue it. -/
def frsLock (p : Port) (l : Byte) : CommandOp := fun s =>
  match layerOf l with
  | none => (s, refuse .badArg)
  | some i =>
    let m := s.monitor i
    if m.locked ∧ m.lockingPort ≠ none then (s, refuse .locked)
    else if m.locked ∨ m.running then
      (s.setMonitor i { m with locked := true, lockingPort := some p },
        { outcome := .ok, value := m.remaining, extra := [portByte p] })
    else (s, refuse .noEdit)

/-- FRS_LOCK taken by the executor of port `p` (R164, R177). -/
def execFrsLock (p : Port) (tag l : Byte) (s : State) :
    Host.Outcome State Fault Refusal :=
  .next (takeCommand p (frameFrsLock tag l) (frsLock p l) s)

/-! ### At an output frame start -/

/-- A monitor's count step (R158): at 0 it expires and is reloaded. With a period of 1 so does the step that follows a
refresh of R162 at the same frame start, where that rule says P - 1 and no expiry (DESIGN CHOICE, log 30). -/
def State.monitorWork (s : State) (l : Fin 8) : State :=
  let m := s.monitor l
  if m.running = false then s
  else if m.remaining ≤ 1 then s.expireMonitor l
  else s.setMonitor l { m with remaining := m.remaining - 1 }

/-- A slot that the previous view took as a monitor's fallback, and that the monitor names no longer, loses the
monitor's reference (R156). -/
def State.dropViewFallback (s : State) (l : Fin 8) : State :=
  match s.viewFallback l with
  | none => s
  | some y => if (s.monitor l).fallback = some y then s else s.dropRef y

/-- The fallback references of the previous view (R156). -/
def State.fallbackWork (s : State) : State := (List.finRange 8).foldl State.dropViewFallback s

/-- MONITOR_EXPIRY (R159): the monitor takes the count step that brings its count to 0 as a step of its own, and the
frame start that follows passes the monitor over (log 5). A monitor that is stopped, has more than one frame start
left, or has taken its step already, changes nothing. -/
def execMonitorExpiry (l : Fin 8) (s : State) : Host.Outcome State Fault Refusal :=
  .next (
    if s.resetPin ∨ (s.monitor l).running = false ∨ 1 < (s.monitor l).remaining ∨ FrameWork.monitor l ∈ s.frameTaken then s
    else
      let s := s.monitorWork l
      { s with frameTaken := s.frameTaken ++ [.monitor l] })

end Sys2Proof.Machine
end

