-- ==== Sys2Proof/Machine/Placing.lean ====
section
/-! DEFINITION. Placements, cursors, clips and window pointers (file 02, and R81, R82 of file 04): PLC_ADD, PLC_CURSOR,
CUR_SET, CLIP_PUSH, CLIP_POP and PAL_WINDOW. -/

namespace Sys2Proof.Machine

/-! ### Making a placement -/

/-- The entry that port state `q` gives a placement (R28, R29, R32): the clip is the top of its clip stack, absent at
depth 0, and the pair is its two window pointers. -/
def placementOf (q : PortState) (index : Fin 128) (slot : Fin 64) (x y : Int) : Placement :=
  { index := index, slot := slot, px := clampPos x, py := clampPos y, clip := q.clips.head?, w0 := q.wp0, w1 := q.wp1 }

/-- The extra bytes of a placement: slot, x and y as stored. -/
def placementExtra (e : Placement) : List Byte := natByte e.slot.val :: (intBytes e.px ++ intBytes e.py)

/-- Steps 7 to 10 of R31 and the placement of R32, for a slot number that passed step 6. `moved` says whether clamping
leaves the position as given. -/
def place (p : Port) (i : Fin 8) (slot : Fin 64) (x y : Int) (r : PendingRecord) : CommandOp := fun s =>
  if r.attrs.source ≠ .placements then (s, refuse .badArg)
  else if (s.slot slot).state = .free then (s, refuse .slotState)
  else if Config.listMax ≤ r.list.length then (s, refuse .layerFull)
  else match s.poolFree with
    | [] => (s, refuse .poolEmpty)
    | e :: _ =>
      let entry := placementOf (s.port p) e slot x y
      ((s.setLayer i { s.layer i with staged := some { r with list := r.list ++ [entry] } }).addRef slot,
        { outcome := clampOutcome (entry.px = x && entry.py = y), value := e.val, extra := placementExtra entry })

/-- The effect of PLC_ADD (R31, R32). -/
def plcAdd (p : Port) (l slot : Byte) (x y : Half) : CommandOp := ownedLayer p l fun i => editable i fun r s =>
  match slotOf slot with
  | none => (s, refuse .badArg)
  | some n => place p i n x.toInt y.toInt r s

/-- PLC_ADD taken by the executor of port `p` (R31, R177). -/
def execPlcAdd (p : Port) (tag l slot : Byte) (x y : Half) (s : State) :
    Host.Outcome State Fault Refusal :=
  .next (takeCommand p (framePlcAdd tag l slot x y) (plcAdd p l slot x y) s)

/-! ### Cursors -/

/-- Cursor `k` of a port, 0 or 1 (R35). -/
def cursorOf (q : PortState) (k : Byte) : Option Cursor :=
  if k = 0 then some q.cursor0 else if k = 1 then some q.cursor1 else none

/-- Replaces cursor `k` of port `p`. -/
def State.setCursor (s : State) (p : Port) (k : Byte) (c : Cursor) : State :=
  s.setPort p (if k = 0 then { s.port p with cursor0 := c } else { s.port p with cursor1 := c })

/-- A slot number stepped, modulo 64 (R38). -/
def stepSlot (slot : Fin 64) (step : Int) : Fin 64 :=
  ⟨((slot.val + step) % 64).toNat, by omega⟩

/-- The cursor after a placement (R38, R39): x and y saturate at the ends of their range, the slot wraps. -/
def advanceCursor (c : Cursor) : Cursor :=
  if c.column + 1 < c.columns then
    { c with column := c.column + 1, x := clampPos (c.x + c.dx), slot := stepSlot c.slot c.step }
  else { c with column := 0, x := c.x0, y := clampPos (c.y + c.dy), slot := stepSlot c.slot c.step }

/-- The effect of PLC_CURSOR (R37): PLC_ADD with the cursor's slot and position; the cursor advances only when the
placement is made. -/
def plcCursor (p : Port) (l k : Byte) : CommandOp := ownedLayer p l fun i => editable i fun r s =>
  match cursorOf (s.port p) k with
  | none => (s, refuse .badArg)
  | some c =>
    let (s', a) := place p i c.slot c.x c.y r s
    if a.outcome.success then (s'.setCursor p k (advanceCursor c), a) else (s, a)

/-- PLC_CURSOR taken by the executor of port `p` (R37, R177). -/
def execPlcCursor (p : Port) (tag l k : Byte) (s : State) :
    Host.Outcome State Fault Refusal :=
  .next (takeCommand p (framePlcCursor tag l k) (plcCursor p l k) s)

/-- A slot operand brought into 0..63 (R36). -/
def clampSlot (b : Byte) : Fin 64 := ⟨min b.toNat 63, by omega⟩

/-- The effect of CUR_SET (R36). -/
def curSet (p : Port) (k : Byte) (x y dx dy : Half) (columns slot step : Byte) : CommandOp := fun s =>
  if k = 0 ∨ k = 1 then
    let c : Cursor := {
      x := clampPos x.toInt
      y := clampPos y.toInt
      x0 := clampPos x.toInt
      dx := clampInt (-1024) 1023 dx.toInt
      dy := clampInt (-1024) 1023 dy.toInt
      columns := clampNat 1 16 columns.toNat
      column := 0
      slot := clampSlot slot
      step := clampInt (-8) 8 step.toInt }
    let unchanged := c.x = x.toInt && c.y = y.toInt && c.dx = dx.toInt && c.dy = dy.toInt
      && c.columns = columns.toNat && c.slot.val = slot.toNat && c.step = step.toInt
    (s.setCursor p k c, { outcome := clampOutcome unchanged, value := k.toNat })
  else (s, refuse .badArg)

/-- CUR_SET taken by the executor of port `p` (R36, R177). -/
def execCurSet (p : Port) (tag k : Byte) (x y dx dy : Half) (columns slot step : Byte) (s : State) :
    Host.Outcome State Fault Refusal :=
  .next (takeCommand p (frameCurSet tag k x y dx dy columns slot step) (curSet p k x y dx dy columns slot step) s)

/-! ### The clip stack -/

/-- The intersection of two rectangles (R41). -/
def Rect.meet (a b : Rect) : Rect := ⟨max a.x0 b.x0, max a.y0 b.y0, min a.x1 b.x1, min a.y1 b.y1⟩

/-- The current clip: the top entry, or the full raster at depth 0 (R40). -/
def currentClip (q : PortState) : Rect := q.clips.head?.getD Rect.raster

/-- The extra bytes of CLIP_PUSH: the corners of the entry pushed. -/
def rectBytes (r : Rect) : List Byte := natBytes r.x0 ++ natBytes r.y0 ++ natBytes r.x1 ++ natBytes r.y1

/-- The effect of CLIP_PUSH (R41). -/
def clipPush (p : Port) (x0 y0 x1 y1 : Half) : CommandOp := fun s =>
  let q := s.port p
  if Config.clipMax ≤ q.clips.length then (s, refuse .clipFull)
  else
    let entry := (clampRect x0.toInt y0.toInt x1.toInt y1.toInt).meet (currentClip q)
    (s.setPort p { q with clips := entry :: q.clips },
      { outcome := clampOutcome (rectUnclamped x0.toInt y0.toInt x1.toInt y1.toInt)
        value := q.clips.length + 1
        extra := rectBytes entry })

/-- CLIP_PUSH taken by the executor of port `p` (R41, R177). -/
def execClipPush (p : Port) (tag : Byte) (x0 y0 x1 y1 : Half) (s : State) :
    Host.Outcome State Fault Refusal :=
  .next (takeCommand p (frameClipPush tag x0 y0 x1 y1) (clipPush p x0 y0 x1 y1) s)

/-- The effect of CLIP_POP (R42). -/
def clipPop (p : Port) : CommandOp := fun s =>
  let q := s.port p
  match q.clips with
  | [] => (s, refuse .clipEmpty)
  | _ :: rest => (s.setPort p { q with clips := rest }, { outcome := .ok, value := rest.length })

/-- CLIP_POP taken by the executor of port `p` (R42, R177). -/
def execClipPop (p : Port) (tag : Byte) (s : State) :
    Host.Outcome State Fault Refusal :=
  .next (takeCommand p (frameClipPop tag) (clipPop p) s)

/-! ### Window pointers -/

/-- The effect of PAL_WINDOW (R82). -/
def palWindow (p : Port) (w slice : Byte) : CommandOp := fun s =>
  match sliceOf slice with
  | none => (s, refuse .badArg)
  | some i =>
    if w = 0 ∨ w = 1 then
      let q := if w = 0 then { s.port p with wp0 := i } else { s.port p with wp1 := i }
      (s.setPort p q, { outcome := .ok, value := i.val, extra := [natByte q.wp0.val, natByte q.wp1.val] })
    else (s, refuse .badArg)

/-- PAL_WINDOW taken by the executor of port `p` (R82, R177). -/
def execPalWindow (p : Port) (tag w slice : Byte) (s : State) :
    Host.Outcome State Fault Refusal :=
  .next (takeCommand p (framePalWindow tag w slice) (palWindow p w slice) s)

end Sys2Proof.Machine
end

