-- ==== Sys2Proof/Machine/Slots.lean ====
section
/-! DEFINITION. The slot commands (file 03): SLT_CLAIM, SLT_CLAIM_AT, SLT_RELEASE, SLT_OPEN, SLT_DATA, SLT_FILL,
SLT_CLOSE and SLT_INFO; the Slot Store's work at an output frame start (R55) and the takeover of a thumbnail (R68). -/

namespace Sys2Proof.Machine

/-- The first two checks of the owner's slot commands (R50): the slot number (BAD_ARG), then ownership (NOT_OWNER). -/
def ownedSlot (p : Port) (slot : Byte) (k : Fin 64 → CommandOp) : CommandOp := fun s =>
  match slotOf slot with
  | none => (s, refuse .badArg)
  | some i => if (s.slot i).owner = some p then k i s else (s, refuse .notOwner)

/-! ### Claiming and releasing -/

/-- A FREE slot becomes EMPTY and the issuer's (R51). -/
def State.claimSlot (s : State) (p : Port) (i : Fin 64) : State :=
  s.setSlot i { s.slot i with
    state := .empty, owner := some p, format := .direct, width := 0, height := 0, writePos := 0
    captureFlag := false, orphanVisible := false }

/-- The lowest-numbered FREE slot (R51). -/
def lowestFree (s : State) : Option (Fin 64) := (List.finRange 64).find? fun i => (s.slot i).state = .free

/-- The effect of SLT_CLAIM (R51). -/
def sltClaim (p : Port) : CommandOp := fun s =>
  match lowestFree s with
  | none => (s, refuse .taken)
  | some i => (s.claimSlot p i, { outcome := .ok, value := i.val })

/-- SLT_CLAIM taken by the executor of port `p` (R51, R177). -/
def execSltClaim (p : Port) (tag : Byte) (s : State) :
    Host.Outcome State Fault Refusal :=
  .next (takeCommand p (frameSltClaim tag) (sltClaim p) s)

/-- The effect of SLT_CLAIM_AT (R52). -/
def sltClaimAt (p : Port) (slot : Byte) : CommandOp := fun s =>
  match slotOf slot with
  | none => (s, refuse .badArg)
  | some i =>
    if (s.slot i).state = .free then (s.claimSlot p i, { outcome := .ok, value := i.val }) else (s, refuse .taken)

/-- SLT_CLAIM_AT taken by the executor of port `p` (R52, R177). -/
def execSltClaimAt (p : Port) (tag slot : Byte) (s : State) :
    Host.Outcome State Fault Refusal :=
  .next (takeCommand p (frameSltClaimAt tag slot) (sltClaimAt p slot) s)

/-- The effect of SLT_RELEASE (R53). -/
def sltRelease (p : Port) (slot : Byte) : CommandOp := ownedSlot p slot fun i s =>
  let x := s.slot i
  if x.refCount ≠ 0 then (s, { outcome := .inUse, value := x.refCount })
  else if x.captureFlag then (s, refuse .slotBusy)
  else (s.setSlot i (Slot.freed x.pixels), { outcome := .ok, value := i.val })

/-- SLT_RELEASE taken by the executor of port `p` (R53, R177). -/
def execSltRelease (p : Port) (tag slot : Byte) (s : State) :
    Host.Outcome State Fault Refusal :=
  .next (takeCommand p (frameSltRelease tag slot) (sltRelease p slot) s)

/-! ### Writing an image -/

/-- The effect of SLT_OPEN (R54). -/
def sltOpen (p : Port) (slot format : Byte) (width height : Half) : CommandOp := ownedSlot p slot fun i s =>
  let x := s.slot i
  if ¬ (x.state = .empty ∨ x.state = .ready) then (s, refuse .slotState)
  else if x.captureFlag then (s, refuse .slotBusy)
  else match formatOf format with
    | none => (s, refuse .badArg)
    | some f =>
      let w := width.toNat
      let h := height.toNat
      if ¬ (1 ≤ w ∧ w ≤ Config.slotSide ∧ 1 ≤ h ∧ h ≤ Config.slotSide) then (s, refuse .badArg)
      else if Config.slotPixels < w * h then (s, refuse .tooLarge)
      else
        (s.setSlot i { x with
            state := if x.state = .ready then .opening else .opened
            format := f, width := w, height := h, writePos := 0 },
          { outcome := .ok, value := w * h })

/-- SLT_OPEN taken by the executor of port `p` (R54, R177). -/
def execSltOpen (p : Port) (tag slot format : Byte) (width height : Half) (s : State) :
    Host.Outcome State Fault Refusal :=
  .next (takeCommand p (frameSltOpen tag slot format width height) (sltOpen p slot format width height) s)

/-- The state check of SLT_DATA and SLT_FILL (R56). -/
def writable (i : Fin 64) (k : CommandOp) : CommandOp := fun s =>
  match (s.slot i).state with
  | .opening => (s, refuse .waitFrame)
  | .opened => k s
  | .free | .empty | .ready | .orphan => (s, refuse .slotState)

/-- How many more pixels a slot's image takes. -/
def roomIn (x : Slot) : Nat := x.width * x.height - x.writePos

/-- A slot after pixels are stored one by one from the write position, as many as its image takes (R56). -/
def storePixels (x : Slot) (ps : List Pixel) : Slot :=
  let fit := ps.take (roomIn x)
  { x with
    pixels := x.pixels.take x.writePos ++ fit ++ x.pixels.drop (x.writePos + fit.length)
    writePos := x.writePos + fit.length }

/-- One pixel of a payload: what is stored, and whether clamping changed it. -/
abbrev PayloadPixel := Pixel × Bool

/-- A DIRECT pixel brought into video range, and whether that changed it (R56). -/
def directPixel (y cb cr : Nat) : PayloadPixel :=
  let c := clampColour y cb cr
  (.direct c, c ≠ ⟨y, cb, cr⟩)

/-- The whole triples of a DIRECT payload, in the order Y, Cb, Cr; a trailing one or two bytes make no pixel (R56). -/
def directPixels : List Byte → List PayloadPixel
  | y :: cb :: cr :: rest => directPixel y.toNat cb.toNat cr.toNat :: directPixels rest
  | _ => []

/-- An INDEXED pixel. -/
def codePixel (n : Nat) : PayloadPixel := (.indexed (Fin.ofNat 16 n), false)

/-- The codes of an INDEXED payload: the high half of each byte first (R57). -/
def indexedPixels : List Byte → List PayloadPixel
  | [] => []
  | b :: rest => codePixel (b.toNat / 16) :: codePixel (b.toNat % 16) :: indexedPixels rest

/-- Stores payload pixels and answers (R56, R58): OK_TRUNCATED when any was dropped past the end or `partialTail` says
that a partial triple was dropped, else OK_CLAMPED when a stored component was changed, else OK. -/
def storeAnswer (i : Fin 64) (ps : List PayloadPixel) (partialTail : Bool) : CommandOp := fun s =>
  let x := s.slot i
  let stored := min ps.length (roomIn x)
  let x' := storePixels x (ps.map (·.1))
  let outcome :=
    if roomIn x < ps.length ∨ partialTail = true then .okTruncated
    else if (ps.take (roomIn x)).any (·.2) then .okClamped
    else .ok
  (s.setSlot i x', { outcome := outcome, value := x'.writePos, extra := natBytes stored })

/-- The effect of SLT_DATA (R56, R57). -/
def sltData (p : Port) (slot : Byte) (data : List Byte) : CommandOp := ownedSlot p slot fun i => writable i fun s =>
  match (s.slot i).format with
  | .direct => storeAnswer i (directPixels data) (data.length % 3 ≠ 0) s
  | .indexed => storeAnswer i (indexedPixels data) false s

/-- SLT_DATA taken by the executor of port `p` (R56, R177). A payload of more than 252 data bytes is no SLT_DATA frame,
and the executor refuses it BAD_ARG. -/
def execSltData (p : Port) (tag slot : Byte) (data : List Byte) (s : State) :
    Host.Outcome State Fault Refusal :=
  .next (takeCommand p (frameSltData tag slot data)
    (if data.length ≤ Config.dataMax then sltData p slot data else badFrame) s)

/-- The effect of SLT_FILL (R58). -/
def sltFill (p : Port) (slot y cb cr : Byte) (count : Half) : CommandOp := ownedSlot p slot fun i => writable i fun s =>
  match (s.slot i).format with
  | .direct => storeAnswer i (List.replicate count.toNat (directPixel y.toNat cb.toNat cr.toNat)) false s
  | .indexed =>
    if 15 < y.toNat then (s, refuse .badArg)
    else storeAnswer i (List.replicate count.toNat (codePixel y.toNat)) false s

/-- SLT_FILL taken by the executor of port `p` (R58, R177). -/
def execSltFill (p : Port) (tag slot y cb cr : Byte) (count : Half) (s : State) :
    Host.Outcome State Fault Refusal :=
  .next (takeCommand p (frameSltFill tag slot y cb cr count) (sltFill p slot y cb cr count) s)

/-- The effect of SLT_CLOSE (R59). -/
def sltClose (p : Port) (slot : Byte) : CommandOp := ownedSlot p slot fun i s =>
  let x := s.slot i
  if x.state ≠ .opened then (s, refuse .slotState)
  else if x.writePos < x.width * x.height then (s, { outcome := .short, value := x.writePos })
  else (s.setSlot i { x with state := .ready }, { outcome := .ok, value := x.width * x.height })

/-- SLT_CLOSE taken by the executor of port `p` (R59, R177). -/
def execSltClose (p : Port) (tag slot : Byte) (s : State) :
    Host.Outcome State Fault Refusal :=
  .next (takeCommand p (frameSltClose tag slot) (sltClose p slot) s)

/-! ### Reading a slot record -/

/-- The first extra byte of SLT_INFO: state in bits 2 to 0, format bit 3, capture flag bit 4, orphan-visible bit 5.
Bits 7 and 6, of which the spec does not speak, are 0 (DESIGN CHOICE, log 34). -/
def slotInfoByte (x : Slot) : Byte :=
  natByte (slotStateCode x.state + (if x.format = .indexed then 8 else 0) + (if x.captureFlag then 16 else 0)
    + (if x.orphanVisible then 32 else 0))

/-- The extra bytes of SLT_INFO (section 11.9). -/
def slotInfo (x : Slot) : List Byte :=
  [slotInfoByte x, holderByte x.owner] ++ natBytes x.width ++ natBytes x.height ++ natBytes x.writePos

/-- The effect of SLT_INFO (R69); any port may issue it. -/
def sltInfo (_p : Port) (slot : Byte) : CommandOp := fun s =>
  match slotOf slot with
  | none => (s, refuse .badArg)
  | some i => (s, { outcome := .ok, value := (s.slot i).refCount, extra := slotInfo (s.slot i) })

/-- SLT_INFO taken by the executor of port `p` (R69, R177). -/
def execSltInfo (p : Port) (tag slot : Byte) (s : State) :
    Host.Outcome State Fault Refusal :=
  .next (takeCommand p (frameSltInfo tag slot) (sltInfo p slot) s)

/-! ### At an output frame start -/

/-- An OPENING slot becomes OPEN, and FRAME is raised at its owner (R55). -/
def State.openSlot (s : State) (i : Fin 64) : State :=
  if (s.slot i).state = .opening then
    (s.setSlot i { s.slot i with state := .opened }).raiseAt (s.slot i).owner .frame
  else s

/-- Every OPENING slot becomes OPEN (R55). -/
def State.slotWork (s : State) : State := (List.finRange 64).foldl State.openSlot s

/-- A slot after a thumbnail is taken over into it (R68). -/
def takenOver (x : Slot) (width height : Nat) (cs : List Colour) : Slot :=
  { x with
    state := .ready, format := .direct, width := width, height := height, writePos := width * height
    captureFlag := false
    pixels := cs.map (fun c => Pixel.direct (clampColour c.y c.cb c.cr)) ++ x.pixels.drop cs.length }

end Sys2Proof.Machine
end

