-- ==== Sys2Proof/Machine/Trailer.lean ====
section
/-! DEFINITION. The trailer input (file 06): VIN_CLAIM, VIN_RELEASE, VIN_FORMAT and VIN_ENABLE, the silence count
(R113), the promotion of the ready frame (R116, R118), the judgement of an input frame (R111) and the lock (R112). -/

namespace Sys2Proof.Machine

/-- The extra bytes that report the trailer input's record (R105, section 11.9). -/
def vinExtra (v : TrailerInput) : List Byte :=
  [holderByte v.holder, lockByte v.lock] ++ natBytes v.width ++ natBytes v.height
    ++ [natByte v.settle, boolByte v.captureEnabled]

/-- The effect of VIN_CLAIM (R105): both answers report the record as it stands after the command. -/
def vinClaim (p : Port) : CommandOp := fun s =>
  if s.vin.holder = none then
    let s := s.setVin { s.vin with holder := some p }
    (s, { outcome := .ok, extra := vinExtra s.vin })
  else (s, { outcome := .taken, extra := vinExtra s.vin })

/-- VIN_CLAIM taken by the executor of port `p` (R105, R177). -/
def execVinClaim (p : Port) (tag : Byte) (s : State) :
    Host.Outcome State Fault Refusal :=
  .next (takeCommand p (frameVinClaim tag) (vinClaim p) s)

/-- The holder check of R106. -/
def byHolder (p : Port) (k : CommandOp) : CommandOp := fun s =>
  if s.vin.holder = some p then k s else (s, refuse .notOwner)

/-- The effect of VIN_RELEASE (R106, R107). -/
def vinRelease (p : Port) : CommandOp := byHolder p fun s => (s.giveUpInput, { outcome := .ok })

/-- VIN_RELEASE taken by the executor of port `p` (R107, R177). -/
def execVinRelease (p : Port) (tag : Byte) (s : State) :
    Host.Outcome State Fault Refusal :=
  .next (takeCommand p (frameVinRelease tag) (vinRelease p) s)

/-- An odd width is lowered by one (R108). -/
def evenWidth (w : Nat) : Nat := w - w % 2

/-- The receiving frame after a VIN_FORMAT: it began under the earlier format (R108, R111). -/
def staleFrame (r : Option ReceivingFrame) : Option ReceivingFrame := r.map fun r => { r with stale := true }

/-- The effect of VIN_FORMAT (R108). -/
def vinFormat (p : Port) (w h : Half) (settle : Byte) : CommandOp := byHolder p fun s =>
  let w' := evenWidth (clampNat 64 960 w.toNat)
  let h' := clampNat 32 540 h.toNat
  let t' := clampNat 0 3 settle.toNat
  let s := s.setVin { s.vin with width := w', height := h', settle := t' }
  let s :=
    if s.vin.lock = .off then s
    else (s.setVin { s.vin with goodCount := 0, badRun := 0, receiving := staleFrame s.vin.receiving }).moveLock .acquiring
  (s, { outcome := clampOutcome (w' = w.toNat && h' = h.toNat && t' = settle.toNat), extra := vinExtra s.vin })

/-- VIN_FORMAT taken by the executor of port `p` (R108, R177). -/
def execVinFormat (p : Port) (tag : Byte) (w h : Half) (settle : Byte) (s : State) :
    Host.Outcome State Fault Refusal :=
  .next (takeCommand p (frameVinFormat tag w h settle) (vinFormat p w h settle) s)

/-- Reception is switched on from OFF (R109). -/
def State.inputOn (s : State) : State :=
  (s.setVin { s.vin with goodCount := 0, badRun := 0, silence := 0 }).moveLock .acquiring

/-- The effect of VIN_ENABLE (R109). -/
def vinEnable (p : Port) (on : Byte) : CommandOp := byHolder p fun s =>
  match boolOf on with
  | none => (s, refuse .badArg)
  | some b =>
    let s :=
      if b then (if s.vin.lock = .off then s.inputOn else s)
      else (if s.vin.lock = .off then s else s.inputOff)
    (s, { outcome := .ok, value := (lockByte s.vin.lock).toNat, extra := vinExtra s.vin })

/-- VIN_ENABLE taken by the executor of port `p` (R109, R177). -/
def execVinEnable (p : Port) (tag on : Byte) (s : State) :
    Host.Outcome State Fault Refusal :=
  .next (takeCommand p (frameVinEnable tag on) (vinEnable p on) s)

/-! ### At an output frame start -/

/-- The silence count's step (R113): reaching 8 in LOCKED makes the state LOST. -/
def State.silenceWork (s : State) : State :=
  if s.vin.lock = .off then s
  else
    let n := min Config.silenceMax (s.vin.silence + 1)
    let s := s.setVin { s.vin with silence := n }
    if n = Config.silenceMax ∧ s.vin.lock = .locked then (s.setVin { s.vin with badRun := 0 }).moveLock .lost else s

/-- A running monitor's remaining count is set to its period, without a window (R118). -/
def State.refreshMonitor (s : State) (l : Fin 8) : State :=
  let m := s.monitor l
  if m.running then s.setMonitor l { m with remaining := m.period } else s

/-- The ready frame becomes the shown frame (R116), and the running monitor of the layer whose live source is VIN is
refreshed (R118). -/
def State.promotionWork (s : State) : State :=
  match s.vin.ready with
  | none => s
  | some f =>
    ((List.finRange 8).filter fun l => (s.layer l).attrs.source = .vin).foldl State.refreshMonitor
      (s.setVin { s.vin with shown := some f, ready := none })

/-! ### At a frame mark -/

/-- The receiving frame that begins at a mark, under the format in force (R104, R111). -/
def freshFrame (v : TrailerInput) : ReceivingFrame := { width := v.width, height := v.height, stale := false }

/-- The judgement of the frame just ended (R111): exactly the format's lines, each of exactly the format's width, and
reception begun under the format in force. -/
def goodFrame (v : TrailerInput) (r : ReceivingFrame) (lines : List (List Half)) : Bool :=
  !r.stale && r.width = v.width && r.height = v.height
    && lines.length = v.height && lines.all fun line => line.length = v.width

/-- The input store at an input frame end (R115): a good frame becomes the ready frame. -/
def storedReady (v : TrailerInput) (good : Bool) (lines : List (List Half)) : Option VideoFrame :=
  if good then some { width := v.width, height := v.height, lines := storedLines lines } else v.ready

/-- The lock state machine at an input frame end (R112); the silence count becomes 0 (R113). -/
def State.lockStep (s : State) (good : Bool) : State :=
  let s := s.setVin { s.vin with silence := 0 }
  match s.vin.lock, good with
  | .off, _ => s
  | .acquiring, true =>
    if s.vin.goodCount + 1 < 3 then s.setVin { s.vin with goodCount := s.vin.goodCount + 1 }
    else (s.setVin { s.vin with goodCount := 3 }).moveLock .locked
  | .acquiring, false => s.setVin { s.vin with goodCount := 0 }
  | .locked, true => s.setVin { s.vin with badRun := 0 }
  | .locked, false =>
    if s.vin.badRun + 1 < 2 then s.setVin { s.vin with badRun := s.vin.badRun + 1 }
    else (s.setVin { s.vin with badRun := 0 }).moveLock .lost
  | .lost, true => (s.setVin { s.vin with goodCount := 1 }).moveLock .acquiring
  | .lost, false => s

end Sys2Proof.Machine
end

