-- ==== Sys2Proof/Machine/Capture.lean ====
section
/-! DEFINITION. Thumbnail capture (file 07): CAP_ENABLE, CAP_REQUEST and CAP_CANCEL, box decimation (R127, R128), the
Capture Unit at an input frame end (R130, R131, R133), the takeover (R132) and activation (R129). -/

namespace Sys2Proof.Machine

/-! ### Commands -/

/-- The effect of CAP_ENABLE (R122). -/
def capEnable (p : Port) (on : Byte) : CommandOp := byHolder p fun s =>
  match boolOf on with
  | none => (s, refuse .badArg)
  | some b =>
    let was := s.vin.captureEnabled
    let s := s.setVin { s.vin with captureEnabled := b }
    let s := if was && !b then s.abortAll .noInput else s
    (s, { outcome := .ok, value := if b then 1 else 0, extra := vinExtra s.vin })

/-- CAP_ENABLE taken by the executor of port `p` (R122, R177). -/
def execCapEnable (p : Port) (tag on : Byte) (s : State) :
    Host.Outcome State Fault Refusal :=
  .next (takeCommand p (frameCapEnable tag on) (capEnable p on) s)

/-- Steps 3 to 10 of R123; `none` when all hold. -/
def captureFault (s : State) (p : Port) (i : Fin 64) (c : Crop) : Option OutcomeCode :=
  let x := s.slot i
  if ¬ (x.state = .empty ∨ x.state = .ready) then some .slotState
  else if x.captureFlag then some .slotBusy
  else if s.vin.lock = .off ∨ s.vin.captureEnabled = false then some .noInput
  else match c.fault s.vin with
    | some o => some o
    | none =>
      if Config.captureQueueMax ≤ s.cap.queue.length then some .capFull
      else if Config.outstandingMax ≤ s.outstanding p then some .capFull
      else none

/-- The effect of CAP_REQUEST (R123, R124). The command's tag is part of the request. -/
def capRequest (p : Port) (tag slot : Byte) (x y w h : Half) (dx dy : Byte) : CommandOp := ownedSlot p slot fun i s =>
  let c : Crop := { x := x.toNat, y := y.toNat, w := w.toNat, h := h.toNat, dx := dx.toNat, dy := dy.toNat }
  match captureFault s p i c with
  | some o => (s, refuse o)
  | none =>
    let s := s.acceptRequest { requester := p, tag := tag, slot := i, crop := c, origin := .command } false
    (s, { outcome := .ok
          value := c.outWidth * c.outHeight
          extra := natBytes c.outWidth ++ natBytes c.outHeight ++ [natByte (s.outstanding p)] })

/-- CAP_REQUEST taken by the executor of port `p` (R123, R177). -/
def execCapRequest (p : Port) (tag slot : Byte) (x y w h : Half) (dx dy : Byte) (s : State) :
    Host.Outcome State Fault Refusal :=
  .next (takeCommand p (frameCapRequest tag slot x y w h dx dy) (capRequest p tag slot x y w h dx dy) s)

/-- The request, queued or active, that names slot `i` (R137). -/
def requestFor (c : CaptureUnit) (i : Fin 64) : Option CaptureRequest :=
  (c.active.toList ++ c.queue).find? fun r => r.slot = i

/-- Request `r` is withdrawn, from the active position or from the queue (R134, R137). -/
def State.cancelRequest (s : State) (r : CaptureRequest) : State :=
  if s.cap.active = some r then s.abortActive (some .cancelled)
  else (s.setCap { s.cap with queue := s.cap.queue.filter fun q => q ≠ r }).endRequest r (some .cancelled)

/-- The effect of CAP_CANCEL (R137). -/
def capCancel (p : Port) (slot : Byte) : CommandOp := fun s =>
  match slotOf slot with
  | none => (s, refuse .badArg)
  | some i =>
    match requestFor s.cap i with
    | none => (s, refuse .badArg)
    | some r =>
      if r.requester = p then (s.cancelRequest r, { outcome := .ok, value := i.val }) else (s, refuse .notOwner)

/-- CAP_CANCEL taken by the executor of port `p` (R137, R177). -/
def execCapCancel (p : Port) (tag slot : Byte) (s : State) :
    Host.Outcome State Fault Refusal :=
  .next (takeCommand p (frameCapCancel tag slot) (capCancel p slot) s)

/-! ### Box decimation -/

/-- The stored pixel of a frame in column `x` and row `y`. -/
def framePixel (f : VideoFrame) (x y : Nat) : Option Colour := (f.lines[y]?).bind fun row => row[x]?

/-- The pixels of the cell of thumbnail pixel (i, j) (R127). -/
def cellPixels (f : VideoFrame) (c : Crop) (i j : Nat) : List Colour :=
  (List.range c.dy).flatMap fun b => (List.range c.dx).filterMap fun a =>
    framePixel f (c.x + i * c.dx + a) (c.y + j * c.dy + b)

/-- The rounded average of a component over a cell of `n` pixels (R128). -/
def roundedAverage (n sum : Nat) : Nat := (sum + n / 2) / n

/-- A cell's thumbnail pixel (R128). -/
def cellAverage (c : Crop) (cell : List Colour) : Colour :=
  let n := c.dx * c.dy
  ⟨roundedAverage n (cell.map (·.y)).sum, roundedAverage n (cell.map (·.cb)).sum, roundedAverage n (cell.map (·.cr)).sum⟩

/-- The thumbnail of a rectangle of a frame, in raster order (R127). -/
def thumbnail (f : VideoFrame) (c : Crop) : List Colour :=
  (List.range c.outHeight).flatMap fun j => (List.range c.outWidth).map fun i => cellAverage c (cellPixels f c i j)

/-! ### At an input frame end -/

/-- The Capture Unit in SETTLE at an input frame end (R130). -/
def settleStep (v : TrailerInput) (good : Bool) (c : CaptureUnit) : CaptureUnit :=
  if ¬ good then c
  else if v.settle ≤ c.settleCount + 1 then
    { c with
      settleCount := c.settleCount + 1, phase := .sample, sampled := .receiving
      result := match c.active with
        | none => .empty
        | some r => .forming r.crop.outWidth r.crop.outHeight }
  else { c with settleCount := c.settleCount + 1 }

/-- The Capture Unit in SAMPLE at the input frame end that ends the sampled frame (R131). -/
def sampleStep (good : Bool) (f : VideoFrame) (c : CaptureUnit) : CaptureUnit :=
  match good, c.active with
  | true, some r =>
    { c with
      phase := .held, sampled := .none
      result := .finished r.crop.outWidth r.crop.outHeight (thumbnail f r.crop) }
  | _, _ => { c with sampled := .receiving }

/-- The frame awaited for sampling begins at this mark (R131). -/
def beginSampled (c : CaptureUnit) : CaptureUnit :=
  if c.phase = .sample ∧ c.sampled = .awaited then { c with sampled := .receiving } else c

/-- The lock state machine and the Capture Unit at an input frame end (R112, R130, R131, R133, R135). `phase` and
`sampled` are those that stood before this input frame end: a request that becomes active at it is counted by neither
the settle count nor the sample (R129).

The lock moves first. Where one input frame end both ends RECOVER and loses the lock with a request queued, the spec gives
no order, and the request then waits for the next lock (DESIGN CHOICE, log 33). -/
def State.lockAndCapture (s : State) (good : Bool) (f : VideoFrame) (phase : Phase) (sampled : Sampled) : State :=
  let s := s.lockStep good
  if s.cap.phase = .recover then (s.setCap { s.cap with phase := .idle }).activate true
  else if phase = .settle ∧ s.cap.phase = .settle then s.setCap (settleStep s.vin good s.cap)
  else if phase = .sample ∧ sampled = .receiving ∧ s.cap.phase = .sample then s.setCap (sampleStep good f s.cap)
  else (s.setCap (beginSampled s.cap)).activate true

/-! ### At an output frame start, and on its own -/

/-- A held thumbnail is taken over into its slot; an OK report and CAP_DONE go to the requester, and the next request
may become active (R68, R132). In any other phase nothing happens. -/
def State.takeoverWork (s : State) : State :=
  match s.cap.phase, s.cap.active, s.cap.result with
  | .held, some r, .finished w h cs =>
    let s := s.setSlot r.slot (takenOver (s.slot r.slot) w h cs)
    let s := s.setCap { s.cap with active := none, phase := .idle, sampled := .none, result := .empty }
    (s.pushReport r.requester ⟨r.tag, r.slot, .ok, r.origin⟩).activate false
  | _, _, _ => s

/-- CAP_ACTIVATE (R129): the check that makes the head of the queue active. Every event that can bring its conditions
about makes it at once, so on its own it finds nothing to do in a state that steps reach (log 20). -/
def execCapActivate (s : State) : Host.Outcome State Fault Refusal := .next (s.activate false)

end Sys2Proof.Machine
end

