-- ==== Sys2Proof/Machine/Timers.lean ====
section
/-! DEFINITION. The frame timers (file 08): the seven timer commands, counting and expiry (R148, R149), capture triggers
(R150) and the measured interval (R152). -/

namespace Sys2Proof.Machine

/-- The first two checks of the holder's timer commands (R143): the timer number, then the holder. -/
def heldTimer (p : Port) (t : Byte) (k : Fin 4 → CommandOp) : CommandOp := fun s =>
  match timerOf t with
  | none => (s, refuse .badArg)
  | some i => if (s.timer i).holder = some p then k i s else (s, refuse .notOwner)

/-- The effect of TMR_CLAIM (R143). -/
def tmrClaim (p : Port) (t : Byte) : CommandOp := fun s =>
  match timerOf t with
  | none => (s, refuse .badArg)
  | some i =>
    if (s.timer i).holder = none then
      (s.setTimer i { s.timer i with holder := some p }, { outcome := .ok, value := i.val })
    else (s, refuse .taken)

/-- TMR_CLAIM taken by the executor of port `p` (R143, R177). -/
def execTmrClaim (p : Port) (tag t : Byte) (s : State) :
    Host.Outcome State Fault Refusal :=
  .next (takeCommand p (frameTmrClaim tag t) (tmrClaim p t) s)

/-- The effect of TMR_RELEASE (R144). -/
def tmrRelease (p : Port) (t : Byte) : CommandOp := heldTimer p t fun i s =>
  (s.setTimer i FrameTimer.reset, { outcome := .ok, value := i.val })

/-- TMR_RELEASE taken by the executor of port `p` (R144, R177). -/
def execTmrRelease (p : Port) (tag t : Byte) (s : State) :
    Host.Outcome State Fault Refusal :=
  .next (takeCommand p (frameTmrRelease tag t) (tmrRelease p t) s)

/-- The effect of TMR_SETUP (R145). -/
def tmrSetup (p : Port) (t source prescaler : Byte) (reload : Half) (mode action : Byte) : CommandOp :=
  heldTimer p t fun i s =>
    if (s.timer i).running then (s, refuse .waitFrame)
    else match timerSourceOf source, prescalerOf prescaler, timerModeOf mode, timerActionOf action with
      | some src, some pre, some m, some a =>
        if reload = 0 then (s, refuse .badArg)
        else
          (s.setTimer i { s.timer i with
              source := src, prescaler := pre, reload := reload.toNat, mode := m, action := a
              count := reload.toNat, prescaleCount := 0, measured := 0 },
            { outcome := .ok, value := reload.toNat })
      | _, _, _, _ => (s, refuse .badArg)

/-- TMR_SETUP taken by the executor of port `p` (R145, R177). -/
def execTmrSetup (p : Port) (tag t source prescaler : Byte) (reload : Half) (mode action : Byte) (s : State) :
    Host.Outcome State Fault Refusal :=
  .next (takeCommand p (frameTmrSetup tag t source prescaler reload mode action) (tmrSetup p t source prescaler reload mode action) s)

/-- The effect of TMR_TEMPLATE (R146). -/
def tmrTemplate (p : Port) (t : Byte) (x y w h : Half) (dx dy first count : Byte) : CommandOp :=
  heldTimer p t fun i s =>
    let c : Crop := { x := x.toNat, y := y.toNat, w := w.toNat, h := h.toNat, dx := dx.toNat, dy := dy.toNat }
    if (s.timer i).running then (s, refuse .waitFrame)
    else match c.fault s.vin with
      | some o => (s, refuse o)
      | none =>
        if first.toNat ≤ 63 ∧ 1 ≤ count.toNat ∧ count.toNat ≤ 16 ∧ first.toNat + count.toNat ≤ 64 then
          (s.setTimer i { s.timer i with
              template := some { crop := c, first := first.toNat, count := count.toNat }, templateIndex := 0 },
            { outcome := .ok, value := c.outWidth * c.outHeight })
        else (s, refuse .badArg)

/-- TMR_TEMPLATE taken by the executor of port `p` (R146, R177). -/
def execTmrTemplate (p : Port) (tag t : Byte) (x y w h : Half) (dx dy first count : Byte) (s : State) :
    Host.Outcome State Fault Refusal :=
  .next (takeCommand p (frameTmrTemplate tag t x y w h dx dy first count) (tmrTemplate p t x y w h dx dy first count) s)

/-- A timer started (R147): in MEASURE the count and the measured interval become 0. -/
def startedTimer (m : FrameTimer) : FrameTimer :=
  match m.mode with
  | .measure => { m with running := true, count := 0, measured := 0 }
  | .free | .oneshot => { m with running := true }

/-- The effect of TMR_START (R147). -/
def tmrStart (p : Port) (t : Byte) : CommandOp := heldTimer p t fun i s =>
  let m := s.timer i
  if m.running then (s, { outcome := .ok, value := m.count })
  else if m.action = .capture ∧ m.mode ≠ .measure ∧ m.template = none then (s, refuse .badArg)
  else (s.setTimer i (startedTimer m), { outcome := .ok, value := (startedTimer m).count })

/-- TMR_START taken by the executor of port `p` (R147, R177). -/
def execTmrStart (p : Port) (tag t : Byte) (s : State) :
    Host.Outcome State Fault Refusal :=
  .next (takeCommand p (frameTmrStart tag t) (tmrStart p t) s)

/-- The effect of TMR_STOP (R147). -/
def tmrStop (p : Port) (t : Byte) : CommandOp := heldTimer p t fun i s =>
  let m := s.timer i
  (s.setTimer i { m with running := false, count := m.reload, prescaleCount := 0 },
    { outcome := .ok, value := m.reload })

/-- TMR_STOP taken by the executor of port `p` (R147, R177). -/
def execTmrStop (p : Port) (tag t : Byte) (s : State) :
    Host.Outcome State Fault Refusal :=
  .next (takeCommand p (frameTmrStop tag t) (tmrStop p t) s)

/-- The second extra byte of TMR_READ: running bit 0, template present bit 1, source bit 2, action bit 3, mode bits 5
to 4. Bits 7 and 6, of which the spec does not speak, are 0 (DESIGN CHOICE, log 34). -/
def timerInfoByte (m : FrameTimer) : Byte :=
  natByte ((if m.running then 1 else 0) + (if m.template.isSome then 2 else 0) + (if m.source = .ife then 4 else 0)
    + (if m.action = .capture then 8 else 0) + 16 * timerModeCode m.mode)

/-- The extra bytes of TMR_READ (section 11.9). -/
def timerInfo (m : FrameTimer) : List Byte :=
  [holderByte m.holder, timerInfoByte m, natByte m.prescaler, natByte m.prescaleCount, natByte m.templateIndex]
    ++ natBytes (if m.mode = .measure then m.count else 0)

/-- The effect of TMR_READ (R153); any port may issue it. -/
def tmrRead (_p : Port) (t : Byte) : CommandOp := fun s =>
  match timerOf t with
  | none => (s, refuse .badArg)
  | some i =>
    let m := s.timer i
    (s, { outcome := .ok, value := if m.mode = .measure then m.measured else m.count, extra := timerInfo m })

/-- TMR_READ taken by the executor of port `p` (R153, R177). -/
def execTmrRead (p : Port) (tag t : Byte) (s : State) :
    Host.Outcome State Fault Refusal :=
  .next (takeCommand p (frameTmrRead tag t) (tmrRead p t) s)

/-! ### Capture triggers -/

/-- Whether a trigger of port `p` for slot `i` is accepted (R150, step 2). -/
def triggerAdmits (s : State) (p : Port) (c : Crop) (i : Fin 64) : Bool :=
  c.fits s.vin && (s.slot i).owner = some p && ((s.slot i).state = .empty || (s.slot i).state = .ready)
    && !(s.slot i).captureFlag && s.cap.queue.length < Config.captureQueueMax
    && s.outstanding p < Config.outstandingMax

/-- The template index after an accepted trigger (R150). -/
def nextIndex (k : Template) (index : Nat) : Nat := (index + 1) % k.count

/-- A capture trigger of timer `t` (R150): ignored, missed with TRIG_MISS, or accepted. -/
def State.trigger (s : State) (t : Fin 4) (atMark : Bool) : State :=
  let m := s.timer t
  match m.holder, m.template with
  | some p, some k =>
    if s.vin.captureEnabled = false ∨ s.vin.lock = .off then s
    else match slotAt (k.first + m.templateIndex) with
      | none => s.raise p .trigMiss
      | some i =>
        if triggerAdmits s p k.crop i then
          (s.acceptRequest { requester := p, tag := 0, slot := i, crop := k.crop, origin := .timer t } atMark).setTimer t
            { m with templateIndex := nextIndex k m.templateIndex }
        else s.raise p .trigMiss
  | _, _ => s

/-! ### Counting and expiry -/

/-- The expiry of a FREE or ONESHOT timer (R149). -/
def State.expireTimer (s : State) (t : Fin 4) (atMark : Bool) : State :=
  let s := if (s.timer t).action = .capture then s.trigger t atMark else s
  let s := s.raiseAt (s.timer t).holder .timer
  let m := s.timer t
  s.setTimer t { m with count := m.reload, prescaleCount := 0, running := m.running && m.mode ≠ .oneshot }

/-- Whether the next source event completes a count of the timer (R148). -/
def prescaleFull (m : FrameTimer) : Bool := m.prescaler ≤ m.prescaleCount + 1

/-- One source event of a running FREE or ONESHOT timer (R148). -/
def State.countTimer (s : State) (t : Fin 4) (atMark : Bool) : State :=
  let m := s.timer t
  if prescaleFull m then
    let s := s.setTimer t { m with prescaleCount := 0, count := m.count - 1 }
    if m.count ≤ 1 then s.expireTimer t atMark else s
  else s.setTimer t { m with prescaleCount := m.prescaleCount + 1 }

/-- A timer at an output frame start (R148, R152). -/
def State.timerFrameWork (s : State) (t : Fin 4) : State :=
  let m := s.timer t
  if m.running then
    match m.mode with
    | .measure => s.setTimer t { m with count := min Config.timerMax (m.count + 1) }
    | .free | .oneshot => if m.source = .ofs then s.countTimer t false else s
  else s

/-- A timer at a good input frame end (R148, R152). -/
def State.timerMarkWork (s : State) (t : Fin 4) : State :=
  let m := s.timer t
  if m.running then
    match m.mode with
    | .measure => s.setTimer t { m with measured := m.count, count := 0 }
    | .free | .oneshot => if m.source = .ife then s.countTimer t true else s
  else s

/-- Whether a timer's next source event expires it. -/
def lastCount (m : FrameTimer) : Bool := m.running && m.mode ≠ .measure && prescaleFull m && m.count ≤ 1

/-- TIMER_EXPIRY (R149): a timer that counts output frame starts takes its next one, the one that brings its count to
0, as a step of its own, and that frame start passes the timer over when it comes (log 5). A timer that is not at its
last count, or has taken that event already, changes nothing. A timer that counts input frame ends counts good ones
alone (R148), and a frame is known to be good at its INPUT_FRAME_END: the expiry comes about there, and this row
changes nothing (log 6). -/
def execTimerExpiry (t : Fin 4) (s : State) : Host.Outcome State Fault Refusal :=
  .next (
    if s.resetPin ∨ lastCount (s.timer t) = false ∨ (s.timer t).source = .ife ∨ FrameWork.timer t ∈ s.frameTaken then s
    else
      let s := s.countTimer t false
      { s with frameTaken := s.frameTaken ++ [.timer t] })

end Sys2Proof.Machine
end

