-- ==== Sys2Proof/Machine/FrameStart.lean ====
section
/-! DEFINITION. The output frame start (R87) and the input frame end (R111) as whole steps over the blocks' work, and the
rows that take one block's part of them as a step of its own: SILENCE_LIMIT, CAPTURE_TAKEOVER and FIRST_FRAME_MARK
(MONITOR_EXPIRY and TIMER_EXPIRY stand with their blocks). -/

namespace Sys2Proof.Machine

/-- A list without its repeated elements, each kept at its first place. -/
def firsts {α : Type} [DecidableEq α] : List α → List α
  | [] => []
  | a :: rest => a :: (firsts rest).filter fun b => b ≠ a

/-! ### Output frame start -/

/-- Every part of an output frame start, in the order the chapters give them. -/
def allFrameWork : List FrameWork :=
  [.scene, .slots, .fallback, .palette, .promotion, .silence, .takeover]
    ++ (List.finRange 8).map .monitor ++ (List.finRange 4).map .timer

/-- One part of an output frame start. -/
def frameWork (w : FrameWork) (s : State) : State :=
  match w with
  | .scene => s.sceneWork
  | .slots => s.slotWork
  | .fallback => s.fallbackWork
  | .palette => s.paletteWork
  | .promotion => s.promotionWork
  | .silence => s.silenceWork
  | .takeover => s.takeoverWork
  | .monitor l => s.monitorWork l
  | .timer t => s.timerFrameWork t

/-- The parts still to be taken, in the order asked for: each once, less those taken already. -/
def frameOrder (order taken : List FrameWork) : List FrameWork :=
  (firsts (order ++ allFrameWork)).filter fun w => w ∉ taken

/-- Every block's work at an output frame start, and then the Compositor's view (R87). -/
def State.frameStart (s : State) (order : List FrameWork) : State :=
  let s := (frameOrder order s.frameTaken).foldl (fun s w => frameWork w s) s
  { s with frameTaken := [], view := some (takeView s) }

/-- OUTPUT_FRAME_START (R87). While RESET is asserted none is raised (R103). -/
def execOutputFrameStart (order : List FrameWork) (s : State) : Host.Outcome State Fault Refusal :=
  .next (if s.resetPin then s else s.frameStart order)

/-- Takes one part of the coming output frame start as a step of its own (log 5). -/
def State.takeFrameWork (s : State) (w : FrameWork) : State :=
  let s := frameWork w s
  { s with frameTaken := s.frameTaken ++ [w] }

/-- SILENCE_LIMIT (R113): the silence count's step that brings it to 8 in LOCKED, taken as a step of its own (log 5).
Where that step does not bring it there, or has been taken already, nothing changes. -/
def execSilenceLimit (s : State) : Host.Outcome State Fault Refusal :=
  .next (
    if s.resetPin = false ∧ s.vin.lock = .locked ∧ Config.silenceMax ≤ s.vin.silence + 1 ∧ FrameWork.silence ∉ s.frameTaken
    then s.takeFrameWork .silence
    else s)

/-- CAPTURE_TAKEOVER (R132): the takeover of a held thumbnail at an output frame start, taken as a step of its own
(log 5). With no thumbnail held, or after that start's takeover, nothing changes. -/
def execCaptureTakeover (s : State) : Host.Outcome State Fault Refusal :=
  .next (
    if s.resetPin = false ∧ s.cap.phase = .held ∧ FrameWork.takeover ∉ s.frameTaken then s.takeFrameWork .takeover
    else s)

/-! ### Frame marks -/

/-- The first frame after reception begins (R109, R110): it raises no input frame end. -/
def State.firstMark (s : State) : State :=
  (s.setVin { s.vin with receiving := some (freshFrame s.vin) }).setCap (beginSampled s.cap)

/-- FIRST_FRAME_MARK (R109): the first frame marker after reception begins. With reception off, or a frame already in
reception, it is not the first (log 15), and nothing changes. -/
def execFirstFrameMark (s : State) : Host.Outcome State Fault Refusal :=
  .next (if s.vin.lock ≠ .off ∧ s.vin.receiving = none then s.firstMark else s)

/-- Every part of an input frame end. -/
def allMarkWork : List MarkWork := .lockAndCapture :: (List.finRange 4).map .timer

/-- What an input frame end hands to the blocks: the judgement, the frame as stored, and the capture phase and sampled
frame that stood before it. -/
structure MarkContext where
  good : Bool
  frame : VideoFrame
  phase : Phase
  sampled : Sampled
deriving DecidableEq, Repr

/-- One part of an input frame end; a timer takes a good one alone (R148, R152). -/
def markWork (c : MarkContext) (w : MarkWork) (s : State) : State :=
  match w with
  | .lockAndCapture => s.lockAndCapture c.good c.frame c.phase c.sampled
  | .timer t => if c.good = true then s.timerMarkWork t else s

/-- The parts of an input frame end in the order asked for (log 6), each once. -/
def markOrder (order : List MarkWork) : List MarkWork := firsts (order ++ allMarkWork)

/-- What the judgement, the input store and the blocks are given at an input frame end (R111, R115). -/
def markContext (s : State) (r : ReceivingFrame) (lines : List (List Half)) : MarkContext where
  good := goodFrame s.vin r lines
  frame := { width := s.vin.width, height := s.vin.height, lines := storedLines lines }
  phase := s.cap.phase
  sampled := s.cap.sampled

/-- The input store at an input frame end: the frame just ended is stored or discarded, and the next one begins
(R115). -/
def State.storeFrame (s : State) (good : Bool) (lines : List (List Half)) : State :=
  s.setVin { s.vin with receiving := some (freshFrame s.vin), ready := storedReady s.vin good lines }

/-- An input frame end for the frame in reception (R111): the store, then the blocks in the order asked for. -/
def State.frameEnd (s : State) (r : ReceivingFrame) (lines : List (List Half)) (order : List MarkWork) : State :=
  let c := markContext s r lines
  (markOrder order).foldl (fun s w => markWork c w s) (s.storeFrame c.good lines)

/-- INPUT_FRAME_END (R111). In OFF no input frame end is raised, whatever the decoder drives; a mark with no frame in
reception is the first one (log 15). -/
def execInputFrameEnd (bus : List BusSample) (order : List MarkWork) (s : State) : Host.Outcome State Fault Refusal :=
  .next (
    if s.vin.lock = .off then s
    else match s.vin.receiving with
      | none => s.firstMark
      | some r => s.frameEnd r (busLines bus) order)

end Sys2Proof.Machine
end

