-- ==== Sys2Proof/Machine/Repeat.lean ====
section
/-! DEFINITION. The repeat commands (file 10): RPT_BLOCK, RPT_AGAIN and RPT_LOOP. Capturing, replaying and the summary
record stand in Executor.lean. -/

namespace Sys2Proof.Machine

/-- The effective pass count of an operand `k` (R168, R172): 0 takes the loop count, and a k over 64 is 64; `none` when
both are 0. -/
def effectivePasses (r : RepeatRecord) (k : Byte) : Option Nat :=
  if k = 0 then (if r.loopCount = 0 then none else some r.loopCount) else some (min k.toNat Config.passMax)

/-- The loop count after an accepted block or replay: a k of 0 spends it (R167). -/
def spentLoop (r : RepeatRecord) (k : Byte) : Nat := if k = 0 then 0 else r.loopCount

/-- The effect of RPT_BLOCK (R168). -/
def rptBlock (p : Port) (tag n k : Byte) : CommandOp := fun s =>
  let r := (s.port p).rpt
  if ¬ (1 ≤ n.toNat ∧ n.toNat ≤ Config.cacheMax) then (s, refuse .badArg)
  else match effectivePasses r k with
    | none => (s, refuse .badArg)
    | some passes =>
      (s.setRepeat p { r with
          cache := [], loopCount := spentLoop r k, state := .capturing, commandsLeft := n.toNat, passCount := passes
          starter := some (tag, 0x78) },
        { outcome := clampOutcome (k.toNat ≤ Config.passMax), value := passes })

/-- RPT_BLOCK taken by the executor of port `p` (R168, R177). -/
def execRptBlock (p : Port) (tag n k : Byte) (s : State) : Host.Outcome State Fault Refusal :=
  .next (takeCommand p (frameRptBlock tag n k) (rptBlock p tag n k) s)

/-- The effect of RPT_AGAIN (R172): accepted, it starts a replay and yields no record of its own. -/
def rptAgain (p : Port) (tag k : Byte) : CommandOp := fun s =>
  let r := (s.port p).rpt
  if r.cache = [] then (s, refuse .noBlock)
  else match effectivePasses r k with
    | none => (s, refuse .badArg)
    | some passes =>
      (s.setRepeat p { r with
          loopCount := spentLoop r k, state := .replaying, passesLeft := passes, passesCompleted := 0
          starter := some (tag, 0x79), place := 0, summary := none },
        { outcome := .ok, silent := true })

/-- RPT_AGAIN taken by the executor of port `p` (R172, R177). -/
def execRptAgain (p : Port) (tag k : Byte) (s : State) : Host.Outcome State Fault Refusal :=
  .next (takeCommand p (frameRptAgain tag k) (rptAgain p tag k) s)

/-- The effect of RPT_LOOP (R167). The value is the loop count after the command, so a refusal answers the count as it
stands. -/
def rptLoop (p : Port) (m : Byte) : CommandOp := fun s =>
  if m = 0 then (s, { outcome := .badArg, value := (s.port p).rpt.loopCount })
  else
    let n := min m.toNat Config.passMax
    (s.setRepeat p { (s.port p).rpt with loopCount := n },
      { outcome := clampOutcome (m.toNat ≤ Config.passMax), value := n })

/-- RPT_LOOP taken by the executor of port `p` (R167, R177). -/
def execRptLoop (p : Port) (tag m : Byte) (s : State) :
    Host.Outcome State Fault Refusal :=
  .next (takeCommand p (frameRptLoop tag m) (rptLoop p m) s)

end Sys2Proof.Machine
end

