-- ==== Sys2Proof/Machine/Resets.lean ====
section
/-! DEFINITION. The port reset (R183 and the rules it cites) and the RESET pin (R184, R103 and each block's reset
rule). -/

namespace Sys2Proof.Machine

/-! ### Port reset -/

/-- The layers of port `p` at its reset: each BOUND one becomes RELEASING (R24). -/
def State.resetLayer (p : Port) (s : State) (l : Fin 8) : State :=
  if (s.layer l).owner = some p ∧ (s.layer l).binding = .bound then s.releaseLayer l else s

/-- A locking-port field that names port `p` is cleared (R165). -/
def State.clearLockingPort (p : Port) (s : State) (l : Fin 8) : State :=
  if (s.monitor l).lockingPort = some p then s.setMonitor l { s.monitor l with lockingPort := none } else s

/-- A slot at its owner's reset: FREE with count 0, else ORPHAN, visible if it was READY (R64). -/
def orphaned (x : Slot) : Slot :=
  if x.refCount = 0 then Slot.freed x.pixels
  else { x with state := .orphan, owner := none, orphanVisible := x.state = .ready }

/-- The slots of port `p` at its reset (R64). -/
def State.resetSlot (p : Port) (s : State) (i : Fin 64) : State :=
  if (s.slot i).owner = some p then s.setSlot i (orphaned (s.slot i)) else s

/-- The slices of port `p` at its reset (R85). -/
def State.resetSlice (p : Port) (s : State) (i : Fin 32) : State :=
  if s.sliceHolder i = some p then s.setSliceHolder i none else s

/-- The timers of port `p` at its reset (R144). -/
def State.resetTimer (p : Port) (s : State) (t : Fin 4) : State :=
  if (s.timer t).holder = some p then s.setTimer t FrameTimer.reset else s

/-- The port's own state after a port reset: the first table of R183. The link and the bytes it shifted out belong to
the transaction itself. -/
def State.resetPortState (s : State) (p : Port) : State :=
  s.setPort p { PortState.reset with link := (s.port p).link, sdo := (s.port p).sdo }

/-- A port reset of port `p` (R183): its capture requests (R138), the trailer input if it holds it (R107), its layers
and their monitors (R24, R163), locking-port fields (R165), slots (R64), slices (R85), timers (R144), and last the
port's own state. -/
def State.portReset (s : State) (p : Port) : State :=
  let s := s.abortOf p
  let s := if s.vin.holder = some p then s.giveUpInput else s
  let s := (List.finRange 8).foldl (State.resetLayer p) s
  let s := (List.finRange 8).foldl (State.clearLockingPort p) s
  let s := (List.finRange 64).foldl (State.resetSlot p) s
  let s := (List.finRange 32).foldl (State.resetSlice p) s
  let s := (List.finRange 4).foldl (State.resetTimer p) s
  s.resetPortState p

/-! ### The RESET pin -/

/-- A link at the assertion of RESET: a transaction in progress is abandoned, and its select, still asserted, is ignored
until it has been released (R184). -/
def abandonedLink : Link → Link
  | .idle => .idle
  | .selected _ _ _ => .ignored
  | .ignored => .ignored

/-- The part at the assertion of RESET: every field at its reset value but the pixel memory, which is not cleared (R66),
the links' select lines, and the queue of events to come. -/
def State.pinReset (s : State) : State :=
  { State.reset with
    slots := s.slots.map fun x => Slot.freed x.pixels
    ports := s.ports.map fun q => { PortState.reset with link := abandonedLink q.link }
    resetPin := true
    pending := s.pending }

/-- RESET_ASSERTED (R184, R8, R66, R86, R119, R141, R144, R165). -/
def execResetAsserted (s : State) : Host.Outcome State Fault Refusal := .next s.pinReset

/-- RESET_RELEASED (R103): output frame starts may be raised and links begin transactions again. -/
def execResetReleased (s : State) : Host.Outcome State Fault Refusal := .next { s with resetPin := false }

end Sys2Proof.Machine
end

