-- ==== Sys2Proof/Machine/Links.lean ====
section
/-! DEFINITION. The link transactions (R174 to R176, R178 to R182): select asserted, the kind byte and the reply it fixes,
and the effects at the release of select. -/

namespace Sys2Proof.Machine

/-- The transactions that a kind byte names (R174). -/
inductive Kind where
  | cmd | res | caprep | evt | ack | mask | stat | prst
deriving DecidableEq, Repr

/-- The kind that a kind byte names. -/
def kindOf (b : Byte) : Option Kind :=
  if b = 0x01 then some .cmd
  else if b = 0x02 then some .res
  else if b = 0x03 then some .caprep
  else if b = 0x04 then some .evt
  else if b = 0x05 then some .ack
  else if b = 0x06 then some .mask
  else if b = 0x07 then some .stat
  else if b = 0x0A then some .prst
  else none

/-- The reply that a kind byte fixes, after the status byte (R174). -/
def replyFor (q : PortState) (kind : Byte) : List Byte :=
  match kindOf kind with
  | some .res => resReply q
  | some .caprep => caprepReply q
  | some .evt => evtReply q
  | some .stat => statReply q
  | some .cmd | some .ack | some .mask | some .prst | none => []

/-! ### Select asserted -/

/-- What the assertion of select fixes, and, with a kind byte received, the reply it fixes (R174). -/
def openLink (q : PortState) (kind : Option Byte) : Link :=
  .selected (statusByte q) q.queueFull (kind.map fun k => (k, replyFor q k))

/-- SELECT_ASSERTED (R174): begins a transaction. Given again while one is in progress whose kind byte has not been
received, with a kind byte, it is that byte's receipt (log 10). While RESET is asserted the select is ignored (R184). -/
def execSelectAsserted (p : Port) (kind : Option Byte) (s : State) : Host.Outcome State Fault Refusal :=
  let q := s.port p
  .next (match q.link, kind with
    | .idle, _ => s.setPort p { q with link := if s.resetPin then .ignored else openLink q kind }
    | .selected st full none, some k => s.setPort p { q with link := .selected st full (some (k, replyFor q k)) }
    | .selected _ _ _, _ => s
    | .ignored, _ => s)

/-! ### Select released -/

/-- What a transaction has fixed by the release of select: the status byte, the queue-full indication and the reply. -/
structure Latch where
  status : Byte
  queueFull : Bool
  reply : List Byte
deriving DecidableEq, Repr

/-- The latch of a transaction of a kind. What has not been fixed by an earlier SELECT_ASSERTED is fixed at this step,
with no other event between (log 9, log 10). -/
def latchOf (q : PortState) (kind : Byte) : Latch :=
  match q.link with
  | .selected st full (some (k, reply)) => ⟨st, full, if k = kind then reply else replyFor q kind⟩
  | .selected st full none => ⟨st, full, replyFor q kind⟩
  | .idle | .ignored => ⟨statusByte q, q.queueFull, replyFor q kind⟩

/-- Whether the byte count at release lies in the table of R174; for CMD also what R175 asks of the length byte. -/
def validCount (kind : Kind) (bytes : List Byte) : Bool :=
  match kind with
  | .cmd =>
    match bytes with
    | _ :: len :: payload => 2 ≤ len.toNat && payload.length = len.toNat
    | _ => false
  | .res => bytes.length = 16
  | .caprep => bytes.length = 6
  | .evt => 1 ≤ bytes.length && bytes.length ≤ 5
  | .ack | .mask => bytes.length = 3
  | .stat => 1 ≤ bytes.length && bytes.length ≤ 6
  | .prst => bytes.length = 1

/-- The two bytes after the kind byte as one word, high byte first. -/
def wordOf (bytes : List Byte) : Half :=
  match bytes with
  | _ :: hi :: lo :: _ => hi ++ lo
  | _ => 0

/-- A frame that passed R175 joins the tail of the queue, unless the queue was full when select was asserted: it is then
dropped with LINK_ERR. -/
def State.joinQueue (s : State) (p : Port) (full : Bool) (f : Frame) : State :=
  if full then s.raise p .linkErr
  else s.setPort p { s.port p with queue := (s.port p).queue ++ [f] }

/-- The effect of a valid transaction at release (R174). RES and CAPREP remove what their reply returned (R178,
R179). -/
def transactionEffect (s : State) (p : Port) (kind : Kind) (bytes : List Byte) (l : Latch) : State :=
  match kind with
  | .cmd => s.joinQueue p l.queueFull (frameOfPayload (bytes.drop 2))
  | .res =>
    if l.reply.head? = some 0x01 then s.setPort p { s.port p with ring := (s.port p).ring.tail } else s
  | .caprep =>
    if l.reply.head? = some 0x01 then s.setPort p { s.port p with reports := (s.port p).reports.tail } else s
  | .evt | .stat => s
  | .ack => s.setPort p { s.port p with sticky := (s.port p).sticky &&& ~~~((wordOf bytes).setWidth 9) }
  | .mask => s.setPort p { s.port p with mask := (wordOf bytes).setWidth 9 }
  | .prst => s.portReset p

/-- The bytes that the link shifts out in a transaction of `n` byte times: the status byte, the reply, then 00h
(R174). -/
def shiftedOut (l : Latch) (n : Nat) : List Byte := padTo n ((l.status :: l.reply).take n)

/-- The end of a transaction: select is released and what was shifted out is recorded. -/
def State.closeLink (s : State) (p : Port) (out : List Byte) : State :=
  s.setPort p { s.port p with link := .idle, sdo := out }

/-- The link transaction event: select is released after the bytes `bytes` were shifted in, the kind byte first (R174).
A transaction with no byte is ignored and raises nothing; one whose kind byte names none, or whose byte count is wrong,
has no effect but LINK_ERR; a select that is being ignored (R184) ends without effect. `bytes` are whole bytes: a select
released in the middle of a byte, on which the spec is silent, is no event of the model (DESIGN CHOICE, log 32). -/
def linkTransaction (p : Port) (bytes : List Byte) (s : State) : State :=
  if s.resetPin = true ∨ (s.port p).link = .ignored then s.setPort p { s.port p with link := .idle }
  else match bytes with
    | [] => s.closeLink p []
    | kind :: _ =>
      let l := latchOf (s.port p) kind
      let s := s.closeLink p (shiftedOut l bytes.length)
      match kindOf kind with
      | none => s.raise p .linkErr
      | some k => if validCount k bytes then transactionEffect s p k bytes l else s.raise p .linkErr

/-! ### The rows -/

/-- CMD (R175). -/
def execCmd (p : Port) (len : Byte) (payload : List Byte) (s : State) : Host.Outcome State Fault Refusal :=
  .next (linkTransaction p (0x01 :: len :: payload) s)

/-- RES (R178). -/
def execRes (p : Port) (s : State) : Host.Outcome State Fault Refusal :=
  .next (linkTransaction p (0x02 :: List.replicate 15 0) s)

/-- CAPREP (R179). -/
def execCaprep (p : Port) (s : State) : Host.Outcome State Fault Refusal :=
  .next (linkTransaction p (0x03 :: List.replicate 5 0) s)

/-- EVT of a number of byte times (R181). -/
def execEvt (p : Port) (byteTimes : Nat) (s : State) : Host.Outcome State Fault Refusal :=
  .next (linkTransaction p ((0x04 :: List.replicate (byteTimes - 1) 0).take byteTimes) s)

/-- ACK (R180). -/
def execAck (p : Port) (flags : Half) (s : State) : Host.Outcome State Fault Refusal :=
  .next (linkTransaction p (0x05 :: halfBytes flags) s)

/-- MASK (R181). -/
def execMask (p : Port) (newMask : Half) (s : State) : Host.Outcome State Fault Refusal :=
  .next (linkTransaction p (0x06 :: halfBytes newMask) s)

/-- STAT of a number of byte times (R182). -/
def execStat (p : Port) (byteTimes : Nat) (s : State) : Host.Outcome State Fault Refusal :=
  .next (linkTransaction p ((0x07 :: List.replicate (byteTimes - 1) 0).take byteTimes) s)

/-- PRST (R183). -/
def execPrst (p : Port) (s : State) : Host.Outcome State Fault Refusal := .next (linkTransaction p [0x0A] s)

/-- INVALID_TRANSACTION (R174): the transaction of the bytes given. -/
def execInvalidTransaction (p : Port) (bytes : List Byte) (s : State) : Host.Outcome State Fault Refusal :=
  .next (linkTransaction p bytes s)

end Sys2Proof.Machine
end

