-- ==== Sys2Proof/Machine/Dispatch.lean ====
section
/-! DEFINITION. One arm per row of the opcode table: each calls its meaning. -/

namespace Sys2Proof.Machine

/-- What a command or event does to everything but the queue of events to come. -/
def exec (i : Instr) (s : State) : Host.Outcome State Fault Refusal :=
  match i with
  | .cmd p len payload => Sys2Proof.Machine.execCmd p len payload s
  | .res p => Sys2Proof.Machine.execRes p s
  | .caprep p => Sys2Proof.Machine.execCaprep p s
  | .evt p n => Sys2Proof.Machine.execEvt p n s
  | .ack p flags => Sys2Proof.Machine.execAck p flags s
  | .mask p newMask => Sys2Proof.Machine.execMask p newMask s
  | .stat p n => Sys2Proof.Machine.execStat p n s
  | .prst p => Sys2Proof.Machine.execPrst p s
  | .invalidTransaction p bytes => Sys2Proof.Machine.execInvalidTransaction p bytes s
  | .unknownCommand p tag code operands => Sys2Proof.Machine.execUnknownCommand p tag code operands s
  | .lyrClaim p tag l => Sys2Proof.Machine.execLyrClaim p tag l s
  | .lyrRelease p tag l => Sys2Proof.Machine.execLyrRelease p tag l s
  | .lyrBegin p tag l mode => Sys2Proof.Machine.execLyrBegin p tag l mode s
  | .lyrAttr p tag l visible target step ox oy source x0 y0 x1 y1 => Sys2Proof.Machine.execLyrAttr p tag l visible target step ox oy source x0 y0 x1 y1 s
  | .lyrCommit p tag mask => Sys2Proof.Machine.execLyrCommit p tag mask s
  | .lyrZ p tag l index => Sys2Proof.Machine.execLyrZ p tag l index s
  | .backdrop p tag y cb cr => Sys2Proof.Machine.execBackdrop p tag y cb cr s
  | .plcAdd p tag l slot x y => Sys2Proof.Machine.execPlcAdd p tag l slot x y s
  | .plcCursor p tag l k => Sys2Proof.Machine.execPlcCursor p tag l k s
  | .curSet p tag k x y dx dy columns slot step => Sys2Proof.Machine.execCurSet p tag k x y dx dy columns slot step s
  | .clipPush p tag x0 y0 x1 y1 => Sys2Proof.Machine.execClipPush p tag x0 y0 x1 y1 s
  | .clipPop p tag => Sys2Proof.Machine.execClipPop p tag s
  | .palWindow p tag w slice => Sys2Proof.Machine.execPalWindow p tag w slice s
  | .sltClaim p tag => Sys2Proof.Machine.execSltClaim p tag s
  | .sltClaimAt p tag slot => Sys2Proof.Machine.execSltClaimAt p tag slot s
  | .sltRelease p tag slot => Sys2Proof.Machine.execSltRelease p tag slot s
  | .sltOpen p tag slot format width height => Sys2Proof.Machine.execSltOpen p tag slot format width height s
  | .sltData p tag slot data => Sys2Proof.Machine.execSltData p tag slot data s
  | .sltFill p tag slot y cb cr count => Sys2Proof.Machine.execSltFill p tag slot y cb cr count s
  | .sltClose p tag slot => Sys2Proof.Machine.execSltClose p tag slot s
  | .sltInfo p tag slot => Sys2Proof.Machine.execSltInfo p tag slot s
  | .palClaim p tag slice => Sys2Proof.Machine.execPalClaim p tag slice s
  | .palRelease p tag slice => Sys2Proof.Machine.execPalRelease p tag slice s
  | .palSet p tag n y cb cr alpha => Sys2Proof.Machine.execPalSet p tag n y cb cr alpha s
  | .palSetcode p tag c y cb cr alpha => Sys2Proof.Machine.execPalSetcode p tag c y cb cr alpha s
  | .vinClaim p tag => Sys2Proof.Machine.execVinClaim p tag s
  | .vinRelease p tag => Sys2Proof.Machine.execVinRelease p tag s
  | .vinFormat p tag w h settle => Sys2Proof.Machine.execVinFormat p tag w h settle s
  | .vinEnable p tag on => Sys2Proof.Machine.execVinEnable p tag on s
  | .capEnable p tag on => Sys2Proof.Machine.execCapEnable p tag on s
  | .capRequest p tag slot x y w h dx dy => Sys2Proof.Machine.execCapRequest p tag slot x y w h dx dy s
  | .capCancel p tag slot => Sys2Proof.Machine.execCapCancel p tag slot s
  | .tmrClaim p tag t => Sys2Proof.Machine.execTmrClaim p tag t s
  | .tmrRelease p tag t => Sys2Proof.Machine.execTmrRelease p tag t s
  | .tmrSetup p tag t source prescaler reload mode action => Sys2Proof.Machine.execTmrSetup p tag t source prescaler reload mode action s
  | .tmrTemplate p tag t x y w h dx dy first count => Sys2Proof.Machine.execTmrTemplate p tag t x y w h dx dy first count s
  | .tmrStart p tag t => Sys2Proof.Machine.execTmrStart p tag t s
  | .tmrStop p tag t => Sys2Proof.Machine.execTmrStop p tag t s
  | .tmrRead p tag t => Sys2Proof.Machine.execTmrRead p tag t s
  | .frsSetup p tag l period window action fallback => Sys2Proof.Machine.execFrsSetup p tag l period window action fallback s
  | .frsStart p tag l => Sys2Proof.Machine.execFrsStart p tag l s
  | .frsStop p tag l => Sys2Proof.Machine.execFrsStop p tag l s
  | .frsTouch p tag l => Sys2Proof.Machine.execFrsTouch p tag l s
  | .frsLock p tag l => Sys2Proof.Machine.execFrsLock p tag l s
  | .rptBlock p tag n k => Sys2Proof.Machine.execRptBlock p tag n k s
  | .rptAgain p tag k => Sys2Proof.Machine.execRptAgain p tag k s
  | .rptLoop p tag m => Sys2Proof.Machine.execRptLoop p tag m s
  | .summaryRecord p => Sys2Proof.Machine.execSummaryRecord p s
  | .outputFrameStart order => Sys2Proof.Machine.execOutputFrameStart order s
  | .silenceLimit => Sys2Proof.Machine.execSilenceLimit s
  | .monitorExpiry l => Sys2Proof.Machine.execMonitorExpiry l s
  | .timerExpiry t => Sys2Proof.Machine.execTimerExpiry t s
  | .captureTakeover => Sys2Proof.Machine.execCaptureTakeover s
  | .capActivate => Sys2Proof.Machine.execCapActivate s
  | .firstFrameMark => Sys2Proof.Machine.execFirstFrameMark s
  | .inputFrameEnd bus order => Sys2Proof.Machine.execInputFrameEnd bus order s
  | .resetAsserted => Sys2Proof.Machine.execResetAsserted s
  | .resetReleased => Sys2Proof.Machine.execResetReleased s
  | .selectAsserted p kind => Sys2Proof.Machine.execSelectAsserted p kind s

end Sys2Proof.Machine
end

