-- ==== Sys2Proof/Machine/Step.lean ====
section
/-! DEFINITION. One step: the event in front of the queue. -/

namespace Sys2Proof.Machine

/-- Takes the event in front of `pending` and runs `exec` on it with the rest of the queue; on an empty queue the part
idles (log 2). -/
def step (s : State) : Host.Outcome State Fault Refusal :=
  match s.pending with
  | [] => .next s
  | i :: rest => exec i { s with pending := rest }

/-- The state with the command that a word spells put in front of its queue; unchanged where the word spells none. -/
def State.withFetchWord (s : State) (nbits w : Nat) : State :=
  match decodeTableWord nbits w with
  | none => s
  | some i => { s with pending := i :: s.pending }

end Sys2Proof.Machine
end

