-- ==== Sys2Proof/WellFormed.lean ====
section
/-! DEFINITION. Which terms of Instr stand for a step that its row of the table names. A CMD of any length byte and payload
is one: a bad frame is dropped within the row (R175). -/

namespace Sys2Proof

/-- Bytes that make an INVALID_TRANSACTION (R174): a kind byte that names no transaction, or a byte count that its kind
does not have; a CMD with a length byte is the row CMD, whatever follows. With no byte at all nothing is raised. -/
def invalidBytes (bytes : List Byte) : Bool :=
  match bytes with
  | [] => true
  | kind :: rest =>
    match Machine.kindOf kind with
    | none => true
    | some .cmd => rest.isEmpty
    | some .res => !Machine.validCount .res bytes
    | some .caprep => !Machine.validCount .caprep bytes
    | some .evt => !Machine.validCount .evt bytes
    | some .ack => !Machine.validCount .ack bytes
    | some .mask => !Machine.validCount .mask bytes
    | some .stat => !Machine.validCount .stat bytes
    | some .prst => !Machine.validCount .prst bytes

/-- Whether a term stands for a step of its row: EVT and STAT of the byte times of R174, a transaction that is invalid,
a frame that is unknown and fits a CMD payload, and SLT_DATA of at most 252 data bytes (R56). -/
def Instr.wellFormed : Instr → Bool
  | .cmd _ _ _ => true
  | .res _ => true
  | .caprep _ => true
  | .evt _ n => 1 ≤ n && n ≤ 5
  | .ack _ _ => true
  | .mask _ _ => true
  | .stat _ n => 1 ≤ n && n ≤ 6
  | .prst _ => true
  | .invalidTransaction _ bytes => invalidBytes bytes
  | .unknownCommand _ tag code operands => !(Machine.Frame.mk tag code operands).known && operands.length ≤ 253
  | .lyrClaim _ _ _ => true
  | .lyrRelease _ _ _ => true
  | .lyrBegin _ _ _ _ => true
  | .lyrAttr _ _ _ _ _ _ _ _ _ _ _ _ _ => true
  | .lyrCommit _ _ _ => true
  | .lyrZ _ _ _ _ => true
  | .backdrop _ _ _ _ _ => true
  | .plcAdd _ _ _ _ _ _ => true
  | .plcCursor _ _ _ _ => true
  | .curSet _ _ _ _ _ _ _ _ _ _ => true
  | .clipPush _ _ _ _ _ _ => true
  | .clipPop _ _ => true
  | .palWindow _ _ _ _ => true
  | .sltClaim _ _ => true
  | .sltClaimAt _ _ _ => true
  | .sltRelease _ _ _ => true
  | .sltOpen _ _ _ _ _ _ => true
  | .sltData _ _ _ data => data.length ≤ Config.dataMax
  | .sltFill _ _ _ _ _ _ _ => true
  | .sltClose _ _ _ => true
  | .sltInfo _ _ _ => true
  | .palClaim _ _ _ => true
  | .palRelease _ _ _ => true
  | .palSet _ _ _ _ _ _ _ => true
  | .palSetcode _ _ _ _ _ _ _ => true
  | .vinClaim _ _ => true
  | .vinRelease _ _ => true
  | .vinFormat _ _ _ _ _ => true
  | .vinEnable _ _ _ => true
  | .capEnable _ _ _ => true
  | .capRequest _ _ _ _ _ _ _ _ _ => true
  | .capCancel _ _ _ => true
  | .tmrClaim _ _ _ => true
  | .tmrRelease _ _ _ => true
  | .tmrSetup _ _ _ _ _ _ _ _ => true
  | .tmrTemplate _ _ _ _ _ _ _ _ _ _ _ => true
  | .tmrStart _ _ _ => true
  | .tmrStop _ _ _ => true
  | .tmrRead _ _ _ => true
  | .frsSetup _ _ _ _ _ _ _ => true
  | .frsStart _ _ _ => true
  | .frsStop _ _ _ => true
  | .frsTouch _ _ _ => true
  | .frsLock _ _ _ => true
  | .rptBlock _ _ _ _ => true
  | .rptAgain _ _ _ => true
  | .rptLoop _ _ _ => true
  | .summaryRecord _ => true
  | .outputFrameStart _ => true
  | .silenceLimit => true
  | .monitorExpiry _ => true
  | .timerExpiry _ => true
  | .captureTakeover => true
  | .capActivate => true
  | .firstFrameMark => true
  | .inputFrameEnd _ _ => true
  | .resetAsserted => true
  | .resetReleased => true
  | .selectAsserted _ _ => true

end Sys2Proof
end

