-- ==== Sys2Proof/Safety.lean ====
section
/-! DEFINITION. What claims are stated in: the port's readiness to take a command, the commands as operations, and the
invariants that the numbered rules give the part's state. -/

namespace Sys2Proof.Machine

/-! ### Commands -/

/-- Port `p` takes frame `f` from the head of its queue, outside a block (R177): the RESET pin is released, the ring has
room and the repeat state is NONE. -/
def Takes (s : State) (p : Port) (f : Frame) : Prop :=
  s.resetPin = false ∧ (s.port p).rpt.state = .none ∧ (s.port p).ring.length < Config.ringMax
    ∧ (s.port p).queue.head? = some f

/-- Port `p` answers frame `f` (R177, R178): the frame leaves the head of its queue and a record with the frame's tag and
code joins the tail of its ring. -/
def State.answered (s : State) (p : Port) (f : Frame) (o : OutcomeCode) (value : Nat) (extra : List Byte) : State :=
  (s.dropHead p).pushRecord p ⟨f.tag, f.code, o, value, extra⟩

/-- The port, the frame and the block's operation of a command row (R177); absent for the rows that are no command
taken. An UNKNOWN_COMMAND is the taking of a frame that the table of section 11.9 does not know. -/
def commandOf : Instr → Option (Port × Frame × CommandOp)
  | .cmd _ _ _ => none
  | .res _ => none
  | .caprep _ => none
  | .evt _ _ => none
  | .ack _ _ => none
  | .mask _ _ => none
  | .stat _ _ => none
  | .prst _ => none
  | .invalidTransaction _ _ => none
  | .unknownCommand p tag code operands =>
    if (Frame.mk tag code operands).known then none else some (p, ⟨tag, code, operands⟩, badFrame)
  | .lyrClaim p tag l => some (p, frameLyrClaim tag l, lyrClaim p l)
  | .lyrRelease p tag l => some (p, frameLyrRelease tag l, lyrRelease p l)
  | .lyrBegin p tag l mode => some (p, frameLyrBegin tag l mode, lyrBegin p l mode)
  | .lyrAttr p tag l visible target step ox oy source x0 y0 x1 y1 => some (p, frameLyrAttr tag l visible target step ox oy source x0 y0 x1 y1, lyrAttr p l visible target step ox oy source x0 y0 x1 y1)
  | .lyrCommit p tag mask => some (p, frameLyrCommit tag mask, lyrCommit p mask)
  | .lyrZ p tag l index => some (p, frameLyrZ tag l index, lyrZ p l index)
  | .backdrop p tag y cb cr => some (p, frameBackdrop tag y cb cr, backdrop p y cb cr)
  | .plcAdd p tag l slot x y => some (p, framePlcAdd tag l slot x y, plcAdd p l slot x y)
  | .plcCursor p tag l k => some (p, framePlcCursor tag l k, plcCursor p l k)
  | .curSet p tag k x y dx dy columns slot step => some (p, frameCurSet tag k x y dx dy columns slot step, curSet p k x y dx dy columns slot step)
  | .clipPush p tag x0 y0 x1 y1 => some (p, frameClipPush tag x0 y0 x1 y1, clipPush p x0 y0 x1 y1)
  | .clipPop p tag => some (p, frameClipPop tag, clipPop p)
  | .palWindow p tag w slice => some (p, framePalWindow tag w slice, palWindow p w slice)
  | .sltClaim p tag => some (p, frameSltClaim tag, sltClaim p)
  | .sltClaimAt p tag slot => some (p, frameSltClaimAt tag slot, sltClaimAt p slot)
  | .sltRelease p tag slot => some (p, frameSltRelease tag slot, sltRelease p slot)
  | .sltOpen p tag slot format width height => some (p, frameSltOpen tag slot format width height, sltOpen p slot format width height)
  | .sltData p tag slot data => some (p, frameSltData tag slot data, if data.length ≤ Config.dataMax then sltData p slot data else badFrame)
  | .sltFill p tag slot y cb cr count => some (p, frameSltFill tag slot y cb cr count, sltFill p slot y cb cr count)
  | .sltClose p tag slot => some (p, frameSltClose tag slot, sltClose p slot)
  | .sltInfo p tag slot => some (p, frameSltInfo tag slot, sltInfo p slot)
  | .palClaim p tag slice => some (p, framePalClaim tag slice, palClaim p slice)
  | .palRelease p tag slice => some (p, framePalRelease tag slice, palRelease p slice)
  | .palSet p tag n y cb cr alpha => some (p, framePalSet tag n y cb cr alpha, palSet p n y cb cr alpha)
  | .palSetcode p tag c y cb cr alpha => some (p, framePalSetcode tag c y cb cr alpha, palSetcode p c y cb cr alpha)
  | .vinClaim p tag => some (p, frameVinClaim tag, vinClaim p)
  | .vinRelease p tag => some (p, frameVinRelease tag, vinRelease p)
  | .vinFormat p tag w h settle => some (p, frameVinFormat tag w h settle, vinFormat p w h settle)
  | .vinEnable p tag on => some (p, frameVinEnable tag on, vinEnable p on)
  | .capEnable p tag on => some (p, frameCapEnable tag on, capEnable p on)
  | .capRequest p tag slot x y w h dx dy => some (p, frameCapRequest tag slot x y w h dx dy, capRequest p tag slot x y w h dx dy)
  | .capCancel p tag slot => some (p, frameCapCancel tag slot, capCancel p slot)
  | .tmrClaim p tag t => some (p, frameTmrClaim tag t, tmrClaim p t)
  | .tmrRelease p tag t => some (p, frameTmrRelease tag t, tmrRelease p t)
  | .tmrSetup p tag t source prescaler reload mode action => some (p, frameTmrSetup tag t source prescaler reload mode action, tmrSetup p t source prescaler reload mode action)
  | .tmrTemplate p tag t x y w h dx dy first count => some (p, frameTmrTemplate tag t x y w h dx dy first count, tmrTemplate p t x y w h dx dy first count)
  | .tmrStart p tag t => some (p, frameTmrStart tag t, tmrStart p t)
  | .tmrStop p tag t => some (p, frameTmrStop tag t, tmrStop p t)
  | .tmrRead p tag t => some (p, frameTmrRead tag t, tmrRead p t)
  | .frsSetup p tag l period window action fallback => some (p, frameFrsSetup tag l period window action fallback, frsSetup p l period window action fallback)
  | .frsStart p tag l => some (p, frameFrsStart tag l, frsStart p l)
  | .frsStop p tag l => some (p, frameFrsStop tag l, frsStop p l)
  | .frsTouch p tag l => some (p, frameFrsTouch tag l, frsTouch p l)
  | .frsLock p tag l => some (p, frameFrsLock tag l, frsLock p l)
  | .rptBlock p tag n k => some (p, frameRptBlock tag n k, rptBlock p tag n k)
  | .rptAgain p tag k => some (p, frameRptAgain tag k, rptAgain p tag k)
  | .rptLoop p tag m => some (p, frameRptLoop tag m, rptLoop p m)
  | .summaryRecord _ => none
  | .outputFrameStart _ => none
  | .silenceLimit => none
  | .monitorExpiry _ => none
  | .timerExpiry _ => none
  | .captureTakeover => none
  | .capActivate => none
  | .firstFrameMark => none
  | .inputFrameEnd _ _ => none
  | .resetAsserted => none
  | .resetReleased => none
  | .selectAsserted _ _ => none

/-! ### Which holding a command names -/

/-- The layer operand of the ten commands that name one layer and ask for its owner (R2). -/
def layerOperand : Instr → Option Byte
  | .lyrRelease _ _ l | .lyrBegin _ _ l _ | .lyrAttr _ _ l _ _ _ _ _ _ _ _ _ _ | .lyrZ _ _ l _ | .plcAdd _ _ l _ _ _
  | .plcCursor _ _ l _ | .frsSetup _ _ l _ _ _ _ | .frsStart _ _ l | .frsStop _ _ l | .frsTouch _ _ l => some l
  | _ => none

/-- The slot operand of the commands that ask for a slot's owner (R50, R123). -/
def slotOperand : Instr → Option Byte
  | .sltRelease _ _ i | .sltOpen _ _ i _ _ _ | .sltData _ _ i _ | .sltFill _ _ i _ _ _ _ | .sltClose _ _ i
  | .capRequest _ _ i _ _ _ _ _ _ => some i
  | _ => none

/-- The timer operand of the commands that ask for a timer's holder (R143). -/
def timerOperand : Instr → Option Byte
  | .tmrRelease _ _ t | .tmrSetup _ _ t _ _ _ _ _ | .tmrTemplate _ _ t _ _ _ _ _ _ _ _ | .tmrStart _ _ t
  | .tmrStop _ _ t => some t
  | _ => none

/-- The commands that the trailer input's holder alone may issue (R106). -/
def asksInput : Instr → Bool
  | .vinRelease _ _ | .vinFormat _ _ _ _ _ | .vinEnable _ _ _ | .capEnable _ _ _ => true
  | _ => false

/-- The rows that are transactions of a link, with its port (R174). -/
def transactionPort : Instr → Option Port
  | .cmd p _ _ | .res p | .caprep p | .evt p _ | .ack p _ | .mask p _ | .stat p _ | .prst p | .invalidTransaction p _ => some p
  | _ => none

/-! ### Ranges -/

/-- A value brought into a range: one below becomes the lowest value and one above the highest. -/
def into (lo hi x : Int) : Int := max lo (min hi x)

/-- OK, or OK_CLAMPED when clamping changed a value. -/
def okIf (unchanged : Prop) [Decidable unchanged] : OutcomeCode := if unchanged then .ok else .okClamped

/-! ### The Scene Table -/

/-- R6: each z-order holds each of the eight layers exactly once. -/
def ZOrdersOk (s : State) : Prop := s.zLive.Perm (List.finRange 8) ∧ s.zPending.Perm (List.finRange 8)

/-- R4, R5: a pool entry is in at most one place of one list, and no list holds more than 48 entries. -/
def PoolOk (s : State) : Prop :=
  s.poolUsed.Nodup
    ∧ ∀ l, (s.layer l).live.length ≤ Config.listMax ∧ (s.layer l).stagedList.length ≤ Config.listMax

/-- R1, R2, R19: an UNBOUND layer has no owner, and a BOUND or RELEASING one has; a RELEASING layer has no pending
record; an UNBOUND layer has the values of R1 but for its expired condition. -/
def LayerOk (x : Layer) : Prop :=
  match x.binding with
  | .unbound => x = { Layer.reset with expired := x.expired }
  | .bound => x.owner ≠ none
  | .releasing => x.owner ≠ none ∧ x.staged = none

/-- Every layer keeps R1 and R2. -/
def LayersOk (s : State) : Prop := ∀ l, LayerOk (s.layer l)

/-- R13: at most one layer names VIN, live and pending taken together; a list beside a source VIN is empty. -/
def SourceOk (s : State) : Prop :=
  (∀ l m, (s.layer l).namesVin → (s.layer m).namesVin → l = m)
    ∧ ∀ l, ((s.layer l).attrs.source = .vin → (s.layer l).live = [])
      ∧ ∀ r ∈ (s.layer l).staged, r.attrs.source = .vin → r.list = []

/-! ### The Slot Store -/

/-- Whether the monitor of layer `l` holds a reference in slot `i` (R156): it names the slot, or the view of the frame
in progress took the slot as its fallback. -/
def monitorHolds (s : State) (i : Fin 64) (l : Fin 8) : Bool :=
  (s.monitor l).fallback = some i || s.viewFallback l = some i

/-- The references that R62 counts for slot `i`. -/
def referencesTo (s : State) (i : Fin 64) : Nat :=
  s.placements.countP (fun e => e.slot = i) + (List.finRange 8).countP (monitorHolds s i)

/-- R62: each slot's reference count equals its references. The second clause is about the model's own field: the
fallback references of the coming frame start have not been given up before it (log 5). -/
def RefsOk (s : State) : Prop :=
  (∀ i, (s.slot i).refCount = referencesTo s i) ∧ FrameWork.fallback ∉ s.frameTaken

/-- R47 to R49, R59, R65, R67: what a slot record holds in each state. -/
def SlotOk (x : Slot) : Prop :=
  ((x.width = 0 ∧ x.height = 0)
      ∨ (1 ≤ x.width ∧ x.width ≤ 256 ∧ 1 ≤ x.height ∧ x.height ≤ 256 ∧ x.width * x.height ≤ Config.slotPixels))
    ∧ x.writePos ≤ x.width * x.height ∧ x.writePos ≤ x.pixels.length
    ∧ (x.captureFlag = true → x.state = .empty ∨ x.state = .ready)
    ∧ (x.orphanVisible = true → x.state = .orphan)
    ∧ match x.state with
      | .free => x = Slot.freed x.pixels
      | .empty => x.owner ≠ none ∧ x.width = 0 ∧ x.height = 0
      | .opening => x.owner ≠ none ∧ x.writePos = 0
      | .opened => x.owner ≠ none
      | .ready => x.owner ≠ none ∧ x.writePos = x.width * x.height
      | .orphan => x.owner = none ∧ 1 ≤ x.refCount

/-- Every slot record keeps R47 to R49. -/
def SlotsOk (s : State) : Prop := ∀ i, SlotOk (s.slot i)

/-! ### Colours -/

/-- Video range (section "Conventions", R16, R48, R70, R110). -/
def Colour.inRange (c : Colour) : Bool :=
  16 ≤ c.y && c.y ≤ 235 && 16 ≤ c.cb && c.cb ≤ 240 && 16 ≤ c.cr && c.cr ≤ 240

/-- A palette entry within the ranges of R70. -/
def PaletteEntry.inRange (e : PaletteEntry) : Bool := e.colour.inRange && e.alpha ≤ 16

/-- A pixel within the ranges of R48. -/
def Pixel.inRange : Pixel → Bool
  | .direct c => c.inRange
  | .indexed _ => true

/-- A frame whose pixels lie within video range (R110). -/
def VideoFrame.inRange (f : VideoFrame) : Bool := f.lines.all fun row => row.all Colour.inRange

/-- The ranges of opacities and steps (R1). -/
def Attributes.inRange (a : Attributes) : Bool := a.target ≤ 16 && a.step ≤ 16

/-- A view whose every sample lies within video range (R96). -/
def View.InRange (v : View) : Prop :=
  v.backdrop.inRange = true ∧ (∀ l, (v.layer l).current ≤ 16) ∧ (∀ n, (v.entry n).inRange = true)
    ∧ (∀ i, ∀ img ∈ v.image i, ∀ px ∈ img.pixels, Pixel.inRange px = true) ∧ ∀ f ∈ v.shown, VideoFrame.inRange f = true

/-- R16, R48, R70, R96, R104: every stored colour, alpha and opacity lies within its range. -/
def ColoursOk (s : State) : Prop :=
  s.backdropLive.inRange = true ∧ s.backdropPending.inRange = true
    ∧ (∀ n : Fin 256, s.palLive[n.val].inRange = true ∧ s.palPending[n.val].inRange = true)
    ∧ (∀ l, (s.layer l).current ≤ 16 ∧ (s.layer l).attrs.inRange = true
        ∧ ∀ r ∈ (s.layer l).staged, r.attrs.inRange = true)
    ∧ (∀ i, ∀ px ∈ (s.slot i).pixels, px.inRange = true)
    ∧ (∀ f ∈ s.vin.ready, f.inRange = true) ∧ (∀ f ∈ s.vin.shown, f.inRange = true)
    ∧ ∀ v ∈ s.view, v.InRange

/-! ### The trailer input -/

/-- A frame of the input store: exactly its height of lines, each of exactly its width (R111, R115). -/
def VideoFrame.whole (f : VideoFrame) : Bool :=
  64 ≤ f.width && f.width ≤ 960 && 32 ≤ f.height && f.height ≤ 540
    && f.lines.length = f.height && f.lines.all fun row => row.length = f.width

/-- What each lock state says of the counts (R104, R112, R113). -/
def lockCounts (v : TrailerInput) : Prop :=
  match v.lock with
  | .off => v.goodCount = 0 ∧ v.badRun = 0 ∧ v.silence = 0 ∧ v.receiving = none
  | .acquiring => v.goodCount < 3 ∧ v.badRun = 0
  | .locked => v.goodCount = 3 ∧ v.badRun < 2 ∧ v.silence < Config.silenceMax
  | .lost => v.goodCount ≤ 3 ∧ v.badRun = 0

/-- R104, R105, R108, R112, R113: the trailer input's format, counts, frames and holder. -/
def TrailerOk (s : State) : Prop :=
  64 ≤ s.vin.width ∧ s.vin.width ≤ 960 ∧ s.vin.width % 2 = 0 ∧ 32 ≤ s.vin.height ∧ s.vin.height ≤ 540
    ∧ s.vin.settle ≤ 3 ∧ s.vin.silence ≤ Config.silenceMax ∧ lockCounts s.vin
    ∧ (s.vin.holder = none → s.vin.lock = .off ∧ s.vin.captureEnabled = false)
    ∧ (∀ r ∈ s.vin.receiving, r.stale = false → r.width = s.vin.width ∧ r.height = s.vin.height)
    ∧ (∀ f ∈ s.vin.ready, f.whole = true) ∧ ∀ f ∈ s.vin.shown, f.whole = true

/-! ### The Capture Unit -/

/-- Every request, the active one first (R120). -/
def CaptureUnit.requests (c : CaptureUnit) : List CaptureRequest := c.active.toList ++ c.queue

/-- A port's state after the requests `rs` have ended with outcome `o`: a report of each that names port `q` as its
requester, in their order, and CAP_ABORT when there is one (R134, R136, R139, R140). -/
def PortState.told (x : PortState) (q : Port) (rs : List CaptureRequest) (o : OutcomeCode) : PortState :=
  let own := rs.filter fun r => r.requester = q
  { x with
    reports := x.reports ++ own.map fun r => ⟨r.tag, r.slot, o, r.origin⟩
    sticky := if own = [] then x.sticky else x.sticky ||| 0x008 }

/-- The record of slot `i` after the requests `rs` have ended without a takeover: its capture flag clears when one of
them names it, and nothing else of it changes (R134). -/
def Slot.unnamed (x : Slot) (i : Fin 64) (rs : List CaptureRequest) : Slot :=
  if ∃ r ∈ rs, r.slot = i then { x with captureFlag := false } else x

/-- Whether a request's rectangle lies within the format in force (R129, R150). -/
def CaptureRequest.within (r : CaptureRequest) (v : TrailerInput) : Prop :=
  r.crop.x + r.crop.w ≤ v.width ∧ r.crop.y + r.crop.h ≤ v.height

/-- A queue considered head first (R129): `dead` are the requests before the first one that fits the format in force, and
`rest` begins with that one, or is empty when none fits. -/
def FirstFit (v : TrailerInput) (queue dead rest : List CaptureRequest) : Prop :=
  queue = dead ++ rest ∧ (∀ d ∈ dead, ¬ d.within v) ∧ ∀ b ∈ rest.head?, b.within v

/-- A unit in IDLE once its queue has been considered in LOCKED (R129 to R131): the first request of `rest` is active with
the settle count 0, in SETTLE, or at a settle value of 0 in SAMPLE with `sampled` the frame that is sampled; with `rest`
empty the unit stays IDLE. -/
def CaptureUnit.served (c : CaptureUnit) (settle : Nat) (sampled : Sampled) (rest : List CaptureRequest) : CaptureUnit :=
  match rest with
  | [] => { c with queue := [] }
  | b :: behind =>
    if settle = 0 then { c with
      queue := behind, active := some b, settleCount := 0, phase := .sample, sampled := sampled
      result := .forming (b.crop.w / b.crop.dx) (b.crop.h / b.crop.dy) }
    else { c with queue := behind, active := some b, settleCount := 0, phase := .settle }

/-- Whether a phase serves a request (R121). -/
def Phase.serving : Phase → Bool
  | .idle | .recover => false
  | .settle | .sample | .held => true

/-- What a request's rectangle and decimation keep from its acceptance on (R120, R123). -/
def Crop.ok (c : Crop) : Prop :=
  1 ≤ c.dx ∧ c.dx ≤ 8 ∧ 1 ≤ c.dy ∧ c.dy ≤ 8 ∧ 1 ≤ c.outWidth ∧ c.outWidth ≤ 256 ∧ 1 ≤ c.outHeight
    ∧ c.outHeight ≤ 256 ∧ c.outWidth * c.outHeight ≤ Config.slotPixels

/-- R121: what the result buffer holds in each phase. -/
def resultFits (c : CaptureUnit) : Prop :=
  match c.phase, c.result, c.active with
  | .idle, r, _ | .recover, r, _ | .settle, r, _ => r = .empty
  | .sample, .forming w h, some r => w = r.crop.outWidth ∧ h = r.crop.outHeight
  | .held, .finished w h cs, some r => w = r.crop.outWidth ∧ h = r.crop.outHeight ∧ cs.length = w * h
  | .sample, _, _ | .held, _, _ => False

/-- R120, R121, R125, R134, R137: queue and counts within their limits, the active position as the phase says, no slot
named twice, a slot's flag set exactly when a request names it, each request's slot EMPTY or READY and its requester's,
and no request while capture is disabled or the input is OFF. -/
def CaptureOk (s : State) : Prop :=
  s.cap.queue.length ≤ Config.captureQueueMax ∧ (∀ p, s.outstanding p ≤ Config.outstandingMax)
    ∧ s.cap.active.isSome = s.cap.phase.serving ∧ resultFits s.cap
    ∧ (s.cap.requests.map (·.slot)).Nodup
    ∧ (∀ i, (s.slot i).captureFlag = true ↔ ∃ r ∈ s.cap.requests, r.slot = i)
    ∧ (∀ r ∈ s.cap.requests, (s.slot r.slot).owner = some r.requester ∧ r.crop.ok
        ∧ ((s.slot r.slot).state = .empty ∨ (s.slot r.slot).state = .ready))
    ∧ (s.cap.requests ≠ [] → s.vin.captureEnabled = true ∧ s.vin.lock ≠ .off)
    ∧ (s.vin.captureEnabled = true → s.vin.holder ≠ none)
    ∧ (s.vin.holder = none → s.vin.lock = .off)

/-- The Slot Store and what its counts and flags answer to, together (R47 to R49, R62, R65, R67, R120). -/
def SlotStoreOk (s : State) : Prop := RefsOk s ∧ CaptureOk s ∧ SlotsOk s

/-! ### Timers and monitors -/

/-- R142, R145 to R148: a timer without a holder has the reset values; the ranges of the fields; a running FREE or
ONESHOT count from 1 to the reload value and a stopped one at it; a running CAPTURE timer has a template. -/
def TimerOk (m : FrameTimer) : Prop :=
  (m.holder = none → m = FrameTimer.reset)
    ∧ (m.prescaler = 1 ∨ m.prescaler = 2 ∨ m.prescaler = 4 ∨ m.prescaler = 8) ∧ m.prescaleCount < m.prescaler
    ∧ 1 ≤ m.reload ∧ m.reload ≤ Config.timerMax ∧ m.count ≤ Config.timerMax ∧ m.measured ≤ Config.timerMax
    ∧ (m.mode ≠ .measure → 1 ≤ m.count ∧ m.count ≤ m.reload ∧ (m.running = false → m.count = m.reload ∧ m.prescaleCount = 0))
    ∧ (m.running = true → m.mode ≠ .measure → m.action = .capture → m.template ≠ none)
    ∧ (m.template = none → m.templateIndex = 0)
    ∧ ∀ k ∈ m.template, 1 ≤ k.count ∧ k.count ≤ 16 ∧ k.first + k.count ≤ 64 ∧ k.crop.ok ∧ m.templateIndex < k.count

/-- Whether the next source event of a kind expires the timer with a capture trigger (R148, R149). -/
def FrameTimer.TriggersAt (m : FrameTimer) (source : TimerSource) : Prop :=
  m.running = true ∧ m.mode ≠ .measure ∧ m.source = source ∧ m.action = .capture
    ∧ m.prescaler ≤ m.prescaleCount + 1 ∧ m.count ≤ 1

/-- Every timer keeps R142. -/
def TimersOk (s : State) : Prop := ∀ t, TimerOk (s.timer t)

/-- R154, R155, R158, R165: the ranges of a monitor; a running one counts from P down to 1; a locked one runs; only a
locked one has a locking port; FALLBACK names a slot. -/
def MonitorOk (m : Monitor) : Prop :=
  1 ≤ m.period ∧ m.period ≤ Config.periodMax ∧ 1 ≤ m.window ∧ m.window ≤ 4 ∧ m.remaining ≤ Config.periodMax
    ∧ (m.running = true → 1 ≤ m.remaining ∧ m.remaining ≤ m.period) ∧ (m.locked = true → m.running = true)
    ∧ (m.lockingPort ≠ none → m.locked = true) ∧ (m.action = .fallback → m.fallback ≠ none)

/-- Every monitor keeps R154. -/
def MonitorsOk (s : State) : Prop := ∀ l, MonitorOk (s.monitor l)

/-! ### The ports -/

/-- A cursor within the ranges of R35. -/
def CursorOk (c : Cursor) : Prop :=
  -2048 ≤ c.x ∧ c.x ≤ 2047 ∧ -2048 ≤ c.y ∧ c.y ≤ 2047 ∧ -2048 ≤ c.x0 ∧ c.x0 ≤ 2047
    ∧ -1024 ≤ c.dx ∧ c.dx ≤ 1023 ∧ -1024 ≤ c.dy ∧ c.dy ≤ 1023 ∧ 1 ≤ c.columns ∧ c.columns ≤ 16
    ∧ c.column < c.columns ∧ -8 ≤ c.step ∧ c.step ≤ 8

/-- Whether rectangle `a`'s corners lie inside those of `b`, so that every pixel of `a` is one of `b` (R40, R41). -/
def Rect.inside (a b : Rect) : Prop := b.x0 ≤ a.x0 ∧ b.y0 ≤ a.y0 ∧ a.x1 ≤ b.x1 ∧ a.y1 ≤ b.y1

/-- A clip stack, top first: each entry lies within the entry below it, the lowest within the raster (R40). -/
def nestedClips : List Rect → Prop
  | [] => True
  | [r] => r.inside Rect.raster
  | r :: below :: rest => r.inside below ∧ nestedClips (below :: rest)

/-- R166, R168 to R172: the repeat record in each repeat state. -/
def RepeatOk (r : RepeatRecord) : Prop :=
  r.cache.length ≤ Config.cacheMax ∧ (∀ f ∈ r.cache, f.barred = false) ∧ r.loopCount ≤ Config.passMax
    ∧ 1 ≤ r.passCount ∧ r.passCount ≤ Config.passMax ∧ r.passesCompleted ≤ Config.passMax
    ∧ match r.state with
      | .none => r.summary = none ∧ r.starter = none
      | .capturing => r.summary = none ∧ r.starter ≠ none ∧ 1 ≤ r.commandsLeft
          ∧ r.cache.length + r.commandsLeft ≤ Config.cacheMax
      | .replaying => r.starter ≠ none ∧ r.passesCompleted + r.passesLeft ≤ Config.passMax
          ∧ (r.summary = none → 1 ≤ r.passesLeft ∧ r.place < r.cache.length)

/-- What a link that has begun a transaction with a queue not full says of the queue (R175, R176). -/
def linkFits (q : PortState) : Prop :=
  match q.link with
  | .selected _ false _ => q.queue.length < Config.queueMax
  | .selected _ true _ | .idle | .ignored => True

/-- R35, R40, R166, R176, R178: a port's lists within their limits, its cursors in range, its clips nested. -/
def PortOk (q : PortState) : Prop :=
  q.queue.length ≤ Config.queueMax ∧ linkFits q ∧ q.ring.length ≤ Config.ringMax
    ∧ q.clips.length ≤ Config.clipMax ∧ nestedClips q.clips
    ∧ (∀ r ∈ q.clips, r.x0 ≤ 959 ∧ r.y0 ≤ 539) ∧ CursorOk q.cursor0 ∧ CursorOk q.cursor1 ∧ RepeatOk q.rpt

/-- Every port keeps its limits. -/
def PortsOk (s : State) : Prop := ∀ p, PortOk (s.port p)

/-- The limits of a result record's value and extra bytes (R178). -/
def ResultRecord.fits (r : ResultRecord) : Prop := r.value ≤ 65535 ∧ r.extra.length ≤ 8

/-- R178: every record of a ring, and every summary record that waits to join one, keeps its limits. -/
def RecordsOk (s : State) : Prop := ∀ p, (∀ r ∈ (s.port p).ring, r.fits) ∧ ∀ r ∈ (s.port p).rpt.summary, r.fits

/-! ### What a step keeps -/

/-- `Inv` holds after every step from a state in which it holds. -/
def KeptByStep (Inv : State → Prop) : Prop := ∀ s s' : State, Inv s → step s = .next s' → Inv s'

end Sys2Proof.Machine
end

