-- ==== Sys2Proof/Certificates/Slice0/Obligations.lean ====
section
/-! DEFINITION. The statements for the provers. Each docstring names the rules of spec/ it rests on. -/

open Sys2Proof Sys2Proof.Machine

/-- The step takes the event in front and runs exec on it with the queue's rest. That an empty queue leaves the part as
it is, is the model's choice (log 2). -/
def Obligations.StepRunsTheCommandInFront : Prop :=
  (∀ (c : Instr) (s : State), step { s with pending := c :: s.pending } = exec c s)
    ∧ ∀ s : State, s.pending = [] → step s = .next s

/-- Every row of the table answers a next state in every state, and none touches the queue of events to come, which is
the model's own field (log 2). -/
def Obligations.EveryCommandGoesOnAndKeepsTheQueue : Prop :=
  ∀ (c : Instr) (s : State), ∃ t, exec c s = .next t ∧ t.pending = s.pending

/-! ### The executor (R177, R169 to R171) -/

/-- A command whose turn has not come changes nothing (R177, R170, R184; that such a row waits is the model's reading,
log 7). -/
def Obligations.CommandWaitsForItsTurn : Prop :=
  ∀ (i : Instr) (p : Port) (f : Frame) (op : CommandOp) (s : State), commandOf i = some (p, f, op) →
    (s.resetPin = true
      ∨ ((s.port p).rpt.state ≠ .replaying
          ∧ (8 ≤ (s.port p).ring.length ∨ ((s.port p).queue ≠ [] ∧ (s.port p).queue.head? ≠ some f)))
      ∨ ((s.port p).rpt.state = .replaying
          ∧ ((s.port p).rpt.summary ≠ none ∨ (s.port p).rpt.cache[(s.port p).rpt.place]? ≠ some f))) →
    exec i s = .next s

/-- A command taken from the head of the queue outside a block has its block's effect, and its record with tag, code,
outcome, value and extra bytes joins the tail of the ring (R177); an accepted RPT_AGAIN alone yields none (R172). -/
def Obligations.TakenCommandIsAnswered : Prop :=
  ∀ (i : Instr) (p : Port) (f : Frame) (op : CommandOp) (s : State), commandOf i = some (p, f, op) → Takes s p f →
    let r := op (s.dropHead p)
    exec i s = .next (if r.2.silent then r.1 else r.1.pushRecord p ⟨f.tag, f.code, r.2.outcome, r.2.value, r.2.extra⟩)
      ∧ (r.2.silent = true → ∃ tag k, i = .rptAgain p tag k)

/-- A refused command, of whatever block, changes nothing but its port's queue and ring (R2, R50, R106, R123, R143,
R156, R168, R172). -/
def Obligations.RefusedCommandChangesNothing : Prop :=
  ∀ (i : Instr) (p : Port) (f : Frame) (op : CommandOp) (s : State), commandOf i = some (p, f, op) → Takes s p f →
    (op (s.dropHead p)).2.outcome.success = false →
    exec i s = .next (s.answered p f (op (s.dropHead p)).2.outcome (op (s.dropHead p)).2.value
      (op (s.dropHead p)).2.extra)

/-- In CAPTURING an allowed command runs as outside a block, yields its record, joins the cache and takes one from
commands left; the last one ends the block or begins the replay (R169). That commands left and the pass count then keep
their values, and that the starter is absent in NONE, is the model's choice (log 17, DESIGN CHOICE); that a captured
frame of an unknown code is cached like another is its reading (log 12, DEDUCED).

In CAPTURING a barred command is not executed: BARRED with value 0, the cache emptied, the state NONE (R169). -/
def Obligations.BlockCommandRunsAndIsCachedOrIsBarred : Prop :=
  (∀ (i : Instr) (p : Port) (f : Frame) (op : CommandOp) (s : State), commandOf i = some (p, f, op) →
    s.resetPin = false → (s.port p).rpt.state = .capturing → (s.port p).ring.length < 8 →
    (s.port p).queue.head? = some f → f.barred = false →
    let q := (s.port p).rpt
    let a := (op (s.dropHead p)).2
    let u := (op (s.dropHead p)).1.pushRecord p ⟨f.tag, f.code, a.outcome, a.value, a.extra⟩
    (2 ≤ q.commandsLeft →
        exec i s = .next (u.setRepeat p { q with cache := q.cache ++ [f], commandsLeft := q.commandsLeft - 1 }))
      ∧ (q.commandsLeft = 1 → q.passCount = 1 →
        exec i s = .next (u.setRepeat p
          { q with cache := q.cache ++ [f], commandsLeft := 0, state := .none, starter := none }))
      ∧ (q.commandsLeft = 1 → 2 ≤ q.passCount →
        exec i s = .next (u.setRepeat p
          { q with
            cache := q.cache ++ [f], commandsLeft := 0, state := .replaying, passesLeft := q.passCount - 1
            passesCompleted := 0, place := 0, summary := none })))
  ∧ (∀ (i : Instr) (p : Port) (f : Frame) (op : CommandOp) (s : State), commandOf i = some (p, f, op) →
    s.resetPin = false → (s.port p).rpt.state = .capturing → (s.port p).ring.length < 8 →
    (s.port p).queue.head? = some f → f.barred = true →
    exec i s = .next ((s.answered p f .barred 0 []).setRepeat p
      { (s.port p).rpt with cache := [], state := .none, starter := none }))

/-- In REPLAYING the next cached command runs against the state as it stands, without a record of its own; a success
moves on, ends the pass or ends the replay, and a refusal stops it with the part as it was (R170, R171). That a replay
that has ended holds its summary record and stays REPLAYING until a SUMMARY_RECORD writes it is the model's reading
(log 16, DEDUCED); the place and the summary are fields of the model's (log 17, DESIGN CHOICE), an unknown frame may stand
in the cache (log 12, DEDUCED), and passes left keeps its value after a refusal (log 35, DESIGN CHOICE). -/
def Obligations.ReplayedCommandRunsWithoutARecord : Prop :=
  ∀ (i : Instr) (p : Port) (f : Frame) (op : CommandOp) (s : State), commandOf i = some (p, f, op) →
    s.resetPin = false → (s.port p).rpt.state = .replaying → (s.port p).rpt.summary = none →
    (s.port p).rpt.cache[(s.port p).rpt.place]? = some f → f.barred = false →
    let q := (s.port p).rpt
    let u := (op s).1
    let o := (op s).2.outcome
    (o.success = true → q.place + 1 < q.cache.length → exec i s = .next (u.setRepeat p { q with place := q.place + 1 }))
      ∧ (o.success = true → q.cache.length = q.place + 1 → 2 ≤ q.passesLeft →
        exec i s = .next (u.setRepeat p
          { q with place := 0, passesCompleted := q.passesCompleted + 1, passesLeft := q.passesLeft - 1 }))
      ∧ (o.success = true → q.cache.length = q.place + 1 → q.passesLeft = 1 →
        exec i s = .next (u.setRepeat p
          { q with
            place := 0, passesCompleted := q.passesCompleted + 1, passesLeft := 0
            summary := some ⟨(starterOf q).1, (starterOf q).2, .ok, q.passesCompleted + 1, []⟩ }))
      ∧ (o.success = false →
        exec i s = .next (s.setRepeat p
          { q with summary := some ⟨(starterOf q).1, f.code, .stopped, q.passesCompleted,
              [outcomeByte o, natByte (q.place + 1), f.tag]⟩ }))

/-- The summary record joins the ring when it has room, the state becomes NONE and the cache is kept; with a full ring
it waits (R171). That the writing is a step of its own is the model's reading (log 16, DEDUCED), that the starter is
absent and the place 0 after it its choice (log 17, DESIGN CHOICE), and so is that the row changes nothing without a
summary (log 24, DESIGN CHOICE).

A frame with a code that is not in the table, or with another operand count than its layout, is refused BAD_ARG with
value 0, and nothing else happens (R177). -/
def Obligations.SummariesAndUnknownFramesAreAnswered : Prop :=
  (∀ (p : Port) (s : State),
    (∀ r, (s.port p).rpt.summary = some r → (s.port p).ring.length < 8 →
      exec (.summaryRecord p) s = .next ((s.pushRecord p r).setRepeat p
        { (s.port p).rpt with state := .none, starter := none, place := 0, summary := none }))
      ∧ (∀ r, (s.port p).rpt.summary = some r → 8 ≤ (s.port p).ring.length → exec (.summaryRecord p) s = .next s)
      ∧ ((s.port p).rpt.summary = none → exec (.summaryRecord p) s = .next s))
  ∧ (∀ (p : Port) (tag code : Byte) (operands : List Byte) (s : State),
    (Frame.mk tag code operands).known = false → Takes s p ⟨tag, code, operands⟩ →
    exec (.unknownCommand p tag code operands) s = .next (s.answered p ⟨tag, code, operands⟩ .badArg 0 []))

/-! ### The checks of number, owner and state (R2, R50, R106, R143) -/

/-- A layer command is refused BAD_ARG for a number over 7, NOT_OWNER for a port that is not the recorded owner, and,
for the owner, WAIT_FRAME on a RELEASING layer (R2, R24, R154). That FRS_SETUP and FRS_STOP are so answered on a locked
monitor too, where R165 reads LOCKED from every port, is the model's reading (log 31, DEDUCED).

A slot or timer command is refused BAD_ARG for a number out of range and NOT_OWNER for a port that does not hold the
slot or timer; a command of the trailer input's holder is refused NOT_OWNER for every other port (R50, R106, R123,
R143). -/
def Obligations.HoldingsAskForTheirOwner : Prop :=
  (∀ (i : Instr) (p : Port) (f : Frame) (op : CommandOp) (l : Byte) (s : State), commandOf i = some (p, f, op) →
    layerOperand i = some l → Takes s p f →
    (8 ≤ l.toNat → exec i s = .next (s.answered p f .badArg 0 []))
      ∧ ∀ n : Fin 8, l.toNat = n.val →
        ((s.layer n).owner ≠ some p → exec i s = .next (s.answered p f .notOwner 0 []))
          ∧ ((s.layer n).owner = some p → (s.layer n).binding = .releasing →
            exec i s = .next (s.answered p f .waitFrame 0 [])))
  ∧ (∀ (i : Instr) (p : Port) (f : Frame) (op : CommandOp) (s : State), commandOf i = some (p, f, op) →
    i.wellFormed = true → Takes s p f →
    (∀ b, slotOperand i = some b → 64 ≤ b.toNat → exec i s = .next (s.answered p f .badArg 0 []))
      ∧ (∀ b, ∀ n : Fin 64, slotOperand i = some b → b.toNat = n.val → (s.slot n).owner ≠ some p →
        exec i s = .next (s.answered p f .notOwner 0 []))
      ∧ (∀ b, timerOperand i = some b → 4 ≤ b.toNat → exec i s = .next (s.answered p f .badArg 0 []))
      ∧ (∀ b, ∀ n : Fin 4, timerOperand i = some b → b.toNat = n.val → (s.timer n).holder ≠ some p →
        exec i s = .next (s.answered p f .notOwner 0 []))
      ∧ (asksInput i = true → s.vin.holder ≠ some p → exec i s = .next (s.answered p f .notOwner 0 [])))

/-! ### Layers (file 01) -/

/-- LYR_CLAIM: BAD_ARG over 7, OK with the number on an UNBOUND layer, TAKEN on any other (R9). -/
def Obligations.LayerClaimTakesAnUnboundLayer : Prop :=
  ∀ (p : Port) (tag l : Byte) (s : State), Takes s p (frameLyrClaim tag l) →
    (8 ≤ l.toNat → exec (.lyrClaim p tag l) s = .next (s.answered p (frameLyrClaim tag l) .badArg 0 []))
      ∧ ∀ n : Fin 8, l.toNat = n.val →
        ((s.layer n).binding = .unbound →
          exec (.lyrClaim p tag l) s = .next ((s.answered p (frameLyrClaim tag l) .ok n.val []).setLayer n
            { s.layer n with binding := .bound, owner := some p }))
          ∧ ((s.layer n).binding ≠ .unbound →
            exec (.lyrClaim p tag l) s = .next (s.answered p (frameLyrClaim tag l) .taken 0 []))

/-- LYR_RELEASE of a BOUND layer: RELEASING at once with the live record kept, the pending record discarded with its
slots' counts, an unlocked monitor returned and its fallback given up, all else as it was (R10, R3, R156, R163). -/
def Obligations.LayerReleaseKeepsTheLiveRecord : Prop :=
  ∀ (p : Port) (tag l : Byte) (n : Fin 8) (s : State), Takes s p (frameLyrRelease tag l) → l.toNat = n.val →
    (s.layer n).owner = some p → (s.layer n).binding ≠ .releasing →
    ∃ t, exec (.lyrRelease p tag l) s = .next t
      ∧ t = { s.answered p (frameLyrRelease tag l) .ok 0 [] with
          layers := t.layers, slots := t.slots, monitors := t.monitors }
      ∧ t.layer n = { s.layer n with binding := .releasing, staged := none }
      ∧ (∀ m, m ≠ n → t.layer m = s.layer m ∧ t.monitor m = s.monitor m)
      ∧ ((s.monitor n).locked = true → t.monitor n = s.monitor n)
      ∧ ((s.monitor n).locked = false →
        t.monitor n = { Monitor.reset with lockingPort := (s.monitor n).lockingPort })
      ∧ ∀ j : Fin 64, t.slot j = slotLessRef^[(s.layer n).stagedList.countP (fun e => e.slot = j)
          + (if (s.monitor n).locked = false ∧ (s.monitor n).fallback = some j ∧ s.viewFallback n ≠ some j then 1 else 0)]
          (s.slot j)

/-- LYR_BEGIN on a BOUND layer without a committed record: FRESH opens an empty record over the live attributes; COPY
gives each live entry, in order, the next free pool entry, and raises its slot's count; both discard an old record
first. A committed record, another mode and a lack of entries refuse it (R11, R4). -/
def Obligations.LayerBeginOpensARecord : Prop :=
  ∀ (p : Port) (tag l mode : Byte) (n : Fin 8) (s : State), Takes s p (frameLyrBegin tag l mode) → l.toNat = n.val →
    (s.layer n).owner = some p → (s.layer n).binding ≠ .releasing →
    let f := frameLyrBegin tag l mode
    let x := s.layer n
    let lost := fun j : Fin 64 => slotLessRef^[x.stagedList.countP (fun e => e.slot = j)] (s.slot j)
    ((∃ r, x.staged = some r ∧ r.committed = true) →
        exec (.lyrBegin p tag l mode) s = .next (s.answered p f .waitFrame 0 []))
      ∧ ((∀ r, x.staged = some r → r.committed = false) →
        (2 ≤ mode.toNat → exec (.lyrBegin p tag l mode) s = .next (s.answered p f .badArg 0 []))
          ∧ (mode = 0 → ∃ t, exec (.lyrBegin p tag l mode) s = .next t
            ∧ t = { s.answered p f .ok 0 [] with layers := t.layers, slots := t.slots }
            ∧ t.layer n = { x with staged := some ⟨x.attrs, [], false, false⟩ }
            ∧ (∀ m, m ≠ n → t.layer m = s.layer m) ∧ ∀ j, t.slot j = lost j)
          ∧ (mode = 1 → s.poolFree.length + x.stagedList.length < x.live.length →
            exec (.lyrBegin p tag l mode) s = .next (s.answered p f .poolEmpty 0 []))
          ∧ (mode = 1 → PoolOk s → x.live.length ≤ s.poolFree.length + x.stagedList.length →
            ∃ t list, exec (.lyrBegin p tag l mode) s = .next t
              ∧ t = { s.answered p f .ok x.live.length [] with layers := t.layers, slots := t.slots }
              ∧ t.layer n = { x with staged := some ⟨x.attrs, list, false, false⟩ }
              ∧ list.map (·.index) = (s.discardStaged n).poolFree.take x.live.length
              ∧ list.map (fun e => { e with index := 0 }) = x.live.map (fun e => { e with index := 0 })
              ∧ (∀ m, m ≠ n → t.layer m = s.layer m)
              ∧ ∀ j, t.slot j = { lost j with refCount := (lost j).refCount + x.live.countP (fun e => e.slot = j) }))

/-- LYR_ATTR: no record NO_EDIT, a committed one WAIT_FRAME, a bad visible or source BAD_ARG, VIN beside a non-empty
pending list or a second VIN layer BAD_ARG; else the attributes replace those of the record, each brought into range
(R12, R13, R3). That visible is coded 00h no and 01h yes is the model's reading (log 13). -/
def Obligations.LayerAttrReplacesTheAttributes : Prop :=
  ∀ (p : Port) (tag l visible target fade : Byte) (ox oy : Half) (source : Byte) (x0 y0 x1 y1 : Half) (n : Fin 8)
    (s : State), Takes s p (frameLyrAttr tag l visible target fade ox oy source x0 y0 x1 y1) → l.toNat = n.val →
    (s.layer n).owner = some p → (s.layer n).binding ≠ .releasing →
    let f := frameLyrAttr tag l visible target fade ox oy source x0 y0 x1 y1
    let i := Instr.lyrAttr p tag l visible target fade ox oy source x0 y0 x1 y1
    ((s.layer n).staged = none → exec i s = .next (s.answered p f .noEdit 0 []))
      ∧ ∀ r, (s.layer n).staged = some r →
        (r.committed = true → exec i s = .next (s.answered p f .waitFrame 0 []))
          ∧ (r.committed = false → (2 ≤ visible.toNat ∨ 2 ≤ source.toNat) →
            exec i s = .next (s.answered p f .badArg 0 []))
          ∧ (r.committed = false → source = 1 → (r.list ≠ [] ∨ ∃ m, m ≠ n ∧ (s.layer m).namesVin = true) →
            exec i s = .next (s.answered p f .badArg 0 []))
          ∧ (r.committed = false → visible.toNat < 2 →
            (source = 0 ∨ (source = 1 ∧ r.list = [] ∧ ∀ m, m ≠ n → (s.layer m).namesVin = false)) →
            exec i s = .next ((s.answered p f
                (okIf (target.toNat ≤ 16 ∧ fade.toNat ≤ 16
                  ∧ -2048 ≤ ox.toInt ∧ ox.toInt ≤ 2047 ∧ -2048 ≤ oy.toInt ∧ oy.toInt ≤ 2047
                  ∧ 0 ≤ x0.toInt ∧ x0.toInt ≤ 959 ∧ 0 ≤ y0.toInt ∧ y0.toInt ≤ 539
                  ∧ 0 ≤ x1.toInt ∧ x1.toInt ≤ 959 ∧ 0 ≤ y1.toInt ∧ y1.toInt ≤ 539))
                0 []).setLayer n
              { s.layer n with staged := some { r with attrs := {
                  visible := visible = 1
                  target := min 16 target.toNat
                  step := min 16 fade.toNat
                  ox := into (-2048) 2047 ox.toInt
                  oy := into (-2048) 2047 oy.toInt
                  source := if source = 0 then .placements else .vin
                  clip := ⟨(into 0 959 x0.toInt).toNat, (into 0 539 y0.toInt).toNat, (into 0 959 x1.toInt).toNat,
                    (into 0 539 y1.toInt).toNat⟩ } } }))

/-- LYR_COMMIT: an empty mask BAD_ARG; the lowest layer of the mask that the issuer does not own, NOT_OWNER with its
number; else the lowest that is RELEASING (WAIT_FRAME) or has no uncommitted record (NO_EDIT), with its number; else
every record of the mask becomes committed with clears-expiry set, at once, with their number (R14). -/
def Obligations.LayerCommitTakesTheWholeMask : Prop :=
  ∀ (p : Port) (tag mask : Byte) (s : State), Takes s p (frameLyrCommit tag mask) →
    let f := frameLyrCommit tag mask
    let fails := fun l : Fin 8 => (s.layer l).binding = .releasing
      ∨ ∀ r, (s.layer l).staged = some r → r.committed = true
    (mask = 0 → exec (.lyrCommit p tag mask) s = .next (s.answered p f .badArg 0 []))
      ∧ (∀ l : Fin 8, mask.getLsbD l.val = true → (s.layer l).owner ≠ some p →
          (∀ m : Fin 8, m < l → mask.getLsbD m.val = true → (s.layer m).owner = some p) →
          exec (.lyrCommit p tag mask) s = .next (s.answered p f .notOwner l.val []))
      ∧ (∀ l : Fin 8, (∀ m : Fin 8, mask.getLsbD m.val = true → (s.layer m).owner = some p) →
          mask.getLsbD l.val = true → fails l → (∀ m : Fin 8, m < l → mask.getLsbD m.val = true → ¬ fails m) →
          exec (.lyrCommit p tag mask) s = .next (s.answered p f
            (if (s.layer l).binding = .releasing then .waitFrame else .noEdit) l.val []))
      ∧ (mask ≠ 0 → (∀ m : Fin 8, mask.getLsbD m.val = true → (s.layer m).owner = some p ∧ ¬ fails m) →
          ∃ t, exec (.lyrCommit p tag mask) s = .next t
            ∧ t = { s.answered p f .ok ((List.finRange 8).countP fun l => mask.getLsbD l.val) [] with layers := t.layers }
            ∧ ∀ l : Fin 8, t.layer l = if mask.getLsbD l.val then
                { s.layer l with
                  staged := (s.layer l).staged.map fun r => { r with committed := true, clearsExpiry := true } }
              else s.layer l)

/-- LYR_Z takes the layer out of the pending z-order and puts it back at the index given, the others keeping their
order; the live z-order is not changed; an index over 7 is refused BAD_ARG (R15).

BACKDROP writes the pending backdrop, each component brought into video range, from any port; the live backdrop is
not changed (R16). -/
def Obligations.ZOrderAndBackdropArePending : Prop :=
  (∀ (p : Port) (tag l index : Byte) (n : Fin 8) (s : State), Takes s p (frameLyrZ tag l index) → l.toNat = n.val →
    (s.layer n).owner = some p → (s.layer n).binding ≠ .releasing →
    let f := frameLyrZ tag l index
    (8 ≤ index.toNat → exec (.lyrZ p tag l index) s = .next (s.answered p f .badArg 0 []))
      ∧ (index.toNat < 8 → ZOrdersOk s →
        ∃ z, exec (.lyrZ p tag l index) s = .next { s.answered p f .ok index.toNat [] with zPending := z }
          ∧ z[index.toNat]? = some n ∧ z.erase n = s.zPending.erase n))
  ∧ (∀ (p : Port) (tag y cb cr : Byte) (s : State), Takes s p (frameBackdrop tag y cb cr) →
    exec (.backdrop p tag y cb cr) s = .next { s.answered p (frameBackdrop tag y cb cr)
        (okIf (16 ≤ y.toNat ∧ y.toNat ≤ 235 ∧ 16 ≤ cb.toNat ∧ cb.toNat ≤ 240 ∧ 16 ≤ cr.toNat ∧ cr.toNat ≤ 240)) 0 [] with
      backdropPending := ⟨max 16 (min 235 y.toNat), max 16 (min 240 cb.toNat), max 16 (min 240 cr.toNat)⟩ })

/-! ### Placements, cursors, clips and windows (file 02, R81, R82) -/

/-- PLC_ADD: the checks of R31 from step 3 on, in their order, and, when all hold, the placement of R32 at the end of
the pending list: the lowest-numbered free entry, the position clamped, the top clip and the window pair of the
issuer's port (R28, R29), and one more reference to the slot. -/
def Obligations.PlacementAddChecksThenAppends : Prop :=
  ∀ (p : Port) (tag l slot : Byte) (x y : Half) (n : Fin 8) (s : State), Takes s p (framePlcAdd tag l slot x y) →
    l.toNat = n.val → (s.layer n).owner = some p → (s.layer n).binding ≠ .releasing →
    let f := framePlcAdd tag l slot x y
    let i := Instr.plcAdd p tag l slot x y
    ((s.layer n).staged = none → exec i s = .next (s.answered p f .noEdit 0 []))
      ∧ ∀ r, (s.layer n).staged = some r →
        (r.committed = true → exec i s = .next (s.answered p f .waitFrame 0 []))
          ∧ (r.committed = false →
            (64 ≤ slot.toNat → exec i s = .next (s.answered p f .badArg 0 []))
              ∧ ∀ j : Fin 64, slot.toNat = j.val →
                (r.attrs.source = .vin → exec i s = .next (s.answered p f .badArg 0 []))
                  ∧ (r.attrs.source = .placements →
                    ((s.slot j).state = .free → exec i s = .next (s.answered p f .slotState 0 []))
                      ∧ ((s.slot j).state ≠ .free →
                        (48 ≤ r.list.length → exec i s = .next (s.answered p f .layerFull 0 []))
                          ∧ (r.list.length < 48 →
                            (s.poolFree = [] → exec i s = .next (s.answered p f .poolEmpty 0 []))
                              ∧ ∀ e, s.poolFree.head? = some e →
                                let px := into (-2048) 2047 x.toInt
                                let py := into (-2048) 2047 y.toInt
                                exec i s = .next (((s.answered p f
                                      (okIf (-2048 ≤ x.toInt ∧ x.toInt ≤ 2047 ∧ -2048 ≤ y.toInt ∧ y.toInt ≤ 2047)) e.val
                                      (natByte j.val :: (intBytes px ++ intBytes py))).setLayer n
                                    { s.layer n with staged := some { r with list := r.list ++
                                      [⟨e, j, px, py, (s.port p).clips.head?, (s.port p).wp0, (s.port p).wp1⟩] } }).setSlot j
                                  { s.slot j with refCount := (s.slot j).refCount + 1 })))))

/-- PLC_CURSOR: no open record NO_EDIT, a committed one WAIT_FRAME, k over 1 BAD_ARG, then the checks of R31 from the
source on, in their order; a refusal leaves the cursor as it was. When all hold, with a cursor in its ranges: the placement
of the cursor's slot at its position, then the advance of R38, x and y saturating (R39) and the slot modulo 64, everything
else of the cursor kept (R37). -/
def Obligations.CursorPlacesThenAdvances : Prop :=
  ∀ (p : Port) (tag l k : Byte) (n : Fin 8) (s : State), Takes s p (framePlcCursor tag l k) → l.toNat = n.val →
    (s.layer n).owner = some p → (s.layer n).binding ≠ .releasing →
    let f := framePlcCursor tag l k
    let i := Instr.plcCursor p tag l k
    let c := if k = 0 then (s.port p).cursor0 else (s.port p).cursor1
    ((s.layer n).staged = none → exec i s = .next (s.answered p f .noEdit 0 []))
      ∧ ∀ r, (s.layer n).staged = some r →
        (r.committed = true → exec i s = .next (s.answered p f .waitFrame 0 []))
          ∧ (r.committed = false → 2 ≤ k.toNat → exec i s = .next (s.answered p f .badArg 0 []))
          ∧ (r.committed = false → k.toNat < 2 → r.attrs.source = .vin →
            exec i s = .next (s.answered p f .badArg 0 []))
          ∧ (r.committed = false → k.toNat < 2 → r.attrs.source = .placements →
            ((s.slot c.slot).state = .free → exec i s = .next (s.answered p f .slotState 0 []))
              ∧ ((s.slot c.slot).state ≠ .free → 48 ≤ r.list.length →
                exec i s = .next (s.answered p f .layerFull 0 []))
              ∧ ((s.slot c.slot).state ≠ .free → r.list.length < 48 → s.poolFree = [] →
                exec i s = .next (s.answered p f .poolEmpty 0 []))
              ∧ ∀ e, CursorOk c → (s.slot c.slot).state ≠ .free → r.list.length < 48 → s.poolFree.head? = some e →
                ∃ t d, exec i s = .next t
                  ∧ t.layer n = { s.layer n with staged := some { r with list := r.list ++
                      [⟨e, c.slot, c.x, c.y, (s.port p).clips.head?, (s.port p).wp0, (s.port p).wp1⟩] } }
                  ∧ t.slot c.slot = { s.slot c.slot with refCount := (s.slot c.slot).refCount + 1 }
                  ∧ (∀ m, m ≠ n → t.layer m = s.layer m) ∧ (∀ j, j ≠ c.slot → t.slot j = s.slot j)
                  ∧ (if c.column + 1 = c.columns then
                      d = { c with column := 0, x := c.x0, y := into (-2048) 2047 (c.y + c.dy), slot := d.slot }
                    else d = { c with column := c.column + 1, x := into (-2048) 2047 (c.x + c.dx), slot := d.slot })
                  ∧ (d.slot.val : Int) = (c.slot.val + c.step) % 64
                  ∧ t.port p = { (s.answered p f .ok e.val
                        (natByte c.slot.val :: (intBytes c.x ++ intBytes c.y))).port p with
                      cursor0 := if k = 0 then d else (s.port p).cursor0
                      cursor1 := if k = 0 then (s.port p).cursor1 else d }
                  ∧ t = { s with layers := t.layers, slots := t.slots, ports := t.ports }
                  ∧ ∀ q, q ≠ p → t.port q = s.port q)

/-- CUR_SET loads every field of the cursor named, each brought into its range, with x0 the new x and column 0; another
k is refused BAD_ARG (R36).

PAL_WINDOW sets the window pointer named of the issuer's port and answers the slice and both pointers; w over 1 or a
slice over 31 is refused BAD_ARG and neither pointer changes (R82). -/
def Obligations.CursorSetAndWindowLoadThePort : Prop :=
  (∀ (p : Port) (tag k : Byte) (x y dx dy : Half) (columns slot fade : Byte) (s : State),
    Takes s p (frameCurSet tag k x y dx dy columns slot fade) →
    let f := frameCurSet tag k x y dx dy columns slot fade
    let i := Instr.curSet p tag k x y dx dy columns slot fade
    (2 ≤ k.toNat → exec i s = .next (s.answered p f .badArg 0 []))
      ∧ (k.toNat < 2 → ∃ c : Cursor,
          c = { x := into (-2048) 2047 x.toInt, y := into (-2048) 2047 y.toInt, x0 := into (-2048) 2047 x.toInt
                dx := into (-1024) 1023 dx.toInt, dy := into (-1024) 1023 dy.toInt
                columns := max 1 (min 16 columns.toNat), column := 0, slot := c.slot, step := into (-8) 8 fade.toInt }
            ∧ c.slot.val = min 63 slot.toNat
            ∧ let o := okIf (-2048 ≤ x.toInt ∧ x.toInt ≤ 2047 ∧ -2048 ≤ y.toInt ∧ y.toInt ≤ 2047
                ∧ -1024 ≤ dx.toInt ∧ dx.toInt ≤ 1023 ∧ -1024 ≤ dy.toInt ∧ dy.toInt ≤ 1023
                ∧ 1 ≤ columns.toNat ∧ columns.toNat ≤ 16 ∧ slot.toNat ≤ 63 ∧ -8 ≤ fade.toInt ∧ fade.toInt ≤ 8)
              let t := s.answered p f o k.toNat []
              exec i s = .next (t.setPort p { t.port p with
                cursor0 := if k = 0 then c else (s.port p).cursor0
                cursor1 := if k = 0 then (s.port p).cursor1 else c })))
  ∧ (∀ (p : Port) (tag w slice : Byte) (s : State), Takes s p (framePalWindow tag w slice) →
    let f := framePalWindow tag w slice
    (2 ≤ w.toNat ∨ 32 ≤ slice.toNat → exec (.palWindow p tag w slice) s = .next (s.answered p f .badArg 0 []))
      ∧ ∀ n : Fin 32, slice.toNat = n.val → w.toNat < 2 →
        let a := if w = 0 then n else (s.port p).wp0
        let b := if w = 0 then (s.port p).wp1 else n
        exec (.palWindow p tag w slice) s = .next (let t := s.answered p f .ok n.val [natByte a.val, natByte b.val]
          t.setPort p { t.port p with wp0 := a, wp1 := b }))

/-- CLIP_PUSH clamps the corners, meets them with the top entry (the full raster at depth 0) and pushes the result; at
depth 8 it is refused CLIP_FULL. CLIP_POP removes the top entry; at depth 0 it is refused CLIP_EMPTY (R41, R42). -/
def Obligations.ClipStackPushesTheMeetAndPops : Prop :=
  (∀ (p : Port) (tag : Byte) (x0 y0 x1 y1 : Half) (s : State), Takes s p (frameClipPush tag x0 y0 x1 y1) →
    let f := frameClipPush tag x0 y0 x1 y1
    let i := Instr.clipPush p tag x0 y0 x1 y1
    let top := match (s.port p).clips with
      | [] => Rect.raster
      | r :: _ => r
    (8 ≤ (s.port p).clips.length → exec i s = .next (s.answered p f .clipFull 0 []))
      ∧ ((s.port p).clips.length < 8 → ∃ e : Rect,
        e = ⟨max (into 0 959 x0.toInt).toNat top.x0, max (into 0 539 y0.toInt).toNat top.y0,
            min (into 0 959 x1.toInt).toNat top.x1, min (into 0 539 y1.toInt).toNat top.y1⟩
          ∧ let o := okIf (0 ≤ x0.toInt ∧ x0.toInt ≤ 959 ∧ 0 ≤ y0.toInt ∧ y0.toInt ≤ 539 ∧ 0 ≤ x1.toInt
              ∧ x1.toInt ≤ 959 ∧ 0 ≤ y1.toInt ∧ y1.toInt ≤ 539)
            let t := s.answered p f o ((s.port p).clips.length + 1)
              (natBytes e.x0 ++ natBytes e.y0 ++ natBytes e.x1 ++ natBytes e.y1)
            exec i s = .next (t.setPort p { t.port p with clips := e :: (s.port p).clips })))
  ∧ ∀ (p : Port) (tag : Byte) (s : State), Takes s p (frameClipPop tag) →
    ((s.port p).clips = [] → exec (.clipPop p tag) s = .next (s.answered p (frameClipPop tag) .clipEmpty 0 []))
      ∧ ∀ r rest, (s.port p).clips = r :: rest →
        exec (.clipPop p tag) s = .next (let t := s.answered p (frameClipPop tag) .ok rest.length []
          t.setPort p { t.port p with clips := rest })

/-! ### Slots (file 03) -/

/-- SLT_CLAIM takes the lowest-numbered FREE slot, SLT_CLAIM_AT the one named; it becomes EMPTY, the issuer's, with the
values of R51, its reference count and pixel memory kept; with none FREE, or another state, TAKEN (R51, R52).

The owner's SLT_RELEASE: IN_USE with the count while references stand, SLOT_BUSY while the capture flag is set, else
the slot is FREE with the values of R47, its pixel memory kept (R53). -/
def Obligations.SlotClaimAndReleaseMoveTheOwner : Prop :=
  (∀ (p : Port) (tag : Byte) (s : State),
    let claimed := fun i : Fin 64 =>
      (⟨.empty, some p, .direct, 0, 0, 0, (s.slot i).refCount, false, false, (s.slot i).pixels⟩ : Slot)
    (Takes s p (frameSltClaim tag) →
      ((∀ i, (s.slot i).state ≠ .free) →
          exec (.sltClaim p tag) s = .next (s.answered p (frameSltClaim tag) .taken 0 []))
        ∧ ∀ i, (s.slot i).state = .free → (∀ j, j < i → (s.slot j).state ≠ .free) →
          exec (.sltClaim p tag) s = .next ((s.answered p (frameSltClaim tag) .ok i.val []).setSlot i (claimed i)))
    ∧ ∀ b, Takes s p (frameSltClaimAt tag b) →
      (64 ≤ b.toNat → exec (.sltClaimAt p tag b) s = .next (s.answered p (frameSltClaimAt tag b) .badArg 0 []))
        ∧ ∀ i : Fin 64, b.toNat = i.val →
          ((s.slot i).state = .free → exec (.sltClaimAt p tag b) s
              = .next ((s.answered p (frameSltClaimAt tag b) .ok i.val []).setSlot i (claimed i)))
            ∧ ((s.slot i).state ≠ .free →
              exec (.sltClaimAt p tag b) s = .next (s.answered p (frameSltClaimAt tag b) .taken 0 [])))
  ∧ (∀ (p : Port) (tag b : Byte) (i : Fin 64) (s : State), Takes s p (frameSltRelease tag b) → b.toNat = i.val →
    (s.slot i).owner = some p →
    let f := frameSltRelease tag b
    ((s.slot i).refCount ≠ 0 →
        exec (.sltRelease p tag b) s = .next (s.answered p f .inUse (s.slot i).refCount []))
      ∧ ((s.slot i).refCount = 0 → (s.slot i).captureFlag = true →
        exec (.sltRelease p tag b) s = .next (s.answered p f .slotBusy 0 []))
      ∧ ((s.slot i).refCount = 0 → (s.slot i).captureFlag = false →
        exec (.sltRelease p tag b) s = .next ((s.answered p f .ok i.val []).setSlot i
          ⟨.free, none, .direct, 0, 0, 0, 0, false, false, (s.slot i).pixels⟩)))

/-- The owner's SLT_OPEN: the checks of R54 in their order, then the format, the dimensions and write position 0, an
EMPTY slot becoming OPEN and a READY one OPENING (R54).

The owner's SLT_CLOSE: READY at once when the image is complete, SHORT with the write position when it is not,
SLOT_STATE in another state than OPEN (R59). -/
def Obligations.SlotOpenAndCloseFrameAnImage : Prop :=
  (∀ (p : Port) (tag b format : Byte) (width height : Half) (i : Fin 64) (s : State),
    Takes s p (frameSltOpen tag b format width height) → b.toNat = i.val → (s.slot i).owner = some p →
    let f := frameSltOpen tag b format width height
    let c := Instr.sltOpen p tag b format width height
    let w := width.toNat
    let h := height.toNat
    ((s.slot i).state ≠ .empty → (s.slot i).state ≠ .ready → exec c s = .next (s.answered p f .slotState 0 []))
      ∧ ((s.slot i).state = .empty ∨ (s.slot i).state = .ready →
        ((s.slot i).captureFlag = true → exec c s = .next (s.answered p f .slotBusy 0 []))
          ∧ ((s.slot i).captureFlag = false →
            (2 ≤ format.toNat ∨ w = 0 ∨ 256 < w ∨ h = 0 ∨ 256 < h → exec c s = .next (s.answered p f .badArg 0 []))
              ∧ (format.toNat < 2 → 1 ≤ w → w ≤ 256 → 1 ≤ h → h ≤ 256 →
                (16384 < w * h → exec c s = .next (s.answered p f .tooLarge 0 []))
                  ∧ (w * h ≤ 16384 → exec c s = .next ((s.answered p f .ok (w * h) []).setSlot i { s.slot i with
                      state := if (s.slot i).state = .ready then .opening else .opened
                      format := if format = 0 then .direct else .indexed
                      width := w, height := h, writePos := 0 }))))))
  ∧ (∀ (p : Port) (tag b : Byte) (i : Fin 64) (s : State), Takes s p (frameSltClose tag b) → b.toNat = i.val →
    (s.slot i).owner = some p → (s.slot i).writePos ≤ (s.slot i).width * (s.slot i).height →
    let f := frameSltClose tag b
    let x := s.slot i
    (x.state = .opened → x.writePos = x.width * x.height → exec (.sltClose p tag b) s
        = .next ((s.answered p f .ok (x.width * x.height) []).setSlot i { x with state := .ready }))
      ∧ (x.state = .opened → x.writePos < x.width * x.height →
        exec (.sltClose p tag b) s = .next (s.answered p f .short x.writePos []))
      ∧ (x.state ≠ .opened → exec (.sltClose p tag b) s = .next (s.answered p f .slotState 0 [])))

/-- The owner's SLT_DATA: OPENING waits and other states than OPEN are refused; in OPEN the payload's whole pixels, a
DIRECT triple clamped into video range or the two codes of each byte, high half first, go to the write positions from
the present one on, as many as the image takes, and nothing else of the memory changes (R56, R57). -/
def Obligations.SlotDataStoresInRasterOrder : Prop :=
  ∀ (p : Port) (tag b : Byte) (data : List Byte) (i : Fin 64) (s : State), Takes s p (frameSltData tag b data) →
    data.length ≤ 252 → b.toNat = i.val → (s.slot i).owner = some p →
    let f := frameSltData tag b data
    let x := s.slot i
    let room := x.width * x.height - x.writePos
    let count := if x.format = .direct then data.length / 3 else 2 * data.length
    let stored := min count room
    let given := fun k : Nat =>
      if x.format = .direct then
        [Pixel.direct ⟨max 16 (min 235 (data.getD (3 * k) 0).toNat), max 16 (min 240 (data.getD (3 * k + 1) 0).toNat),
          max 16 (min 240 (data.getD (3 * k + 2) 0).toNat)⟩]
      else [Pixel.indexed (Fin.ofNat 16 (if k % 2 = 0 then (data.getD (k / 2) 0).toNat / 16
        else (data.getD (k / 2) 0).toNat % 16))]
    (x.state = .opening → exec (.sltData p tag b data) s = .next (s.answered p f .waitFrame 0 []))
      ∧ (x.state ≠ .opening → x.state ≠ .opened →
        exec (.sltData p tag b data) s = .next (s.answered p f .slotState 0 []))
      ∧ (x.state = .opened → x.writePos ≤ x.width * x.height → x.writePos ≤ x.pixels.length →
        ∃ o y, exec (.sltData p tag b data) s
            = .next ((s.answered p f o (x.writePos + stored) (natBytes stored)).setSlot i y)
          ∧ y = { x with writePos := x.writePos + stored, pixels := y.pixels }
          ∧ (∀ k, k < stored → (y.pixels[x.writePos + k]?).toList = given k)
          ∧ (∀ k, k < x.writePos ∨ x.writePos + stored ≤ k → y.pixels[k]? = x.pixels[k]?)
          ∧ (o = .okTruncated ↔ room < count ∨ (x.format = .direct ∧ data.length % 3 ≠ 0))
          ∧ (o = .okClamped ↔ ¬ (room < count ∨ (x.format = .direct ∧ data.length % 3 ≠ 0)) ∧ x.format = .direct
            ∧ ∃ k, k < 3 * stored ∧ ((data.getD k 0).toNat < 16 ∨ (if k % 3 = 0 then 235 else 240) < (data.getD k 0).toNat))
          ∧ (o = .ok ∨ o = .okClamped ∨ o = .okTruncated))

/-- The owner's SLT_FILL in OPEN stores count copies of one pixel, as many as the image takes; an INDEXED code over 15
is refused BAD_ARG (R58). -/
def Obligations.SlotFillStoresOnePixelManyTimes : Prop :=
  ∀ (p : Port) (tag b yy cb cr : Byte) (count : Half) (i : Fin 64) (s : State),
    Takes s p (frameSltFill tag b yy cb cr count) → b.toNat = i.val → (s.slot i).owner = some p →
    let f := frameSltFill tag b yy cb cr count
    let c := Instr.sltFill p tag b yy cb cr count
    let x := s.slot i
    let room := x.width * x.height - x.writePos
    let stored := min count.toNat room
    let colour : Colour := ⟨max 16 (min 235 yy.toNat), max 16 (min 240 cb.toNat), max 16 (min 240 cr.toNat)⟩
    (x.state = .opening → exec c s = .next (s.answered p f .waitFrame 0 []))
      ∧ (x.state ≠ .opening → x.state ≠ .opened → exec c s = .next (s.answered p f .slotState 0 []))
      ∧ (x.state = .opened → x.format = .indexed → 16 ≤ yy.toNat → exec c s = .next (s.answered p f .badArg 0 []))
      ∧ (x.state = .opened → (x.format = .direct ∨ yy.toNat < 16) → x.writePos ≤ x.pixels.length →
        exec c s = .next ((s.answered p f
            (if room < count.toNat then .okTruncated
              else okIf (count = 0 ∨ x.format = .indexed
                ∨ (16 ≤ yy.toNat ∧ yy.toNat ≤ 235 ∧ 16 ≤ cb.toNat ∧ cb.toNat ≤ 240 ∧ 16 ≤ cr.toNat ∧ cr.toNat ≤ 240)))
            (x.writePos + stored) (natBytes stored)).setSlot i
          { x with
            writePos := x.writePos + stored
            pixels := x.pixels.take x.writePos
              ++ List.replicate stored (if x.format = .direct then .direct colour else .indexed (Fin.ofNat 16 yy.toNat))
              ++ x.pixels.drop (x.writePos + stored) }))

/-- SLT_INFO and TMR_READ report a record to any port and change nothing but the answer; a number out of range is
refused BAD_ARG (R69, R153, section 11.9). That the action bit of TMR_READ is 1 for CAPTURE is the model's reading
(log 13, DEDUCED), and that the bits of which the spec does not speak are 0 its choice (log 34, DESIGN CHOICE). -/
def Obligations.InfoAndReadReportARecord : Prop :=
  (∀ (p : Port) (tag b : Byte) (s : State), Takes s p (frameSltInfo tag b) →
    (64 ≤ b.toNat → exec (.sltInfo p tag b) s = .next (s.answered p (frameSltInfo tag b) .badArg 0 []))
      ∧ ∀ i : Fin 64, b.toNat = i.val →
        let x := s.slot i
        exec (.sltInfo p tag b) s = .next (s.answered p (frameSltInfo tag b) .ok x.refCount
          ([natByte ((match x.state with
              | .free => 0
              | .empty => 1
              | .opening => 2
              | .opened => 3
              | .ready => 4
              | .orphan => 5) + (if x.format = .indexed then 8 else 0) + (if x.captureFlag then 16 else 0)
                + (if x.orphanVisible then 32 else 0)), holderByte x.owner]
            ++ natBytes x.width ++ natBytes x.height ++ natBytes x.writePos)))
  ∧ ∀ (p : Port) (tag b : Byte) (s : State), Takes s p (frameTmrRead tag b) →
    (4 ≤ b.toNat → exec (.tmrRead p tag b) s = .next (s.answered p (frameTmrRead tag b) .badArg 0 []))
      ∧ ∀ t : Fin 4, b.toNat = t.val →
        let m := s.timer t
        exec (.tmrRead p tag b) s = .next (s.answered p (frameTmrRead tag b) .ok
          (if m.mode = .measure then m.measured else m.count)
          ([holderByte m.holder, natByte ((if m.running then 1 else 0) + (if m.template.isSome then 2 else 0)
              + (if m.source = .ife then 4 else 0) + (if m.action = .capture then 8 else 0)
              + (match m.mode with
                | .free => 0
                | .oneshot => 16
                | .measure => 32)), natByte m.prescaler, natByte m.prescaleCount, natByte m.templateIndex]
            ++ natBytes (if m.mode = .measure then m.count else 0)))

/-! ### The palette (file 04) -/

/-- PAL_CLAIM and PAL_RELEASE: slices 0 and 1 and numbers over 31 BAD_ARG; a claim of an unowned slice makes the issuer
its owner, and of an owned one is TAKEN; a release by the owner clears the field, and by another port is NOT_OWNER; no
entry changes (R75, R76). -/
def Obligations.SliceClaimAndReleaseMoveTheOwner : Prop :=
  ∀ (p : Port) (tag b : Byte) (s : State),
    (Takes s p (framePalClaim tag b) →
      (b.toNat < 2 ∨ 32 ≤ b.toNat → exec (.palClaim p tag b) s = .next (s.answered p (framePalClaim tag b) .badArg 0 []))
        ∧ ∀ i : Fin 32, b.toNat = i.val → 2 ≤ i.val →
          (s.sliceHolder i = none → exec (.palClaim p tag b) s
              = .next ((s.answered p (framePalClaim tag b) .ok i.val []).setSliceHolder i (some p)))
            ∧ (s.sliceHolder i ≠ none →
              exec (.palClaim p tag b) s = .next (s.answered p (framePalClaim tag b) .taken 0 [])))
    ∧ (Takes s p (framePalRelease tag b) →
      (b.toNat < 2 ∨ 32 ≤ b.toNat →
          exec (.palRelease p tag b) s = .next (s.answered p (framePalRelease tag b) .badArg 0 []))
        ∧ ∀ i : Fin 32, b.toNat = i.val → 2 ≤ i.val →
          (s.sliceHolder i = some p → exec (.palRelease p tag b) s
              = .next ((s.answered p (framePalRelease tag b) .ok i.val []).setSliceHolder i none))
            ∧ (s.sliceHolder i ≠ some p →
              exec (.palRelease p tag b) s = .next (s.answered p (framePalRelease tag b) .notOwner 0 [])))

/-- PAL_SET writes the pending copy of the entry named, and PAL_SETCODE that of the entry its code resolves to through
the issuer's window pointers, all four values clamped; an entry of the common area from any port, another from its
slice's owner alone, else NOT_OWNER with the entry's number; a code over 15 BAD_ARG (R77 to R80, R83). -/
def Obligations.PaletteWritesReachThePendingCopy : Prop :=
  ∀ (p : Port) (tag y cb cr alpha : Byte) (s : State),
    let entry : PaletteEntry := ⟨⟨max 16 (min 235 y.toNat), max 16 (min 240 cb.toNat), max 16 (min 240 cr.toNat)⟩,
      min 16 alpha.toNat⟩
    let bytes := [natByte entry.colour.y, natByte entry.colour.cb, natByte entry.colour.cr, natByte entry.alpha]
    let outcome := okIf (16 ≤ y.toNat ∧ y.toNat ≤ 235 ∧ 16 ≤ cb.toNat ∧ cb.toNat ≤ 240 ∧ 16 ≤ cr.toNat ∧ cr.toNat ≤ 240
      ∧ alpha.toNat ≤ 16)
    let may := fun n : Fin 256 => n.val < 16 ∨ ∃ i : Fin 32, i.val = n.val / 8 ∧ s.sliceHolder i = some p
    (∀ (b : Byte) (n : Fin 256), b.toNat = n.val → Takes s p (framePalSet tag b y cb cr alpha) →
      (may n → exec (.palSet p tag b y cb cr alpha) s
          = .next ((s.answered p (framePalSet tag b y cb cr alpha) outcome n.val bytes).setPalPending n entry))
        ∧ (¬ may n → exec (.palSet p tag b y cb cr alpha) s
          = .next (s.answered p (framePalSet tag b y cb cr alpha) .notOwner n.val [])))
    ∧ ∀ c : Byte, Takes s p (framePalSetcode tag c y cb cr alpha) →
      (16 ≤ c.toNat → exec (.palSetcode p tag c y cb cr alpha) s
          = .next (s.answered p (framePalSetcode tag c y cb cr alpha) .badArg 0 []))
        ∧ ∀ n : Fin 256, c.toNat < 16 →
          n.val = (if c.toNat < 8 then 8 * (s.port p).wp0.val + c.toNat else 8 * (s.port p).wp1.val + (c.toNat - 8)) →
          (may n → exec (.palSetcode p tag c y cb cr alpha) s
              = .next ((s.answered p (framePalSetcode tag c y cb cr alpha) outcome n.val bytes).setPalPending n entry))
            ∧ (¬ may n → exec (.palSetcode p tag c y cb cr alpha) s
              = .next (s.answered p (framePalSetcode tag c y cb cr alpha) .notOwner n.val []))

/-! ### The trailer input (file 06) -/

/-- VIN_CLAIM makes the issuer the holder when there is none, and is TAKEN when there is one; both answers report the
record as it stands after the command, and nothing but the holder changes (R105).

VIN_RELEASE by the holder: the input OFF with counts 0, the receiving frame discarded, capture disabled, the holder
absent, format, settle, ready and shown frames kept, and VIN_CHANGE at every port when the lock state was another (R106,
R107, R114). Every request is aborted: a NO_INPUT report of each at its requester, the active one's first, with CAP_ABORT
there, the flag of each slot they name clear and every slot as it was otherwise, the unit IDLE with no request and an
empty result buffer (R133, R134, R136, R139, R140). That the settle count keeps its value is the model's choice (log 23,
DESIGN CHOICE). -/
def Obligations.InputIsClaimedAndReleased : Prop :=
  (∀ (p : Port) (tag : Byte) (s : State), Takes s p (frameVinClaim tag) →
    let v := s.vin
    let report := fun h : Option Port => [holderByte h, lockByte v.lock] ++ natBytes v.width ++ natBytes v.height
      ++ [natByte v.settle, boolByte v.captureEnabled]
    (v.holder = none → exec (.vinClaim p tag) s
        = .next ((s.answered p (frameVinClaim tag) .ok 0 (report (some p))).setVin { v with holder := some p }))
      ∧ (v.holder ≠ none → exec (.vinClaim p tag) s
        = .next (s.answered p (frameVinClaim tag) .taken 0 (report v.holder))))
  ∧ (∀ (p : Port) (tag : Byte) (s : State), Takes s p (frameVinRelease tag) → s.vin.holder = some p →
    ∃ t, exec (.vinRelease p tag) s = .next t
      ∧ t.vin = { s.vin with
          holder := none, captureEnabled := false, lock := .off, goodCount := 0, badRun := 0, silence := 0
          receiving := none }
      ∧ t.cap.requests = []
      ∧ (CaptureOk s → t.cap = ⟨[], none, .idle, s.cap.settleCount,
          if s.cap.active = none then s.cap.sampled else .none, .empty⟩)
      ∧ (∀ q, t.port q = PortState.told
          { (s.answered p (frameVinRelease tag) .ok 0 []).port q with
            sticky := if s.vin.lock = .off then (s.port q).sticky else (s.port q).sticky ||| 0x080 }
          q s.cap.requests .noInput)
      ∧ (∀ i, t.slot i = (s.slot i).unnamed i s.cap.requests)
      ∧ t = { s with vin := t.vin, cap := t.cap, slots := t.slots, ports := t.ports })

/-- VIN_FORMAT by the holder: each operand brought into range, an odd width lowered by one; in OFF the format is
recorded alone, and in any other state acquisition starts again, a frame in reception being one that began under the
earlier format, with VIN_CHANGE when the state was not ACQUIRING; ready and shown frames are kept (R108, R114). Out of
LOCKED it aborts a request in SETTLE or SAMPLE: NO_INPUT to its requester, its slot's flag clear, the unit in RECOVER
with its queue kept (R135, R134); in every other phase, and out of LOST, capture goes on. That the settle count keeps its
value after the abort is the model's choice (log 23, DESIGN CHOICE). -/
def Obligations.InputFormatRestartsAcquisition : Prop :=
  ∀ (p : Port) (tag : Byte) (w h : Half) (settle : Byte) (s : State), Takes s p (frameVinFormat tag w h settle) →
    s.vin.holder = some p →
    let w1 := max 64 (min 960 w.toNat)
    let v : TrailerInput := { s.vin with
      width := w1 - w1 % 2, height := max 32 (min 540 h.toNat), settle := min 3 settle.toNat }
    let o := okIf (64 ≤ w.toNat ∧ w.toNat ≤ 960 ∧ w.toNat % 2 = 0 ∧ 32 ≤ h.toNat ∧ h.toNat ≤ 540 ∧ settle.toNat ≤ 3)
    let cut := s.vin.lock = .locked ∧ (s.cap.phase = .settle ∨ s.cap.phase = .sample)
    ∃ t x, exec (.vinFormat p tag w h settle) s = .next t
      ∧ (s.vin.lock = .off → t.vin = v)
      ∧ (s.vin.lock ≠ .off → t.vin = { v with
          lock := .acquiring, goodCount := 0, badRun := 0
          receiving := v.receiving.map fun r => { r with stale := true } })
      ∧ (s.vin.lock ≠ .off → s.vin.lock ≠ .acquiring → ∀ q, (t.port q).hasFlag .vinChange = true)
      ∧ (s.vin.lock = .off ∨ s.vin.lock = .acquiring →
        t = { s.answered p (frameVinFormat tag w h settle) o 0 x with vin := t.vin })
      ∧ (t.port p).queue = (s.port p).queue.tail ∧ (t.port p).ring = (s.port p).ring ++ [⟨tag, 0x52, o, 0, x⟩]
      ∧ (¬ cut → t.cap = s.cap ∧ t.slots = s.slots ∧ ∀ q, (t.port q).reports = (s.port q).reports)
      ∧ (cut → ∀ a, s.cap.active = some a → t.cap = ⟨s.cap.queue, none, .recover, s.cap.settleCount, .none, .empty⟩
        ∧ t.slot a.slot = { s.slot a.slot with captureFlag := false } ∧ (∀ j, j ≠ a.slot → t.slot j = s.slot j)
        ∧ (t.port a.requester).reports = (s.port a.requester).reports ++ [⟨a.tag, a.slot, .noInput, a.origin⟩]
        ∧ (t.port a.requester).hasFlag .capAbort = true
        ∧ ∀ q, q ≠ a.requester → (t.port q).reports = (s.port q).reports)
      ∧ x = [holderByte t.vin.holder, lockByte t.vin.lock] ++ natBytes t.vin.width ++ natBytes t.vin.height
          ++ [natByte t.vin.settle, boolByte t.vin.captureEnabled]
      ∧ t = { s with vin := t.vin, cap := t.cap, slots := t.slots, ports := t.ports }

/-- VIN_ENABLE by the holder: on in OFF begins acquisition with counts 0 and VIN_CHANGE everywhere; on in another state
and off in OFF change nothing but the answer; off in another state switches reception off with VIN_CHANGE everywhere,
keeping capture enabled and the ready and shown frames; another operand is refused BAD_ARG (R109, R114).

Switched off, it aborts every request: a NO_INPUT report of each at its requester, the active one's first, with CAP_ABORT
there, the flag of each slot they name clear and every slot as it was otherwise, the unit IDLE with no request and an
empty result buffer (R133, R134, R136, R139, R140). That the settle count keeps its value is the model's choice (log 23,
DESIGN CHOICE). -/
def Obligations.InputEnableSwitchesReception : Prop :=
  ∀ (p : Port) (tag on : Byte) (s : State), Takes s p (frameVinEnable tag on) → s.vin.holder = some p →
    let f := frameVinEnable tag on
    let report := fun v : TrailerInput => [holderByte v.holder, lockByte v.lock] ++ natBytes v.width
      ++ natBytes v.height ++ [natByte v.settle, boolByte v.captureEnabled]
    (2 ≤ on.toNat → exec (.vinEnable p tag on) s = .next (s.answered p f .badArg 0 []))
      ∧ (on = 1 → s.vin.lock = .off → ∃ t, exec (.vinEnable p tag on) s = .next t
        ∧ t.vin = { s.vin with lock := .acquiring, goodCount := 0, badRun := 0, silence := 0 }
        ∧ (∀ q, t.port q = { (s.answered p f .ok 1 (report t.vin)).port q with
            sticky := (s.port q).sticky ||| 0x080 })
        ∧ t = { s with vin := t.vin, ports := t.ports })
      ∧ (on = 1 → s.vin.lock ≠ .off → exec (.vinEnable p tag on) s
        = .next (s.answered p f .ok (lockByte s.vin.lock).toNat (report s.vin)))
      ∧ (on = 0 → s.vin.lock = .off → exec (.vinEnable p tag on) s = .next (s.answered p f .ok 0 (report s.vin)))
      ∧ (on = 0 → s.vin.lock ≠ .off → ∃ t, exec (.vinEnable p tag on) s = .next t
        ∧ t.vin = { s.vin with lock := .off, goodCount := 0, badRun := 0, silence := 0, receiving := none }
        ∧ t.cap.requests = []
        ∧ (CaptureOk s → t.cap = ⟨[], none, .idle, s.cap.settleCount,
            if s.cap.active = none then s.cap.sampled else .none, .empty⟩)
        ∧ (∀ q, t.port q = PortState.told
            { (s.answered p f .ok 0 (report t.vin)).port q with sticky := (s.port q).sticky ||| 0x080 }
            q s.cap.requests .noInput)
        ∧ (∀ i, t.slot i = (s.slot i).unnamed i s.cap.requests)
        ∧ t = { s with vin := t.vin, cap := t.cap, slots := t.slots, ports := t.ports })

/-! ### Thumbnail capture (file 07) -/

/-- CAP_ENABLE by the holder sets the field, and another operand is refused BAD_ARG (R122). Switching it off where it was
on aborts every request: a NO_INPUT report of each at its requester, the active one's first, with CAP_ABORT there, the
flag of each slot they name clear and every slot as it was otherwise, no request left; where one was served, the unit is
in RECOVER, or IDLE in OFF, with an empty result buffer, and where none was, its phase stands (R134, R136, R139, R140).

CAP_CANCEL: a number over 63 and a slot that no request names BAD_ARG, another port's request NOT_OWNER; the
requester's own leaves its place, its slot's flag clears, a CANCELLED report joins its list and CAP_ABORT is raised; an
active one leaves the unit in RECOVER, or IDLE in OFF (R137, R134). That the settle count keeps its value is the model's
choice (log 23, DESIGN CHOICE). -/
def Obligations.CaptureIsEnabledAndCancelled : Prop :=
  (∀ (p : Port) (tag on : Byte) (s : State), Takes s p (frameCapEnable tag on) → s.vin.holder = some p →
    let f := frameCapEnable tag on
    let report := fun v : TrailerInput => [holderByte v.holder, lockByte v.lock] ++ natBytes v.width
      ++ natBytes v.height ++ [natByte v.settle, boolByte v.captureEnabled]
    (2 ≤ on.toNat → exec (.capEnable p tag on) s = .next (s.answered p f .badArg 0 []))
      ∧ (on = 1 → exec (.capEnable p tag on) s = .next ((s.answered p f .ok 1
          (report { s.vin with captureEnabled := true })).setVin { s.vin with captureEnabled := true }))
      ∧ (on = 0 → s.vin.captureEnabled = false →
        exec (.capEnable p tag on) s = .next (s.answered p f .ok 0 (report s.vin)))
      ∧ (on = 0 → s.vin.captureEnabled = true → ∃ t, exec (.capEnable p tag on) s = .next t
        ∧ t.vin = { s.vin with captureEnabled := false }
        ∧ (s.cap.active = none → t.cap = { s.cap with queue := [] })
        ∧ (s.cap.active ≠ none → t.cap = ⟨[], none, if s.vin.lock = .off then .idle else .recover,
            s.cap.settleCount, .none, .empty⟩)
        ∧ (∀ q, t.port q
          = PortState.told ((s.answered p f .ok 0 (report t.vin)).port q) q s.cap.requests .noInput)
        ∧ (∀ i, t.slot i = (s.slot i).unnamed i s.cap.requests)
        ∧ t = { s with vin := t.vin, cap := t.cap, slots := t.slots, ports := t.ports }))
  ∧ (∀ (p : Port) (tag slot : Byte) (s : State), Takes s p (frameCapCancel tag slot) →
    let f := frameCapCancel tag slot
    (64 ≤ slot.toNat → exec (.capCancel p tag slot) s = .next (s.answered p f .badArg 0 []))
      ∧ ∀ i : Fin 64, slot.toNat = i.val →
        ((∀ r ∈ s.cap.requests, r.slot ≠ i) →
            exec (.capCancel p tag slot) s = .next (s.answered p f .badArg 0 []))
          ∧ ∀ r ∈ s.cap.requests, r.slot = i → CaptureOk s →
            (r.requester ≠ p → exec (.capCancel p tag slot) s = .next (s.answered p f .notOwner 0 []))
              ∧ (r.requester = p → ∃ t, exec (.capCancel p tag slot) s = .next t
                ∧ t.cap.requests = s.cap.requests.filter (fun q => q ≠ r)
                ∧ (s.cap.active = some r → t.cap = ⟨s.cap.queue, none, if s.vin.lock = .off then .idle else .recover,
                    s.cap.settleCount, .none, .empty⟩)
                ∧ t.slot i = { s.slot i with captureFlag := false } ∧ (∀ j, j ≠ i → t.slot j = s.slot j)
                ∧ t.port p = { s.port p with
                    queue := (s.port p).queue.tail, ring := (s.port p).ring ++ [⟨tag, 0x56, .ok, i.val, []⟩]
                    reports := (s.port p).reports ++ [⟨r.tag, i, .cancelled, r.origin⟩]
                    sticky := (s.port p).sticky ||| 0x008 }
                ∧ (∀ q, q ≠ p → t.port q = s.port q) ∧ t = { s with cap := t.cap, slots := t.slots, ports := t.ports }))

/-- CAP_REQUEST by the slot's owner: the checks 3 to 10 of R123 in their order; when all hold the request joins the tail
of the queue with the command's tag and origin COMMAND, the slot's flag is set, and, unless the unit is IDLE in LOCKED,
where the head becomes active at once (R129), nothing else changes (R123, R124, R125). -/
def Obligations.CaptureRequestChecksThenJoins : Prop :=
  ∀ (p : Port) (tag slot : Byte) (x y w h : Half) (dx dy : Byte) (i : Fin 64) (s : State),
    Takes s p (frameCapRequest tag slot x y w h dx dy) → slot.toNat = i.val → (s.slot i).owner = some p →
    let f := frameCapRequest tag slot x y w h dx dy
    let c := Instr.capRequest p tag slot x y w h dx dy
    let ow := w.toNat / dx.toNat
    let oh := h.toNat / dy.toNat
    let fault : Option OutcomeCode :=
      if (s.slot i).state ≠ .empty ∧ (s.slot i).state ≠ .ready then some .slotState
      else if (s.slot i).captureFlag = true then some .slotBusy
      else if s.vin.lock = .off ∨ s.vin.captureEnabled = false then some .noInput
      else if dx.toNat < 1 ∨ 8 < dx.toNat ∨ dy.toNat < 1 ∨ 8 < dy.toNat ∨ w.toNat < 1 ∨ h.toNat < 1
        ∨ s.vin.width < x.toNat + w.toNat ∨ s.vin.height < y.toNat + h.toNat then some .badArg
      else if ow < 1 ∨ oh < 1 then some .badArg
      else if 256 < ow ∨ 256 < oh ∨ 16384 < ow * oh then some .tooLarge
      else if 4 ≤ s.cap.queue.length then some .capFull
      else if 5 ≤ s.outstanding p then some .capFull
      else none
    let r : CaptureRequest := ⟨p, tag, i, ⟨x.toNat, y.toNat, w.toNat, h.toNat, dx.toNat, dy.toNat⟩, .command⟩
    (∀ o, fault = some o → exec c s = .next (s.answered p f o 0 []))
      ∧ (fault = none →
        ((s.cap.phase ≠ .idle ∨ s.vin.lock ≠ .locked) → exec c s = .next (((s.answered p f .ok (ow * oh)
            (natBytes ow ++ natBytes oh ++ [natByte (s.outstanding p + 1)])).setCap
              { s.cap with queue := s.cap.queue ++ [r] }).setSlot i { s.slot i with captureFlag := true }))
          ∧ (s.cap.phase = .idle → s.vin.lock = .locked → s.cap.queue = [] → s.cap.active = none → exec c s
            = .next (((s.answered p f .ok (ow * oh)
              (natBytes ow ++ natBytes oh ++ [natByte (s.outstanding p + 1)])).setCap
                (if s.vin.settle = 0 then { s.cap with
                    queue := [], active := some r, settleCount := 0, phase := .sample, sampled := .awaited
                    result := .forming ow oh }
                  else { s.cap with queue := [], active := some r, settleCount := 0, phase := .settle })).setSlot i
                { s.slot i with captureFlag := true })))

/-! ### Frame timers (file 08) -/

/-- TMR_CLAIM gives a timer without a holder to the issuer and changes nothing else of it; TMR_RELEASE by the holder
returns every field to R142 (R143, R144).

TMR_START by the holder: a running timer answers its count; a CAPTURE timer without a template, but in MEASURE, is
refused BAD_ARG; else it runs, with count and measured interval 0 in MEASURE. TMR_STOP stops it with the count at the
reload value and the prescale count 0 (R147). -/
def Obligations.TimersAreClaimedAndRun : Prop :=
  (∀ (p : Port) (tag b : Byte) (s : State),
    (Takes s p (frameTmrClaim tag b) →
      (4 ≤ b.toNat → exec (.tmrClaim p tag b) s = .next (s.answered p (frameTmrClaim tag b) .badArg 0 []))
        ∧ ∀ t : Fin 4, b.toNat = t.val →
          ((s.timer t).holder = none → exec (.tmrClaim p tag b) s
              = .next ((s.answered p (frameTmrClaim tag b) .ok t.val []).setTimer t { s.timer t with holder := some p }))
            ∧ ((s.timer t).holder ≠ none →
              exec (.tmrClaim p tag b) s = .next (s.answered p (frameTmrClaim tag b) .taken 0 [])))
    ∧ (Takes s p (frameTmrRelease tag b) → ∀ t : Fin 4, b.toNat = t.val → (s.timer t).holder = some p →
      exec (.tmrRelease p tag b) s = .next ((s.answered p (frameTmrRelease tag b) .ok t.val []).setTimer t
        ⟨none, false, .ofs, 1, 0, 65535, 65535, .free, .event, none, 0, 0⟩)))
  ∧ (∀ (p : Port) (tag b : Byte) (t : Fin 4) (s : State), b.toNat = t.val → (s.timer t).holder = some p →
    let m := s.timer t
    (Takes s p (frameTmrStart tag b) →
      (m.running = true → exec (.tmrStart p tag b) s = .next (s.answered p (frameTmrStart tag b) .ok m.count []))
        ∧ (m.running = false → m.action = .capture → m.mode ≠ .measure → m.template = none →
          exec (.tmrStart p tag b) s = .next (s.answered p (frameTmrStart tag b) .badArg 0 []))
        ∧ (m.running = false → m.mode = .measure → exec (.tmrStart p tag b) s
          = .next ((s.answered p (frameTmrStart tag b) .ok 0 []).setTimer t
            { m with running := true, count := 0, measured := 0 }))
        ∧ (m.running = false → m.mode ≠ .measure → (m.action = .event ∨ m.template ≠ none) →
          exec (.tmrStart p tag b) s
            = .next ((s.answered p (frameTmrStart tag b) .ok m.count []).setTimer t { m with running := true })))
    ∧ (Takes s p (frameTmrStop tag b) → exec (.tmrStop p tag b) s
        = .next ((s.answered p (frameTmrStop tag b) .ok m.reload []).setTimer t
          { m with running := false, count := m.reload, prescaleCount := 0 })))

/-- TMR_SETUP and TMR_TEMPLATE by the holder: WAIT_FRAME while the timer runs; unacceptable operands BAD_ARG, or
TOO_LARGE for a thumbnail that no slot holds; else the configuration is taken, the count becoming the reload value, and
the template with index 0 (R145, R146). That the action is coded 00h EVENT and 01h CAPTURE is the model's reading
(log 13, DEDUCED). -/
def Obligations.TimerSetupConfiguresAStoppedTimer : Prop :=
  (∀ (p : Port) (tag b source prescaler : Byte) (reload : Half) (mode action : Byte) (t : Fin 4) (s : State),
    Takes s p (frameTmrSetup tag b source prescaler reload mode action) → b.toNat = t.val →
    (s.timer t).holder = some p →
    let f := frameTmrSetup tag b source prescaler reload mode action
    let c := Instr.tmrSetup p tag b source prescaler reload mode action
    let good := source.toNat < 2 ∧ (prescaler = 1 ∨ prescaler = 2 ∨ prescaler = 4 ∨ prescaler = 8) ∧ reload ≠ 0
      ∧ mode.toNat < 3 ∧ action.toNat < 2
    ((s.timer t).running = true → exec c s = .next (s.answered p f .waitFrame 0 []))
      ∧ ((s.timer t).running = false → ¬ good → exec c s = .next (s.answered p f .badArg 0 []))
      ∧ ((s.timer t).running = false → good → exec c s = .next ((s.answered p f .ok reload.toNat []).setTimer t
          { s.timer t with
            source := if source = 0 then .ofs else .ife
            prescaler := prescaler.toNat, reload := reload.toNat
            mode := if mode = 0 then .free else if mode = 1 then .oneshot else .measure
            action := if action = 0 then .event else .capture
            count := reload.toNat, prescaleCount := 0, measured := 0 })))
  ∧ ∀ (p : Port) (tag b : Byte) (x y w h : Half) (dx dy first count : Byte) (t : Fin 4) (s : State),
    Takes s p (frameTmrTemplate tag b x y w h dx dy first count) → b.toNat = t.val → (s.timer t).holder = some p →
    let f := frameTmrTemplate tag b x y w h dx dy first count
    let c := Instr.tmrTemplate p tag b x y w h dx dy first count
    let ow := w.toNat / dx.toNat
    let oh := h.toNat / dy.toNat
    let fault : Option OutcomeCode :=
      if (s.timer t).running = true then some .waitFrame
      else if dx.toNat < 1 ∨ 8 < dx.toNat ∨ dy.toNat < 1 ∨ 8 < dy.toNat ∨ w.toNat < 1 ∨ h.toNat < 1
        ∨ s.vin.width < x.toNat + w.toNat ∨ s.vin.height < y.toNat + h.toNat then some .badArg
      else if ow < 1 ∨ oh < 1 then some .badArg
      else if 256 < ow ∨ 256 < oh ∨ 16384 < ow * oh then some .tooLarge
      else if 63 < first.toNat ∨ count.toNat < 1 ∨ 16 < count.toNat ∨ 64 < first.toNat + count.toNat then some .badArg
      else none
    (∀ o, fault = some o → exec c s = .next (s.answered p f o 0 []))
      ∧ (fault = none → exec c s = .next ((s.answered p f .ok (ow * oh) []).setTimer t { s.timer t with
          template := some ⟨⟨x.toNat, y.toNat, w.toNat, h.toNat, dx.toNat, dy.toNat⟩, first.toNat, count.toNat⟩
          templateIndex := 0 }))

/-! ### Layer freshness (file 09) -/

/-- FRS_SETUP by the owner: LOCKED, then WAIT_FRAME while running, then the operands' checks, BAD_ARG; else the monitor
takes them with its count at the new period, and the references of R156 move: the slot newly named gains one unless the
monitor held one in it, the slot named before loses one unless the view took it (R155, R156). -/
def Obligations.MonitorSetupMovesTheFallback : Prop :=
  ∀ (p : Port) (tag l : Byte) (period : Half) (window action fallback : Byte) (n : Fin 8) (s : State),
    Takes s p (frameFrsSetup tag l period window action fallback) → l.toNat = n.val → (s.layer n).owner = some p →
    (s.layer n).binding ≠ .releasing →
    let f := frameFrsSetup tag l period window action fallback
    let c := Instr.frsSetup p tag l period window action fallback
    let m := s.monitor n
    let good := fun fb : Option (Fin 64) => 1 ≤ period.toNat ∧ period.toNat ≤ 4095 ∧ 1 ≤ window.toNat
      ∧ window.toNat ≤ 4 ∧ action.toNat < 3
      ∧ ((fb = none ∧ fallback = 0xFF ∧ action ≠ 2)
        ∨ ∃ j : Fin 64, fb = some j ∧ fallback.toNat = j.val ∧ (s.slot j).state ≠ .free)
    (m.locked = true → exec c s = .next (s.answered p f .locked 0 []))
      ∧ (m.locked = false → m.running = true → exec c s = .next (s.answered p f .waitFrame 0 []))
      ∧ (m.locked = false → m.running = false → (∀ fb, ¬ good fb) → exec c s = .next (s.answered p f .badArg 0 []))
      ∧ ∀ fb, m.locked = false → m.running = false → good fb → ∃ t, exec c s = .next t
        ∧ t = { s.answered p f .ok (max 1 (window.toNat * period.toNat / 4)) [] with
            monitors := t.monitors, slots := t.slots }
        ∧ t.monitor n = { m with
            period := period.toNat, window := window.toNat
            action := if action = 0 then .hold else if action = 1 then .hide else .fallback
            fallback := fb, remaining := period.toNat }
        ∧ (∀ k, k ≠ n → t.monitor k = s.monitor k)
        ∧ ∀ j : Fin 64, t.slot j =
          if fb = some j ∧ m.fallback ≠ some j ∧ s.viewFallback n ≠ some j then
            { s.slot j with refCount := (s.slot j).refCount + 1 }
          else if m.fallback = some j ∧ fb ≠ some j ∧ s.viewFallback n ≠ some j then slotLessRef (s.slot j)
          else s.slot j

/-- FRS_START reloads and runs a stopped monitor and leaves a running one as it is; FRS_STOP stops an unlocked monitor
with its count at the period, and a locked one refuses it LOCKED (R157).

FRS_LOCK, from any port: BAD_ARG over 7, NO_EDIT on a stopped unlocked monitor, LOCKED when a locking port stands,
else the monitor is locked with the issuer as locking port and nothing else of it changes (R164). -/
def Obligations.MonitorsAreRunAndLocked : Prop :=
  (∀ (p : Port) (tag l : Byte) (n : Fin 8) (s : State), l.toNat = n.val → (s.layer n).owner = some p →
    (s.layer n).binding ≠ .releasing →
    let m := s.monitor n
    (Takes s p (frameFrsStart tag l) →
      (m.running = true → exec (.frsStart p tag l) s = .next (s.answered p (frameFrsStart tag l) .ok m.remaining []))
        ∧ (m.running = false → exec (.frsStart p tag l) s
          = .next ((s.answered p (frameFrsStart tag l) .ok m.period []).setMonitor n
            { m with running := true, remaining := m.period })))
    ∧ (Takes s p (frameFrsStop tag l) →
      (m.locked = true → exec (.frsStop p tag l) s = .next (s.answered p (frameFrsStop tag l) .locked 0 []))
        ∧ (m.locked = false → exec (.frsStop p tag l) s
          = .next ((s.answered p (frameFrsStop tag l) .ok m.period []).setMonitor n
            { m with running := false, remaining := m.period }))))
  ∧ (∀ (p : Port) (tag l : Byte) (s : State), Takes s p (frameFrsLock tag l) →
    let f := frameFrsLock tag l
    (8 ≤ l.toNat → exec (.frsLock p tag l) s = .next (s.answered p f .badArg 0 []))
      ∧ ∀ n : Fin 8, l.toNat = n.val →
        let m := s.monitor n
        (m.locked = false → m.running = false → exec (.frsLock p tag l) s = .next (s.answered p f .noEdit 0 []))
          ∧ (m.locked = true → m.lockingPort ≠ none → exec (.frsLock p tag l) s = .next (s.answered p f .locked 0 []))
          ∧ ((m.locked = false ∧ m.running = true) ∨ (m.locked = true ∧ m.lockingPort = none) →
            exec (.frsLock p tag l) s = .next ((s.answered p f .ok m.remaining [portByte p]).setMonitor n
              { m with locked := true, lockingPort := some p })))

/-- FRS_TOUCH on a running monitor with r at most T = max(1, floor(q × P / 4)) reloads the count; with r over T it is an
expiry at once: the action on the expired condition, a waiting commit's clears-expiry flag cleared by HIDE and FALLBACK,
EXPIRED at the owner and at the locking port, the count reloaded (R159, R160). On a stopped one it is refused NO_EDIT. -/
def Obligations.TouchReloadsOrExpires : Prop :=
  ∀ (p : Port) (tag l : Byte) (n : Fin 8) (s : State), Takes s p (frameFrsTouch tag l) → l.toNat = n.val →
    (s.layer n).owner = some p → (s.layer n).binding = .bound →
    let f := frameFrsTouch tag l
    let m := s.monitor n
    let x := s.layer n
    let threshold := max 1 (m.window * m.period / 4)
    (m.running = false → exec (.frsTouch p tag l) s = .next (s.answered p f .noEdit 0 []))
      ∧ (m.running = true → m.remaining ≤ threshold → exec (.frsTouch p tag l) s
        = .next ((s.answered p f .ok m.remaining [0x00]).setMonitor n { m with remaining := m.period }))
      ∧ (m.running = true → threshold < m.remaining → ∃ t, exec (.frsTouch p tag l) s = .next t
        ∧ t.monitor n = { m with remaining := m.period }
        ∧ t.layer n = { x with
            expired := match m.action with
              | .hold => x.expired
              | .hide => .hidden
              | .fallback => .fallback
            staged := if m.action = .hold then x.staged
              else x.staged.map fun r => { r with clearsExpiry := r.clearsExpiry && !r.committed } }
        ∧ (∀ q, t.port q = { (s.answered p f .ok m.remaining [0x01]).port q with
            sticky := if q = p ∨ m.lockingPort = some q then (s.port q).sticky ||| 0x040 else (s.port q).sticky })
        ∧ (∀ k, k ≠ n → t.layer k = s.layer k ∧ t.monitor k = s.monitor k)
        ∧ t = { s with layers := t.layers, monitors := t.monitors, ports := t.ports })

/-! ### Repeat blocks (file 10) -/

/-- RPT_LOOP, RPT_BLOCK and RPT_AGAIN taken outside a block: 0 takes the loop count and spends it, a count over 64 is
64, and the refusals are those of R167, R168 and R172, that of RPT_LOOP answering the loop count as it stands (R167); a
block begins CAPTURING with an empty cache, a replay begins with its passes and no record. Where the starter is kept
meanwhile is the model's choice (log 17, DESIGN CHOICE). -/
def Obligations.RepeatCommandsBeginABlock : Prop :=
  ∀ (p : Port) (tag n k : Byte) (s : State),
    let r := (s.port p).rpt
    let passes := if k = 0 then r.loopCount else min 64 k.toNat
    let spent := if k = 0 then 0 else r.loopCount
    (Takes s p (frameRptLoop tag k) →
      (k = 0 → exec (.rptLoop p tag k) s = .next (s.answered p (frameRptLoop tag k) .badArg r.loopCount []))
        ∧ (k ≠ 0 → exec (.rptLoop p tag k) s
          = .next ((s.answered p (frameRptLoop tag k) (okIf (k.toNat ≤ 64)) (min 64 k.toNat) []).setRepeat p
            { r with loopCount := min 64 k.toNat })))
    ∧ (Takes s p (frameRptBlock tag n k) →
      (n = 0 ∨ 8 < n.toNat ∨ passes = 0 →
          exec (.rptBlock p tag n k) s = .next (s.answered p (frameRptBlock tag n k) .badArg 0 []))
        ∧ (n ≠ 0 → n.toNat ≤ 8 → passes ≠ 0 → exec (.rptBlock p tag n k) s
          = .next ((s.answered p (frameRptBlock tag n k) (okIf (k.toNat ≤ 64)) passes []).setRepeat p
            { r with
              cache := [], loopCount := spent, state := .capturing, commandsLeft := n.toNat, passCount := passes
              starter := some (tag, 0x78) })))
    ∧ (Takes s p (frameRptAgain tag k) →
      (r.cache = [] → exec (.rptAgain p tag k) s = .next (s.answered p (frameRptAgain tag k) .noBlock 0 []))
        ∧ (r.cache ≠ [] → passes = 0 →
          exec (.rptAgain p tag k) s = .next (s.answered p (frameRptAgain tag k) .badArg 0 []))
        ∧ (r.cache ≠ [] → passes ≠ 0 → exec (.rptAgain p tag k) s = .next ((s.dropHead p).setRepeat p
            { r with
              loopCount := spent, state := .replaying, passesLeft := passes, passesCompleted := 0
              starter := some (tag, 0x79), place := 0, summary := none })))

/-! ### Links (file 11) -/

/-- CMD: a length byte of at least 2 followed by exactly that many bytes, and a queue that was not full when select was
asserted, put the frame at the tail of the queue; any other CMD is dropped with LINK_ERR. Nothing else changes but the
link (R175, R176). With no SELECT_ASSERTED before it, the row is the whole transaction (log 9).

SELECT_ASSERTED on an idle link fixes the status byte and the queue-full indication, and with a kind byte the reply;
while RESET is asserted it is ignored. An INVALID_TRANSACTION of at least one byte raises LINK_ERR and changes nothing
else but the link, and one of no byte raises nothing (R174, R182, R184). That the kind byte's moment comes with
SELECT_ASSERTED is the model's reading (log 10).

While RESET is asserted, and on a link whose select is being ignored, a transaction of any kind has no effect but that
its release brings the link back to idle, and the ignored select stays so until then (R184). That an abandoned
transaction is such a select is the model's reading (log 21, DEDUCED). -/
def Obligations.TransactionsBeginAndCarryCommands : Prop :=
  (∀ (p : Port) (len : Byte) (payload : List Byte) (s : State), s.resetPin = false → (s.port p).link ≠ .ignored →
    let q := s.port p
    let full := (match q.link with
      | .selected _ b _ => b
      | .idle | .ignored => decide (16 ≤ q.queue.length))
    ∃ out,
      ((len.toNat < 2 ∨ payload.length ≠ len.toNat ∨ full = true) → exec (.cmd p len payload) s
          = .next (s.setPort p { q with link := .idle, sdo := out, sticky := q.sticky ||| 0x100 }))
        ∧ ∀ tag code operands, payload = tag :: code :: operands → payload.length = len.toNat → full = false →
          exec (.cmd p len payload) s = .next (s.setPort p { q with
            link := .idle, sdo := out, queue := q.queue ++ [⟨tag, code, operands⟩] }))
  ∧ ((∀ (p : Port) (kind : Option Byte) (s : State), (s.port p).link = .idle →
    (s.resetPin = true → exec (.selectAsserted p kind) s = .next (s.setPort p { s.port p with link := .ignored }))
      ∧ (s.resetPin = false → exec (.selectAsserted p kind) s = .next (s.setPort p { s.port p with
          link := .selected (statusByte (s.port p)) (decide (16 ≤ (s.port p).queue.length))
            (kind.map fun k => (k, replyFor (s.port p) k)) })))
  ∧ (∀ (i : Instr) (p : Port) (s : State), transactionPort i = some p →
    (s.resetPin = true ∨ (s.port p).link = .ignored) → exec i s = .next (s.setPort p { s.port p with link := .idle }))
  ∧ (∀ (p : Port) (kind : Option Byte) (s : State), (s.port p).link = .ignored → exec (.selectAsserted p kind) s = .next s)
  ∧ ∀ (p : Port) (bytes : List Byte) (s : State), s.resetPin = false → (s.port p).link ≠ .ignored →
    ∃ out, (bytes = [] → exec (.invalidTransaction p bytes) s
        = .next (s.setPort p { s.port p with link := .idle, sdo := [] }))
      ∧ (bytes ≠ [] → (Instr.invalidTransaction p bytes).wellFormed = true → exec (.invalidTransaction p bytes) s
        = .next (s.setPort p { s.port p with link := .idle, sdo := out, sticky := (s.port p).sticky ||| 0x100 })))

/-- The links' reads, on a link that is idle or has been selected. RES and CAPREP shift out the status byte and the oldest
record or report, and remove it at release; on an empty list they shift out 00h and remove nothing. EVT and STAT of their
byte times shift out the event word and mask, and the counts and states, and change nothing else; ACK clears the sticky
flags it names and MASK replaces the mask, bits 9 to 15 being ignored (R174, R178 to R182).

On a link already selected the status byte is the one fixed when select was asserted, and the reply the one fixed when
the kind byte had been received; what that reply returned is removed at release (R174, R178, R179). RESULT follows the
ring whatever is acknowledged, and ATTN is asserted exactly while a flag is set and not masked (R180, R181).

That a row on an idle link is the whole transaction, that a second SELECT_ASSERTED carries the kind byte's moment, and
that sdo records what was shifted out are the model's choices (log 9, log 10 and log 11, DESIGN CHOICE). -/
def Obligations.PortReadsShiftOutAndAcknowledge : Prop :=
  ∀ (p : Port) (st : Byte) (full : Bool) (n : Nat) (w : Half) (s : State), s.resetPin = false →
    let q := s.port p
    let word : BitVec 9 := (q.sticky &&& 0x1FE) ||| (if q.ring = [] then 0 else 1)
    let bytes := fun v : BitVec 9 => [(v.setWidth 16).extractLsb' 8 8, (v.setWidth 16).extractLsb' 0 8]
    let record : List Byte := match q.ring with
      | [] => List.replicate 15 0
      | r :: _ => 0x01 :: r.tag :: r.code :: outcomeByte r.outcome :: (natBytes r.value
        ++ natByte r.extra.length :: (r.extra ++ List.replicate (8 - r.extra.length) 0))
    let report : List Byte := match q.reports with
      | [] => List.replicate 5 0
      | r :: _ => [0x01, r.tag, natByte r.slot.val, outcomeByte r.outcome, originByte r.origin]
    let flags := bytes word ++ bytes q.mask
    let counts := [natByte q.queue.length, natByte q.ring.length, natByte q.reports.length,
      natByte (executorCode (executorState q)), repeatByte q.rpt.state]
    let released := fun (x : PortState) (out : List Byte) => s.setPort p { x with link := .idle, sdo := out }
    let acknowledged := { q with sticky := q.sticky &&& ~~~(w.setWidth 9) }
    (q.link = .idle ∧ st = statusByte q ∨ q.link = .selected st full none →
        ((∀ r, q.ring.head? = some r → r.extra.length ≤ 8) →
          exec (.res p) s = .next (released { q with ring := q.ring.tail } (st :: record)))
        ∧ exec (.caprep p) s = .next (released { q with reports := q.reports.tail } (st :: report))
        ∧ (1 ≤ n → n ≤ 5 → exec (.evt p n) s = .next (released q ((st :: flags).take n)))
        ∧ (1 ≤ n → n ≤ 6 → exec (.stat p n) s = .next (released q ((st :: counts).take n)))
        ∧ exec (.ack p w) s = .next (released acknowledged [st, 0, 0])
        ∧ exec (.mask p w) s = .next (released { q with mask := w.setWidth 9 } [st, 0, 0]))
      ∧ (q.link = .selected st full none →
        exec (.selectAsserted p none) s = .next s
        ∧ exec (.selectAsserted p (some 0x02)) s
          = .next (s.setPort p { q with link := .selected st full (some (0x02, record)) })
        ∧ exec (.selectAsserted p (some 0x03)) s
          = .next (s.setPort p { q with link := .selected st full (some (0x03, report)) })
        ∧ exec (.selectAsserted p (some 0x04)) s
          = .next (s.setPort p { q with link := .selected st full (some (0x04, flags)) })
        ∧ exec (.selectAsserted p (some 0x07)) s
          = .next (s.setPort p { q with link := .selected st full (some (0x07, counts)) })
        ∧ ∀ k : Byte, k ≠ 0x02 → k ≠ 0x03 → k ≠ 0x04 → k ≠ 0x07 → exec (.selectAsserted p (some k)) s
          = .next (s.setPort p { q with link := .selected st full (some (k, [])) }))
      ∧ (∀ fixed, q.link = .selected st full (some fixed) → ∀ kind, exec (.selectAsserted p kind) s = .next s)
      ∧ (∀ reply, q.link = .selected st full (some (0x02, reply)) → reply.length = 15 → exec (.res p) s
        = .next (released { q with ring := if reply.head? = some 0x01 then q.ring.tail else q.ring } (st :: reply)))
      ∧ (∀ reply, q.link = .selected st full (some (0x03, reply)) → reply.length = 5 → exec (.caprep p) s
        = .next (released { q with reports := if reply.head? = some 0x01 then q.reports.tail else q.reports }
          (st :: reply)))
      ∧ (∀ reply, q.link = .selected st full (some (0x04, reply)) → reply.length = 4 → 1 ≤ n → n ≤ 5 →
        exec (.evt p n) s = .next (released q ((st :: reply).take n)))
      ∧ (∀ reply, q.link = .selected st full (some (0x07, reply)) → reply.length = 5 → 1 ≤ n → n ≤ 6 →
        exec (.stat p n) s = .next (released q ((st :: reply).take n)))
      ∧ (q.link = .selected st full (some (0x05, [])) →
        exec (.ack p w) s = .next (released acknowledged [st, 0, 0]))
      ∧ (q.link = .selected st full (some (0x06, [])) →
        exec (.mask p w) s = .next (released { q with mask := w.setWidth 9 } [st, 0, 0]))
      ∧ (s.attn p = true ↔ ∃ b, b < 9 ∧ word.getLsbD b = true ∧ q.mask.getLsbD b = false)

/-- PRST, on a link that is idle or has been selected: the port's own state takes the values of R183; its BOUND layers
become RELEASING and their records are discarded; their unlocked monitors return to the values of R154 and give up their
fallbacks (R163, R156); its slots become FREE or, while referred to, ORPHAN, visible if they were READY; every slot loses
the references given up, and an ORPHAN left without one becomes FREE (R63, R64); its slices become unowned, its timers
reset, the trailer input, if held, released; locking-port fields naming it are cleared; and the scene keeps its z-order,
backdrop and palette (R183, R24, R85, R107, R144, R165, R173).

Its requests are aborted without reports. If it does not hold the input, the other ports stay as they are, their requests
keep their places and an active one its phase; an active one of its own leaves the unit in RECOVER, or IDLE in OFF. If it
does, every request ends, with a NO_INPUT report and CAP_ABORT at each other port for its own, VIN_CHANGE there unless the
input was OFF, and the unit IDLE (R107, R114, R134, R136, R138). That PRST on an idle link is the whole transaction and
that the settle count keeps its value are the model's choices (log 9 and log 23, DESIGN CHOICE), and the order of its parts
its reading (log 22, DEDUCED). -/
def Obligations.PortResetReleasesEveryHolding : Prop :=
  ∀ (p : Port) (st : Byte) (s : State), s.resetPin = false →
    ((s.port p).link = .idle ∧ st = statusByte (s.port p) ∨ ∃ full fixed, (s.port p).link = .selected st full fixed) →
    let leaves := fun l : Fin 8 => (s.layer l).owner = some p ∧ (s.layer l).binding = .bound
    let lost := fun j : Fin 64 => ((List.finRange 8).map fun l =>
      if leaves l then (s.layer l).stagedList.countP (fun e => e.slot = j)
        + (if (s.monitor l).locked = false ∧ (s.monitor l).fallback = some j ∧ s.viewFallback l ≠ some j then 1 else 0)
      else 0).sum
    let ended := if s.vin.holder = some p then s.cap.requests else s.cap.requests.filter fun r => r.requester = p
    ∃ t, exec (.prst p) s = .next t
      ∧ t.port p = { PortState.reset with sdo := [st] }
      ∧ (∀ l : Fin 8, leaves l → t.layer l = { s.layer l with binding := .releasing, staged := none })
      ∧ (∀ l : Fin 8, ¬ leaves l → t.layer l = s.layer l)
      ∧ (∀ l : Fin 8, (t.monitor l).lockingPort ≠ some p)
      ∧ (∀ l : Fin 8, t.monitor l =
        { (if leaves l ∧ (s.monitor l).locked = false then Monitor.reset else s.monitor l) with
          lockingPort := if (s.monitor l).lockingPort = some p then none else (s.monitor l).lockingPort })
      ∧ (∀ i : Fin 64, (s.slot i).owner = some p → (t.slot i).owner = none
        ∧ ((t.slot i).state = .free ∧ (t.slot i).refCount = 0
          ∨ (t.slot i).state = .orphan ∧ (t.slot i).refCount ≠ 0
            ∧ ((t.slot i).orphanVisible = true ↔ (s.slot i).state = .ready)))
      ∧ (∀ i : Fin 64, let x := slotLessRef^[lost i] ((s.slot i).unnamed i ended)
        (x.owner ≠ some p → t.slot i = x)
          ∧ (x.owner = some p → x.refCount = 0 → t.slot i = ⟨.free, none, .direct, 0, 0, 0, 0, false, false, x.pixels⟩)
          ∧ (x.owner = some p → x.refCount ≠ 0 →
            t.slot i = { x with state := .orphan, owner := none, orphanVisible := decide (x.state = .ready) }))
      ∧ (∀ i : Fin 32, t.sliceHolder i = if s.sliceHolder i = some p then none else s.sliceHolder i)
      ∧ (∀ i : Fin 4, t.timer i = if (s.timer i).holder = some p then FrameTimer.reset else s.timer i)
      ∧ (s.vin.holder ≠ some p → t.vin = s.vin)
      ∧ (s.vin.holder = some p → t.vin.holder = none ∧ t.vin.lock = .off ∧ t.vin.captureEnabled = false
        ∧ t.vin.shown = s.vin.shown ∧ t.vin.ready = s.vin.ready)
      ∧ (s.vin.holder ≠ some p → (∀ q, q ≠ p → t.port q = s.port q)
        ∧ t.cap.queue = s.cap.queue.filter (fun r => r.requester ≠ p)
        ∧ ((∀ r, s.cap.active = some r → r.requester ≠ p) → t.cap = { s.cap with queue := t.cap.queue })
        ∧ ∀ r, s.cap.active = some r → r.requester = p → t.cap
          = ⟨t.cap.queue, none, if s.vin.lock = .off then .idle else .recover, s.cap.settleCount, .none, .empty⟩)
      ∧ (s.vin.holder = some p → t.cap.requests = []
        ∧ (CaptureOk s → t.cap = ⟨[], none, .idle, s.cap.settleCount,
            if s.cap.active = none then s.cap.sampled else .none, .empty⟩)
        ∧ ∀ q, q ≠ p → t.port q = PortState.told
          { s.port q with sticky := if s.vin.lock = .off then (s.port q).sticky else (s.port q).sticky ||| 0x080 }
          q s.cap.requests .noInput)
      ∧ t = { s with
          layers := t.layers, slots := t.slots, sliceOwner := t.sliceOwner, ports := t.ports, vin := t.vin
          cap := t.cap, timers := t.timers, monitors := t.monitors }

/-! ### Events -/

/-- An output frame start with the RESET pin released, in whatever order the blocks take their work: committed records
applied, RELEASING layers finished, current opacities stepped toward their targets, pending z-order, backdrop and
palette copied to live, the ready frame shown, OPENING slots opened, and the view taken from what stands then (R17, R19 to
R21, R25, R55, R73, R87, R116). A layer's expired condition is kept, but that an applied record with the clears-expiry flag
makes it NONE (R17, R22) and that a monitor whose count comes to 0 applies its action (R158, R159). FRAME is raised at the
owner of an applied commit and at the owner of an opened slot, and nowhere else (R23, R55). That the order is an operand is
the model's reading (log 4, DEDUCED); while RESET is asserted there is no frame start (R103). -/
def Obligations.FrameStartBringsPendingToLive : Prop :=
  ∀ (order : List FrameWork) (s : State),
    (s.resetPin = true → exec (.outputFrameStart order) s = .next s)
      ∧ (s.resetPin = false → s.frameTaken = [] → ∃ t, exec (.outputFrameStart order) s = .next t
        ∧ t.zLive = s.zPending ∧ t.zPending = s.zPending ∧ t.backdropLive = s.backdropPending
        ∧ t.backdropPending = s.backdropPending ∧ t.palLive = s.palPending ∧ t.palPending = s.palPending
        ∧ t.sliceOwner = s.sliceOwner ∧ t.frameTaken = []
        ∧ (∀ l : Fin 8, (s.layer l).binding = .releasing →
          t.layer l = { Layer.reset with expired := (t.layer l).expired })
        ∧ (∀ l : Fin 8, ∀ r, (s.layer l).binding ≠ .releasing → (s.layer l).staged = some r → r.committed = true →
          t.layer l = ⟨(s.layer l).binding, (s.layer l).owner, r.attrs,
              opacityStep r.attrs.target r.attrs.step (s.layer l).current, r.list, none, (t.layer l).expired⟩
            ∧ ∀ q, (s.layer l).owner = some q → (t.port q).hasFlag .frame = true)
        ∧ (∀ l : Fin 8, (s.layer l).binding ≠ .releasing →
          (∀ r, (s.layer l).staged = some r → r.committed = false) →
          t.layer l = { s.layer l with
            current := opacityStep (s.layer l).attrs.target (s.layer l).attrs.step (s.layer l).current
            expired := (t.layer l).expired })
        ∧ (∀ l : Fin 8,
          let m := s.monitor l
          let base := match (s.layer l).staged with
            | none => (s.layer l).expired
            | some r => if r.committed && r.clearsExpiry then .none else (s.layer l).expired
          let unrefreshed := s.vin.ready = none ∨ (s.layer l).namesVin = false
          (m.running = false ∨ 2 ≤ m.remaining ∧ (2 ≤ m.period ∨ unrefreshed) → (t.layer l).expired = base)
            ∧ (m.running = true → m.remaining ≤ 1 → unrefreshed → (t.layer l).expired = match m.action with
              | .hold => base
              | .hide => .hidden
              | .fallback => .fallback))
        ∧ ((s.cap.phase = .held → ∀ a, s.cap.active = some a → (s.slot a.slot).state ≠ .opening) →
          (∀ i : Fin 64, (s.slot i).state = .opening → (t.slot i).state = .opened)
          ∧ ∀ q, (t.port q).hasFlag .frame = true ↔ (s.port q).hasFlag .frame = true
            ∨ (∃ l r, (s.layer l).staged = some r ∧ r.committed = true ∧ (s.layer l).owner = some q)
            ∨ ∃ i, (s.slot i).state = .opening ∧ (s.slot i).owner = some q)
        ∧ (∀ f, s.vin.ready = some f → t.vin.shown = some f ∧ t.vin.ready = none)
        ∧ (s.vin.ready = none → t.vin.shown = s.vin.shown ∧ t.vin.ready = none)
        ∧ t.view = some (takeView t))

/-- SILENCE_LIMIT, MONITOR_EXPIRY and TIMER_EXPIRY, the step that a count is due to take at the coming frame start, not
yet taken (that it is a step of its own is the model's choice, log 5): lock is lost with VIN_CHANGE everywhere and a
request in SETTLE or SAMPLE aborted NO_INPUT (R113, R114, R134, R135); the monitor acts on its layer, raises EXPIRED and
reloads (R158, R159); an EVENT timer raises TIMER, reloads and, in ONESHOT, stops (R148, R149). Not due, each changes
nothing, and so does TIMER_EXPIRY of a timer that counts input frame ends (log 6).

The capture trigger of a due CAPTURE timer: ignored while capture is disabled or the input OFF; missed, with
TRIG_MISS and the template index kept, when a check of R150 fails; else a request with tag 0 and origin TIMER joins the
queue, its slot's flag is set, the index moves on, and in IDLE and LOCKED the queue is considered. TIMER is raised in
every case (R149, R150, R129).

Every count at an output frame start, in whatever order the blocks take their work: the silence count rises to 8 at most
and at 8 loses the lock, with the effects above; a running monitor's remaining count falls by one, or, with a frame
promoted to its layer, stands at the period or one below, and at 0 raises EXPIRED at the owner of its BOUND layer and at
the locking port, as nothing else there does (R158, R159, R118, R162); a running timer's prescale count or count takes its
step, and in MEASURE the count rises to 65535 at most (R148, R152). At a good input frame end MEASURE hands its count over
and the timers of that source take their step; at a bad one no timer does (R148, R152). -/
def Obligations.DueCountsExpireAndTrigger : Prop :=
  ((∀ s : State,
    (s.resetPin = false → s.vin.lock = .locked → 7 ≤ s.vin.silence → FrameWork.silence ∉ s.frameTaken →
      let told := fun q : Port => { s.port q with sticky := (s.port q).sticky ||| 0x080 }
      ∃ t, exec .silenceLimit s = .next t ∧ t.vin = { s.vin with lock := .lost, silence := 8, badRun := 0 }
        ∧ (∀ r, s.cap.active = some r → s.cap.phase = .settle ∨ s.cap.phase = .sample →
          t.cap = ⟨s.cap.queue, none, .recover, s.cap.settleCount, .none, .empty⟩
            ∧ (∀ q, t.port q = (told q).told q [r] .noInput) ∧ ∀ i, t.slot i = (s.slot i).unnamed i [r])
        ∧ (s.cap.active = none ∨ s.cap.phase ≠ .settle ∧ s.cap.phase ≠ .sample →
          t.cap = s.cap ∧ t.slots = s.slots ∧ ∀ q, t.port q = told q))
      ∧ (s.vin.lock ≠ .locked ∨ s.vin.silence < 7 → exec .silenceLimit s = .next s))
  ∧ (∀ (l : Fin 8) (s : State),
    (s.resetPin = false → (s.monitor l).running = true → (s.monitor l).remaining ≤ 1 →
      FrameWork.monitor l ∉ s.frameTaken → ∃ t, exec (.monitorExpiry l) s = .next t
        ∧ t.monitor l = { s.monitor l with remaining := (s.monitor l).period }
        ∧ (t.layer l).expired = (match (s.monitor l).action with
          | .hold => (s.layer l).expired
          | .hide => .hidden
          | .fallback => .fallback)
        ∧ (∀ r, (s.layer l).staged = some r → r.committed = true → (s.monitor l).action ≠ .hold →
          (t.layer l).staged = some { r with clearsExpiry := false })
        ∧ (∀ q, ((s.layer l).binding ≠ .unbound ∧ (s.layer l).owner = some q) ∨ (s.monitor l).lockingPort = some q →
          (t.port q).hasFlag .expired = true)
        ∧ t.slots = s.slots ∧ t.vin = s.vin ∧ t.cap = s.cap)
      ∧ ((s.monitor l).running = false ∨ 1 < (s.monitor l).remaining → exec (.monitorExpiry l) s = .next s))
  ∧ ∀ (i : Fin 4) (s : State),
    let m := s.timer i
    let due := m.running = true ∧ m.mode ≠ .measure ∧ m.prescaler ≤ m.prescaleCount + 1 ∧ m.count ≤ 1
    (¬ due ∨ m.source = .ife → exec (.timerExpiry i) s = .next s)
      ∧ (s.resetPin = false → due → m.source = .ofs → m.action = .event → FrameWork.timer i ∉ s.frameTaken →
        ∃ t, exec (.timerExpiry i) s = .next t
          ∧ t.timer i = { m with count := m.reload, prescaleCount := 0, running := decide (m.mode = .free) }
          ∧ (∀ q, m.holder = some q → (t.port q).hasFlag .timer = true)
          ∧ (∀ j, j ≠ i → t.timer j = s.timer j) ∧ t.cap = s.cap ∧ t.slots = s.slots ∧ t.vin = s.vin))
  ∧ (∀ (i : Fin 4) (p : Port) (k : Template) (slot : Fin 64) (s : State), s.resetPin = false →
    (s.timer i).running = true → (s.timer i).mode ≠ .measure → (s.timer i).source = .ofs →
    (s.timer i).action = .capture → (s.timer i).template = some k → (s.timer i).holder = some p →
    (s.timer i).prescaler ≤ (s.timer i).prescaleCount + 1 → (s.timer i).count ≤ 1 →
    FrameWork.timer i ∉ s.frameTaken → slot.val = k.first + (s.timer i).templateIndex →
    let m := s.timer i
    let off := s.vin.captureEnabled = false ∨ s.vin.lock = .off
    let admits := k.crop.x + k.crop.w ≤ s.vin.width ∧ k.crop.y + k.crop.h ≤ s.vin.height
      ∧ (s.slot slot).owner = some p ∧ ((s.slot slot).state = .empty ∨ (s.slot slot).state = .ready)
      ∧ (s.slot slot).captureFlag = false ∧ s.cap.queue.length < 4 ∧ s.outstanding p < 5
    let after := { m with count := m.reload, prescaleCount := 0, running := decide (m.mode = .free) }
    ∃ t, exec (.timerExpiry i) s = .next t ∧ (t.port p).hasFlag .timer = true
      ∧ (off → t.timer i = after ∧ t.cap = s.cap ∧ t.slots = s.slots
        ∧ (t.port p).hasFlag .trigMiss = (s.port p).hasFlag .trigMiss)
      ∧ (¬ off → ¬ admits → t.timer i = after ∧ t.cap = s.cap ∧ t.slots = s.slots
        ∧ (t.port p).hasFlag .trigMiss = true)
      ∧ (¬ off → admits → t.timer i = { after with templateIndex := (m.templateIndex + 1) % k.count }
        ∧ (CaptureOk s → (t.slot slot).captureFlag = true)
        ∧ (s.cap.phase ≠ .idle ∨ s.vin.lock ≠ .locked → (t.slot slot).captureFlag = true
          ∧ t.cap = { s.cap with queue := s.cap.queue ++ [⟨p, 0, slot, k.crop, .timer i⟩] })
        ∧ ∀ dead rest, s.cap.phase = .idle → s.vin.lock = .locked → FirstFit s.vin s.cap.queue dead rest →
          t.cap = s.cap.served s.vin.settle .awaited (rest ++ [⟨p, 0, slot, k.crop, .timer i⟩])
            ∧ (∀ q, t.port q = let x := (s.port q).told q dead .badArg
                if q = p then { x with sticky := x.sticky ||| 0x020 } else x)
            ∧ ∀ j, t.slot j
              = (if j = slot then { s.slot j with captureFlag := true } else s.slot j).unnamed j dead))
  ∧ (∀ (order : List FrameWork) (s : State), s.resetPin = false → s.frameTaken = [] →
    let lost := s.vin.lock = .locked ∧ 7 ≤ s.vin.silence
    let refreshed := fun l : Fin 8 => s.vin.ready ≠ none ∧ (s.layer l).namesVin = true
    ∃ t, exec (.outputFrameStart order) s = .next t
      ∧ t.vin.silence = (if s.vin.lock = .off then s.vin.silence else min 8 (s.vin.silence + 1))
      ∧ t.vin.lock = (if s.vin.lock = .locked ∧ 7 ≤ s.vin.silence then .lost else s.vin.lock)
      ∧ (∀ q, (t.port q).hasFlag .vinChange = true ↔ (s.port q).hasFlag .vinChange = true ∨ lost)
      ∧ (∀ r, lost → s.cap.active = some r → s.cap.phase = .settle ∨ s.cap.phase = .sample →
        t.cap = ⟨t.cap.queue, none, .recover, s.cap.settleCount, .none, .empty⟩
          ∧ (∀ q, (t.port q).reports = ((s.port q).told q [r] .noInput).reports)
          ∧ (t.port r.requester).hasFlag .capAbort = true
          ∧ ((∀ i, ¬ (s.timer i).TriggersAt .ofs) →
            t.cap.queue = s.cap.queue ∧ (t.slot r.slot).captureFlag = false))
      ∧ (∀ q l, (s.monitor l).running = true → (s.monitor l).remaining ≤ 1 → ¬ refreshed l →
        ((s.layer l).binding = .bound ∧ (s.layer l).owner = some q) ∨ (s.monitor l).lockingPort = some q →
        (t.port q).hasFlag .expired = true)
      ∧ (∀ q, (t.port q).hasFlag .expired = true → (s.port q).hasFlag .expired = true
        ∨ ∃ l, (s.monitor l).running = true
          ∧ ((s.monitor l).remaining ≤ 1 ∨ ((s.monitor l).period ≤ 1 ∧ refreshed l))
          ∧ (((s.layer l).binding ≠ .unbound ∧ (s.layer l).owner = some q) ∨ (s.monitor l).lockingPort = some q))
      ∧ (∀ l : Fin 8,
        let m := s.monitor l
        let unrefreshed := s.vin.ready = none ∨ (s.layer l).namesVin = false
        (m.running = false → t.monitor l = m)
          ∧ (m.running = true → unrefreshed → 2 ≤ m.remaining → t.monitor l = { m with remaining := m.remaining - 1 })
          ∧ (m.running = true → unrefreshed → m.remaining ≤ 1 → t.monitor l = { m with remaining := m.period })
          ∧ (m.running = true → s.vin.ready ≠ none → (s.layer l).attrs.source = .vin → (s.layer l).staged = none →
            (s.layer l).binding = .bound → 2 ≤ m.remaining → 2 ≤ m.period →
            t.monitor l = { m with remaining := m.period } ∨ t.monitor l = { m with remaining := m.period - 1 }))
      ∧ ∀ i : Fin 4,
        let m := s.timer i
        let counts := m.running = true ∧ m.mode ≠ .measure ∧ m.source = .ofs
        (m.running = false ∨ (m.mode ≠ .measure ∧ m.source = .ife) → t.timer i = m)
          ∧ (m.running = true → m.mode = .measure → t.timer i = { m with count := min 65535 (m.count + 1) })
          ∧ (counts → m.prescaleCount + 1 < m.prescaler →
            t.timer i = { m with prescaleCount := m.prescaleCount + 1 })
          ∧ (counts → m.prescaler ≤ m.prescaleCount + 1 → 2 ≤ m.count →
            t.timer i = { m with prescaleCount := 0, count := m.count - 1 })
          ∧ (counts → m.prescaler ≤ m.prescaleCount + 1 → m.count ≤ 1 →
            t.timer i = { m with
              prescaleCount := 0, count := m.reload, running := decide (m.mode = .free)
              templateIndex := (t.timer i).templateIndex }
            ∧ (m.action = .event → (t.timer i).templateIndex = m.templateIndex)
            ∧ ∀ q, m.holder = some q → (t.port q).hasFlag .timer = true))
  ∧ ∀ (bus : List BusSample) (order : List MarkWork) (r : ReceivingFrame) (s : State), s.vin.lock ≠ .off →
    s.vin.receiving = some r →
    let v := s.vin
    let lines := busLines bus
    let good := r.stale = false ∧ r.width = v.width ∧ r.height = v.height ∧ lines.length = v.height
      ∧ ∀ line ∈ lines, line.length = v.width
    ∃ t, exec (.inputFrameEnd bus order) s = .next t ∧ ∀ i : Fin 4,
      let m := s.timer i
      let counts := good ∧ m.running = true ∧ m.mode ≠ .measure ∧ m.source = .ife
      (¬ good ∨ m.running = false ∨ (m.mode ≠ .measure ∧ m.source = .ofs) → t.timer i = m)
        ∧ (good → m.running = true → m.mode = .measure → t.timer i = { m with measured := m.count, count := 0 })
        ∧ (counts → m.prescaleCount + 1 < m.prescaler → t.timer i = { m with prescaleCount := m.prescaleCount + 1 })
        ∧ (counts → m.prescaler ≤ m.prescaleCount + 1 → 2 ≤ m.count →
          t.timer i = { m with prescaleCount := 0, count := m.count - 1 })
        ∧ (counts → m.prescaler ≤ m.prescaleCount + 1 → m.count ≤ 1 →
          t.timer i = { m with
            prescaleCount := 0, count := m.reload, running := decide (m.mode = .free)
            templateIndex := (t.timer i).templateIndex }
          ∧ (m.action = .event → (t.timer i).templateIndex = m.templateIndex)
          ∧ ∀ q, m.holder = some q → (t.port q).hasFlag .timer = true)

/-- The takeover of a held thumbnail, at an output frame start in whatever order the blocks take their work and by the row
CAPTURE_TAKEOVER: the slot becomes READY and DIRECT with its pixels, the flag clears, an OK report and CAP_DONE go to the
requester, and the unit is IDLE with an empty result buffer; in LOCKED the queue is then considered (R68, R129 to R132,
R139, R140). At a frame start that loses the lock too, the loss comes first and the queue waits, or it comes second and
aborts the request that has just become active (R129, R135). A trigger at the same frame start is the statement on
triggers'. With none held the row changes nothing. CAP_ACTIVATE considers the queue in IDLE and LOCKED, and changes nothing
elsewhere (R129).

Considering the queue: heads that no longer fit the format end one after the other, each with a BAD_ARG report and
CAP_ABORT at its requester and its slot's flag clear, its slot as it was otherwise; the first that fits becomes active;
with none that fits the unit stays IDLE with an empty queue (R129).

That the two rows are steps of their own is the model's choice and its reading (log 5, DESIGN CHOICE; log 20, DEDUCED),
and that the settle count keeps its value in IDLE its choice (log 23, DESIGN CHOICE). -/
def Obligations.TakeoverAndActivation : Prop :=
  (∀ (r : CaptureRequest) (w h : Nat) (cs : List Colour) (dead rest : List CaptureRequest) (s : State),
    s.resetPin = false → s.cap.phase = .held → s.cap.active = some r → s.cap.result = .finished w h cs →
    FirstFit s.vin s.cap.queue dead rest →
    let idle : CaptureUnit := { s.cap with active := none, phase := .idle, sampled := .none, result := .empty }
    let next := if s.vin.lock = .locked then idle.served s.vin.settle .awaited rest else idle
    let ended := if s.vin.lock = .locked then dead else []
    let done := fun q : Port => if q = r.requester then { s.port q with
      reports := (s.port q).reports ++ [⟨r.tag, r.slot, .ok, r.origin⟩], sticky := (s.port q).sticky ||| 0x004 }
      else s.port q
    let holds := fun pixels : List Pixel => ∀ (k : Nat) (c : Colour), cs[k]? = some c →
      pixels[k]? = some (.direct ⟨max 16 (min 235 c.y), max 16 (min 240 c.cb), max 16 (min 240 c.cr)⟩)
    (FrameWork.takeover ∉ s.frameTaken → ∃ t, exec .captureTakeover s = .next t
      ∧ t.slot r.slot = { s.slot r.slot with
          state := .ready, format := .direct, width := w, height := h, writePos := w * h, captureFlag := false
          pixels := (t.slot r.slot).pixels }
      ∧ holds (t.slot r.slot).pixels
      ∧ (∀ j, j ≠ r.slot → t.slot j = (s.slot j).unnamed j ended)
      ∧ t.cap = next ∧ (∀ q, t.port q = (done q).told q ended .badArg)
      ∧ t.vin = s.vin ∧ t.layers = s.layers)
    ∧ ∀ order : List FrameWork, s.frameTaken = [] → ∃ t, exec (.outputFrameStart order) s = .next t
      ∧ (t.slot r.slot).state = .ready ∧ (t.slot r.slot).format = .direct ∧ (t.slot r.slot).width = w
      ∧ (t.slot r.slot).height = h ∧ (t.slot r.slot).writePos = w * h ∧ holds (t.slot r.slot).pixels
      ∧ (t.port r.requester).hasFlag .capDone = true
      ∧ (∃ more, (t.port r.requester).reports = (done r.requester).reports ++ more)
      ∧ ((∀ i, ¬ (s.timer i).TriggersAt .ofs) → (t.slot r.slot).captureFlag = false
        ∧ (¬ (s.vin.lock = .locked ∧ 7 ≤ s.vin.silence) → t.cap = next
          ∧ (∀ q, (t.port q).reports = ((done q).told q ended .badArg).reports)
          ∧ ∀ d ∈ ended, (t.slot d.slot).captureFlag = false ∧ (t.port d.requester).hasFlag .capAbort = true)
        ∧ (s.vin.lock = .locked → 7 ≤ s.vin.silence →
          (t.cap = idle ∧ ∀ q, (t.port q).reports = (done q).reports)
          ∨ (rest = [] ∧ t.cap = { idle with queue := [] }
            ∧ ∀ q, (t.port q).reports = ((done q).told q dead .badArg).reports)
          ∨ ∃ b behind, rest = b :: behind ∧ t.cap = ⟨behind, none, .recover, 0, .none, .empty⟩
            ∧ (t.slot b.slot).captureFlag = false
            ∧ ∀ q, (t.port q).reports = (((done q).told q dead .badArg).told q [b] .noInput).reports)))
  ∧ (∀ s : State, s.cap.phase ≠ .held → exec .captureTakeover s = .next s)
  ∧ (∀ s : State, s.cap.phase ≠ .idle ∨ s.vin.lock ≠ .locked ∨ s.cap.queue = [] → exec .capActivate s = .next s)
  ∧ ∀ (dead rest : List CaptureRequest) (s : State), s.cap.phase = .idle → s.vin.lock = .locked →
    FirstFit s.vin s.cap.queue dead rest →
    ∃ t, exec .capActivate s = .next t ∧ t.cap = s.cap.served s.vin.settle .awaited rest
      ∧ (∀ q, t.port q = (s.port q).told q dead .badArg)
      ∧ (∀ i, t.slot i = (s.slot i).unnamed i dead)
      ∧ t = { s with cap := t.cap, slots := t.slots, ports := t.ports }

/-- The lines of a frame are the runs of VIN_LV, and each pixel is stored with its own Y and its pair's Cb and Cr, Cr 128
for a last pixel without a partner, in video range, as many as 960 pixels of a line and 540 lines (R110). That a run still
asserted at the end of the bus operand ends there is the model's choice (log 29, DESIGN CHOICE).

FIRST_FRAME_MARK begins a receiving frame under the format in force and raises no input frame end (R109).
INPUT_FRAME_END judges the frame in reception, stores a good one as the ready frame and discards a bad one, begins the
next, sets the silence count to 0 and moves the lock state by the table of R112, in whatever order the blocks take it
(R111 to R113, R115); with reception off nothing happens. That the order is an operand is the model's choice (log 6,
DESIGN CHOICE), that the frame's pixels come with the row and that a mark with no frame in reception is the first are its
readings (log 14 and log 15, DEDUCED). -/
def Obligations.FrameMarksJudgeTheFrame : Prop :=
  ((busLines [] = [] ∧ (∀ d rest, busLines (⟨false, d⟩ :: rest) = busLines rest)
      ∧ ∀ (a : Half) (line : List Half), busLines ((a :: line).map (BusSample.mk true)) = [a :: line]
        ∧ ∀ d rest, busLines ((a :: line).map (BusSample.mk true) ++ ⟨false, d⟩ :: rest) = (a :: line) :: busLines rest)
    ∧ ∀ lines : List (List Half), (storedLines lines).length = min 540 lines.length
      ∧ ∀ (j : Nat) (line : List Half), j < 540 → lines[j]? = some line → ∃ row, (storedLines lines)[j]? = some row
        ∧ row.length = min 960 line.length
        ∧ ∀ k, k < 960 → k < line.length →
          let high := fun n => ((line.getD n 0).extractLsb' 8 8).toNat
          let low := fun n => ((line.getD n 0).extractLsb' 0 8).toNat
          row[k]? = some ⟨max 16 (min 235 (high k)), max 16 (min 240 (low (2 * (k / 2)))),
            if 2 * (k / 2) + 1 < line.length then max 16 (min 240 (low (2 * (k / 2) + 1))) else 128⟩)
  ∧ (∀ s : State,
    (s.vin.lock ≠ .off → s.vin.receiving = none → ∃ t, exec .firstFrameMark s = .next t
      ∧ t.vin = { s.vin with receiving := some ⟨s.vin.width, s.vin.height, false⟩ }
      ∧ t = { s with vin := t.vin, cap := t.cap })
      ∧ (s.vin.lock = .off → exec .firstFrameMark s = .next s
        ∧ ∀ bus order, exec (.inputFrameEnd bus order) s = .next s))
  ∧ ∀ (bus : List BusSample) (order : List MarkWork) (r : ReceivingFrame) (s : State), s.vin.lock ≠ .off →
    s.vin.receiving = some r →
    let v := s.vin
    let lines := busLines bus
    let good := r.stale = false ∧ r.width = v.width ∧ r.height = v.height ∧ lines.length = v.height
      ∧ ∀ line ∈ lines, line.length = v.width
    let next := fun (lock : LockState) (count run : Nat) => { v with
      receiving := some ⟨v.width, v.height, false⟩, silence := 0, lock := lock, goodCount := count, badRun := run }
    ∃ t, exec (.inputFrameEnd bus order) s = .next t ∧ t.layers = s.layers ∧ t.palPending = s.palPending
      ∧ (good →
        let ready := some (VideoFrame.mk v.width v.height (storedLines lines))
        (v.lock = .acquiring → v.goodCount < 2 →
            t.vin = { next .acquiring (v.goodCount + 1) v.badRun with ready := ready })
          ∧ (v.lock = .acquiring → 2 ≤ v.goodCount → t.vin = { next .locked 3 v.badRun with ready := ready }
            ∧ ∀ q, (t.port q).hasFlag .vinChange = true)
          ∧ (v.lock = .locked → t.vin = { next .locked v.goodCount 0 with ready := ready })
          ∧ (v.lock = .lost → t.vin = { next .acquiring 1 v.badRun with ready := ready }
            ∧ ∀ q, (t.port q).hasFlag .vinChange = true))
      ∧ (¬ good →
        (v.lock = .acquiring → t.vin = next .acquiring 0 v.badRun)
          ∧ (v.lock = .locked → v.badRun = 0 → t.vin = next .locked v.goodCount 1)
          ∧ (v.lock = .locked → 1 ≤ v.badRun → t.vin = next .lost v.goodCount 0
            ∧ ∀ q, (t.port q).hasFlag .vinChange = true)
          ∧ (v.lock = .lost → t.vin = next .lost v.goodCount v.badRun))

/-- The Capture Unit at an input frame end: in SETTLE a good one raises the settle count and at the settle value begins
sampling, a bad one does not count; the one that ends the sampled frame finishes the thumbnail, each pixel the rounded
average of its cell, when it is good, and goes on with the next frame when it is bad but the lock holds; RECOVER ends
(R127, R128, R130, R131, R133). The second bad one in a row loses the lock, and a request in SETTLE or SAMPLE is aborted:
the unit is IDLE after it, its slot's flag clear and NO_INPUT with CAP_ABORT at its requester (R112, R133 to R135).

One that leaves the unit IDLE in LOCKED, be it the one that makes the state LOCKED or the one that ends RECOVER, considers
the queue: requests that no longer fit end BAD_ARG with CAP_ABORT and their slots' flags clear, and the first that fits is
served, with settle 0 sampling the frame that begins at it; with none that fits the unit is IDLE with an empty queue (R129,
R131). One that does not leave the state LOCKED ends RECOVER with the queue kept (R133); that the lock moves before RECOVER
ends where it does both is the model's choice (log 33, DESIGN CHOICE). It holds in whatever order the blocks take their
work, where no timer triggers a capture at it: that is the statement on triggers'.

That the order is an operand is the model's choice (log 6, DESIGN CHOICE), that the frame's pixels come with the row and a
forming result holds no sums its reading (log 14, DEDUCED), and that the settle count keeps its value outside SETTLE its
choice (log 23, DESIGN CHOICE). -/
def Obligations.CaptureFollowsInputFrameEnds : Prop :=
  ∀ (bus : List BusSample) (order : List MarkWork) (r : ReceivingFrame) (s : State), s.vin.lock ≠ .off →
    s.vin.receiving = some r →
    let v := s.vin
    let lines := busLines bus
    let good := r.stale = false ∧ r.width = v.width ∧ r.height = v.height ∧ lines.length = v.height
      ∧ ∀ line ∈ lines, line.length = v.width
    (good → ∀ i, ¬ (s.timer i).TriggersAt .ife) →
    let frame := VideoFrame.mk v.width v.height (storedLines lines)
    let holds := v.lock = .locked ∧ (good ∨ v.badRun = 0)
    let locked := holds ∨ v.lock = .acquiring ∧ good ∧ 2 ≤ v.goodCount
    ∃ t, exec (.inputFrameEnd bus order) s = .next t
      ∧ (∀ a, s.cap.phase = .settle → s.cap.active = some a →
        (good → v.lock = .locked → s.cap.settleCount + 1 < v.settle →
            t.cap = { s.cap with settleCount := s.cap.settleCount + 1 })
          ∧ (good → v.lock = .locked → v.settle ≤ s.cap.settleCount + 1 → t.cap = { s.cap with
              settleCount := s.cap.settleCount + 1, phase := .sample, sampled := .receiving
              result := .forming (a.crop.w / a.crop.dx) (a.crop.h / a.crop.dy) })
          ∧ (¬ good → holds → t.cap = s.cap))
      ∧ (∀ a, s.cap.phase = .sample → s.cap.active = some a → s.cap.sampled = .receiving →
        (good → v.lock = .locked → ∃ cs, t.cap = { s.cap with
              phase := .held, sampled := .none
              result := .finished (a.crop.w / a.crop.dx) (a.crop.h / a.crop.dy) cs }
            ∧ cs.length = a.crop.w / a.crop.dx * (a.crop.h / a.crop.dy)
            ∧ ∀ i j, i < a.crop.w / a.crop.dx → j < a.crop.h / a.crop.dy →
              cs[j * (a.crop.w / a.crop.dx) + i]? = some (cellAverage a.crop (cellPixels frame a.crop i j)))
          ∧ (¬ good → holds → t.cap = s.cap))
      ∧ (s.cap.phase = .sample → s.cap.sampled = .awaited → holds → t.cap = { s.cap with sampled := .receiving })
      ∧ (s.cap.phase = .held → t.cap = s.cap)
      ∧ (s.cap.phase = .idle ∨ s.cap.phase = .recover → s.cap.queue = [] ∨ ¬ locked →
        t.cap = { s.cap with phase := .idle } ∧ t.slots = s.slots ∧ ∀ q, (t.port q).reports = (s.port q).reports)
      ∧ (∀ a, ¬ good → v.lock = .locked → 1 ≤ v.badRun → s.cap.phase = .settle ∨ s.cap.phase = .sample →
        s.cap.active = some a → t.cap = ⟨s.cap.queue, none, .idle, s.cap.settleCount, .none, .empty⟩
          ∧ t.slot a.slot = { s.slot a.slot with captureFlag := false } ∧ (∀ j, j ≠ a.slot → t.slot j = s.slot j)
          ∧ (t.port a.requester).reports = (s.port a.requester).reports ++ [⟨a.tag, a.slot, .noInput, a.origin⟩]
          ∧ (t.port a.requester).hasFlag .capAbort = true)
      ∧ ∀ dead rest, s.cap.phase = .idle ∨ s.cap.phase = .recover → locked → FirstFit v s.cap.queue dead rest →
        t.cap = { s.cap with phase := .idle }.served v.settle .receiving rest
          ∧ (∀ q, (t.port q).reports = ((s.port q).told q dead .badArg).reports)
          ∧ (∀ d ∈ dead, (t.port d.requester).hasFlag .capAbort = true)
          ∧ ∀ i, t.slot i = (s.slot i).unnamed i dead

/-- The assertion of RESET returns every block and port to its reset values, keeps each slot's pixel memory, abandons the
transactions in progress and raises nothing; its release lets frame starts and links go on (R8, R66, R86, R103, R119,
R141, R144, R165, R183, R184). -/
def Obligations.ResetPinReturnsEverything : Prop :=
  ∀ s : State,
    (∃ t, exec .resetAsserted s = .next t ∧ t.resetPin = true
      ∧ (∀ i : Fin 64, t.slot i = ⟨.free, none, .direct, 0, 0, 0, 0, false, false, (s.slot i).pixels⟩)
      ∧ (∀ p, ∃ k, t.port p = { PortState.reset with link := k } ∧ ((s.port p).link = .idle → k = .idle)
        ∧ ((s.port p).link ≠ .idle → k = .ignored))
      ∧ t = { State.reset with slots := t.slots, ports := t.ports, resetPin := true, pending := s.pending })
    ∧ exec .resetReleased s = .next { s with resetPin := false }

/-! ### Composition (file 05) -/

/-- The effective alpha and the blend: the formulas of R97 and R98 with the consequences that R97 draws, and the exact
cases of R101. -/
def Obligations.BlendIsExactAtTheEnds : Prop :=
  (∀ pa opacity, effectiveAlpha pa opacity = (pa * opacity + 8) / 16)
  ∧ (∀ a (f b : Colour), blend a f b = ⟨(a * f.y + (16 - a) * b.y + 8) / 16, (a * f.cb + (16 - a) * b.cb + 8) / 16,
      (a * f.cr + (16 - a) * b.cr + 8) / 16⟩)
  ∧ (∀ pa opacity, pa ≤ 16 → opacity ≤ 16 → effectiveAlpha pa opacity ≤ 16
    ∧ (effectiveAlpha pa opacity = 0 ↔ pa * opacity ≤ 7) ∧ (effectiveAlpha pa opacity = 16 ↔ pa = 16 ∧ opacity = 16)
    ∧ effectiveAlpha pa 16 = pa ∧ effectiveAlpha 16 opacity = opacity)
  ∧ (∀ f b : Colour, blend 0 f b = b ∧ blend 16 f b = f ∧ ∀ a, a ≤ 16 → blend a b b = b)
  ∧ ∀ a b d : Nat, a ≤ 16 → (blendComponent a (b + d) b = b ↔ a * d ≤ 7) ∧ (blendComponent a b (b + d) = b + d ↔ a * d ≤ 8)

/-- What one layer draws at a raster point. A layer that is not BOUND, not visible, HIDDEN or at opacity 0 draws nothing
(R90). Of a list, the last entry that covers the point is blended over what the entries before it give, its position
counted from the layer's and the placement's offsets, inside its clip: a DIRECT pixel with pixel alpha 16, a code with the
colour and alpha of the entry that the placement's own window pair resolves it to (R83, R91 to R93, R97 to R99). At opacity
16 a DIRECT one alone decides the pixel (R101), and a list of which no entry covers the point draws nothing. A VIN layer
blends the stored trailer pixel inside its clip, and nothing elsewhere (R94); a FALLBACK layer blends its slot's image at
the layer's offset, codes resolved through the pair (0, 1), and nothing beside it (R95). Layers are drawn from the bottom
of the z-order over the backdrop (R89). -/
def Obligations.LayersDrawTheirSamplesInOrder : Prop :=
  (∀ (v : View) (l : LayerView) (x y : Int) (b : Colour),
    let missed := fun e : Placement => (∃ r, e.clip = some r ∧ (x < r.x0 ∨ r.x1 < x ∨ y < r.y0 ∨ r.y1 < y))
      ∨ v.image e.slot = none ∨ x < l.attrs.ox + e.px ∨ y < l.attrs.oy + e.py
      ∨ ∃ img, v.image e.slot = some img ∧ (l.attrs.ox + e.px + img.width ≤ x ∨ l.attrs.oy + e.py + img.height ≤ y)
    (l.binding ≠ .bound ∨ l.attrs.visible = false ∨ l.expired = .hidden ∨ l.current = 0 → blendLayer v l x y b = b)
      ∧ (l.binding = .bound → l.attrs.visible = true → 1 ≤ l.current →
        (l.expired = .none → l.attrs.source = .placements →
          (∀ (before after : List Placement) (e : Placement) (img : Image) (m k : Nat),
            l.live = before ++ e :: after → (∀ z ∈ after, missed z) →
            (∀ r, e.clip = some r → r.x0 ≤ x ∧ x ≤ r.x1 ∧ r.y0 ≤ y ∧ y ≤ r.y1) → v.image e.slot = some img →
            x = l.attrs.ox + e.px + m → y = l.attrs.oy + e.py + k → m < img.width → k < img.height →
            (∀ c, img.pixels[k * img.width + m]? = some (.direct c) →
              blendLayer v l x y b
                = blend (effectiveAlpha 16 l.current) c (blendLayer v { l with live := before } x y b)
              ∧ (l.current = 16 → blendLayer v l x y b = c))
            ∧ ∀ (code : Fin 16) (n : Fin 256), img.pixels[k * img.width + m]? = some (.indexed code) →
              n.val = (if code.val < 8 then 8 * e.w0.val + code.val else 8 * e.w1.val + (code.val - 8)) →
              blendLayer v l x y b = blend (effectiveAlpha (v.entry n).alpha l.current) (v.entry n).colour
                (blendLayer v { l with live := before } x y b))
          ∧ ((∀ e ∈ l.live, missed e) → blendLayer v l x y b = b))
        ∧ (l.expired = .none → l.attrs.source = .vin →
          (∀ (f : VideoFrame) (row : List Colour) (c : Colour) (m k : Nat), l.attrs.clip.x0 ≤ x → x ≤ l.attrs.clip.x1 →
            l.attrs.clip.y0 ≤ y → y ≤ l.attrs.clip.y1 → v.shown = some f → x = l.attrs.ox + m → y = l.attrs.oy + k →
            m < f.width → k < f.height → f.lines[k]? = some row → row[m]? = some c →
            blendLayer v l x y b = blend (effectiveAlpha 16 l.current) c b)
          ∧ ((x < l.attrs.clip.x0 ∨ l.attrs.clip.x1 < x ∨ y < l.attrs.clip.y0 ∨ l.attrs.clip.y1 < y ∨ v.shown = none
              ∨ x < l.attrs.ox ∨ y < l.attrs.oy
              ∨ ∃ f, v.shown = some f ∧ (l.attrs.ox + f.width ≤ x ∨ l.attrs.oy + f.height ≤ y)) →
            blendLayer v l x y b = b))
        ∧ (l.expired = .fallback →
          (∀ (i : Fin 64) (img : Image) (m k : Nat), l.fallback = some i → v.image i = some img →
            x = l.attrs.ox + m → y = l.attrs.oy + k → m < img.width → k < img.height →
            (∀ c, img.pixels[k * img.width + m]? = some (.direct c) →
              blendLayer v l x y b = blend (effectiveAlpha 16 l.current) c b)
            ∧ ∀ (code : Fin 16) (n : Fin 256), img.pixels[k * img.width + m]? = some (.indexed code) →
              n.val = code.val →
              blendLayer v l x y b = blend (effectiveAlpha (v.entry n).alpha l.current) (v.entry n).colour b)
          ∧ ((l.fallback = none ∨ x < l.attrs.ox ∨ y < l.attrs.oy
              ∨ ∃ i, l.fallback = some i ∧ (v.image i = none
                ∨ ∃ img, v.image i = some img ∧ (l.attrs.ox + img.width ≤ x ∨ l.attrs.oy + img.height ≤ y))) →
            blendLayer v l x y b = b))))
  ∧ ∀ (v : View) (x y : Int), (v.zOrder = [] → composePixel v x y = v.backdrop)
    ∧ ∀ below top, v.zOrder = below ++ [top] →
      composePixel v x y = blendLayer v (v.layer top) x y (composePixel { v with zOrder := below } x y)

/-- Every composed output pixel lies within video range, in every state whose stored colours, alphas and opacities do
(R96, R100). There is a pixel exactly at the raster's points while there is a view (R88, R103), and the word on the bus at
the (960 y + x)-th active pixel carries the pixel (x, y), Y on the high byte, then Cb, then Cr (R88; that the bus is a
function of the view, word by word in raster order, is the model's reading, log 18, DEDUCED). -/
def Obligations.OutputPixelsLieInVideoRange : Prop :=
  ∀ (x y n : Nat) (s : State), ColoursOk s →
    (∀ c, s.outputPixel x y = some c → c.inRange = true
      ∧ ∃ w, s.outputBus (960 * y + x) = some w ∧ (w.extractLsb' 16 8).toNat = c.y ∧ (w.extractLsb' 8 8).toNat = c.cb
        ∧ (w.extractLsb' 0 8).toNat = c.cr)
      ∧ ((s.outputPixel x y).isSome = true ↔ x < 960 ∧ y < 540 ∧ s.view ≠ none)
      ∧ ((s.outputBus n).isSome = true ↔ n < 518400 ∧ s.view ≠ none)

/-! ### What no event and no port can change -/

/-- What is on the screen, the live attributes and lists, the live z-order, backdrop and palette and the shown frame
change at output frame starts and at the assertion of RESET, and at no other event (R3, R17, R20, R72, R73, R87, R116). -/
def Obligations.OnlyFrameStartsChangeTheScreen : Prop :=
  ∀ (c : Instr) (s : State), (∀ order, c ≠ .outputFrameStart order) → c ≠ .resetAsserted →
    ∃ t, exec c s = .next t ∧ (∀ x y, t.outputPixel x y = s.outputPixel x y) ∧ t.zLive = s.zLive
      ∧ t.backdropLive = s.backdropLive ∧ t.palLive = s.palLive ∧ t.vin.shown = s.vin.shown
      ∧ ∀ l, (t.layer l).live = (s.layer l).live ∧ (t.layer l).attrs = (s.layer l).attrs
        ∧ (t.layer l).current = (s.layer l).current

/-- No command taken at one port, and no port reset of it, changes what another port holds: its layers, its slots but for
their reference counts and capture flags, its slices and their entries, its timers, the trailer input, its queue, ring,
mask and Port Context. Its layers' monitors change in their lock alone, and reports and event flags may reach it (R2, R50,
R78, R106, R143, R164, R183). -/
def Obligations.PortsCannotTouchOthersHoldings : Prop :=
  ∀ (c : Instr) (p q : Port) (s : State), p ≠ q → ((∃ f op, commandOf c = some (p, f, op)) ∨ c = .prst p) →
    ∃ t, exec c s = .next t
      ∧ (∃ reports sticky, t.port q = { s.port q with reports := reports, sticky := sticky })
      ∧ (∀ l, (s.layer l).owner = some q → (s.layer l).binding ≠ .unbound → t.layer l = s.layer l
        ∧ ∃ lock port, t.monitor l = { s.monitor l with locked := lock, lockingPort := port })
      ∧ (∀ i, (s.slot i).owner = some q → (s.slot i).state ≠ .free → (s.slot i).state ≠ .orphan →
        ∃ refs flag, t.slot i = { s.slot i with refCount := refs, captureFlag := flag })
      ∧ (∀ i, s.sliceHolder i = some q → t.sliceHolder i = some q
        ∧ ∀ n : Fin 256, 16 ≤ n.val → n.val / 8 = i.val → t.palPending[n.val] = s.palPending[n.val])
      ∧ (∀ m, (s.timer m).holder = some q → t.timer m = s.timer m)
      ∧ (s.vin.holder = some q → t.vin = s.vin)

/-- The capture trigger of a timer that expires at an output frame start, or at a good input frame end, as the only one
that triggers there, in whatever order the blocks take their work. TIMER is raised. Ignored while capture is disabled or
the input OFF: index and TRIG_MISS as they were. Missed when a check of R150 fails: TRIG_MISS, the index kept. Accepted when
all hold: the index moves on, TRIG_MISS stays, the slot's flag is set and the request, with tag 0 and origin TIMER, joins
the tail of the queue. The queue is considered where that frame start or input frame end leaves the unit IDLE in LOCKED,
the request among the others: by the acceptance itself, or by a takeover, an end of RECOVER or a lock gained at the same
event (R124, R129, R132, R133, R148 to R150).

Where the Capture Unit's own work at that event may decide a check, both orders may occur (R151); a check that it cannot
decide (format, owner, outstanding count, and at an input frame end the slot's state) is missed in either. At a frame
start that loses the lock the request made may be aborted at once (R135), so only the index is stated there. That the
order is an operand is the model's reading and choice (log 4, DEDUCED; log 6, DESIGN CHOICE). -/
def Obligations.FrameEventsTriggerCaptures : Prop :=
  ∀ (source : TimerSource) (i : Fin 4) (p : Port) (k : Template) (slot : Fin 64) (s : State),
    (s.timer i).TriggersAt source → (∀ j, j ≠ i → ¬ (s.timer j).TriggersAt source) →
    (s.timer i).template = some k → (s.timer i).holder = some p →
    slot.val = k.first + (s.timer i).templateIndex →
    let m := s.timer i
    let v := s.vin
    let off := v.captureEnabled = false ∨ v.lock = .off
    let new : CaptureRequest := ⟨p, 0, slot, k.crop, .timer i⟩
    let fixed := new.within v ∧ (s.slot slot).owner = some p ∧ s.outstanding p < 5
    let stands := (s.slot slot).state = .empty ∨ (s.slot slot).state = .ready
    let admits := fixed ∧ stands ∧ (s.slot slot).captureFlag = false ∧ s.cap.queue.length < 4
    let serves := s.cap.phase = .settle ∨ s.cap.phase = .sample ∨ s.cap.phase = .held
    let missed := fun t : State => (t.timer i).templateIndex = m.templateIndex ∧ (t.port p).hasFlag .trigMiss = true
    let spared := fun t : State => (t.port p).hasFlag .trigMiss = (s.port p).hasFlag .trigMiss
    let moved := fun t : State => (t.timer i).templateIndex = (m.templateIndex + 1) % k.count ∧ spared t
    (source = .ofs → s.resetPin = false → s.frameTaken = [] → ∀ order : List FrameWork,
      let lost := v.lock = .locked ∧ 7 ≤ v.silence
      ∃ t, exec (.outputFrameStart order) s = .next t ∧ (t.port p).hasFlag .timer = true
        ∧ (off → (t.timer i).templateIndex = m.templateIndex ∧ spared t
          ∧ (s.cap.phase ≠ .held → ¬ lost → t.cap = s.cap))
        ∧ (¬ off → ¬ fixed → missed t)
        ∧ (¬ off → ¬ admits → s.cap.phase ≠ .held → ¬ lost → missed t ∧ t.cap = s.cap)
        ∧ (¬ off → admits → moved t ∧ ∀ dead rest, ¬ lost → CaptureOk s → FirstFit v s.cap.queue dead rest →
          let base := if s.cap.phase = .held then
            { s.cap with active := none, phase := .idle, sampled := .none, result := .empty } else s.cap
          (t.slot slot).captureFlag = true
            ∧ t.cap = if base.phase = .idle ∧ v.lock = .locked then base.served v.settle .awaited (rest ++ [new])
              else { base with queue := s.cap.queue ++ [new] }))
    ∧ (source = .ife → v.lock ≠ .off → ∀ (bus : List BusSample) (order : List MarkWork) (r : ReceivingFrame),
      v.receiving = some r → r.stale = false → r.width = v.width → r.height = v.height →
      (busLines bus).length = v.height → (∀ line ∈ busLines bus, line.length = v.width) →
      let locked := v.lock = .locked ∨ v.lock = .acquiring ∧ 2 ≤ v.goodCount
      ∃ t, exec (.inputFrameEnd bus order) s = .next t ∧ (t.port p).hasFlag .timer = true
        ∧ (off → (t.timer i).templateIndex = m.templateIndex ∧ spared t)
        ∧ (¬ off → ¬ (fixed ∧ stands) → CaptureOk s → missed t)
        ∧ (¬ off → ¬ admits → serves → missed t ∧ t.cap.queue = s.cap.queue)
        ∧ (¬ off → admits → moved t ∧ (CaptureOk s → (t.slot slot).captureFlag = true
          ∧ (serves → ∃ u, exec (.inputFrameEnd bus order) (s.setTimer i { m with running := false }) = .next u
            ∧ t.cap = { u.cap with queue := s.cap.queue ++ [new] })
          ∧ ∀ dead rest, ¬ serves → FirstFit v s.cap.queue dead rest →
            t.cap = if locked then { s.cap with phase := .idle }.served v.settle .receiving (rest ++ [new])
              else { s.cap with phase := .idle, queue := s.cap.queue ++ [new] })))

/-! ### What every step keeps -/

/-- Each z-order holds each layer exactly once, at all times (R6). No pool entry is in two places, no list passes 48
entries, and the pool's free entries and the entries in lists are 128 together (R4, R5). Binding, owner and pending record
agree (R1, R2, R19), and at most one layer names VIN, with an empty list beside it (R13). -/
def Obligations.SceneTableStaysConsistent : Prop :=
  KeptByStep ZOrdersOk ∧ KeptByStep PoolOk ∧ KeptByStep LayersOk ∧ KeptByStep SourceOk
  ∧ ∀ s : State, PoolOk s → s.poolFree.length + s.placements.length = 128
    ∧ ∀ i, i ∈ s.poolFree ↔ ∀ e ∈ s.placements, e.index ≠ i

/-- Each slot's reference count is the number of its references (R62, R156). -/
def Obligations.ReferenceCountsStayExact : Prop :=
  KeptByStep RefsOk

/-- Slot records keep R47 to R49 and R65, with the counts and flags they answer to (R62, R67, R120). -/
def Obligations.SlotStoreStaysConsistent : Prop :=
  KeptByStep fun s => SlotStoreOk s ∧ TimersOk s

/-- The capture queue, the counts and the flags keep R120, R121, R125 and R137, with the templates that triggers use. -/
def Obligations.CaptureUnitStaysConsistent : Prop :=
  KeptByStep fun s => CaptureOk s ∧ TimersOk s

/-- The trailer input keeps R104, R105, R108, R112 and R113.

Timers keep R142 and R145 to R148; monitors keep R154, R155, R158 and R165. -/
def Obligations.TrailerInputTimersAndMonitorsStayInRange : Prop :=
  (KeptByStep TrailerOk)
  ∧ (KeptByStep TimersOk ∧ KeptByStep MonitorsOk)

/-- Queues, rings, clip stacks, cursors and repeat records keep R35, R40, R166, R176 and R178. That a starter is absent in
NONE and present in CAPTURING and REPLAYING is the model's choice (log 17, DESIGN CHOICE).

Every result record has a value from 0 to 65535 and at most 8 extra bytes, a summary record that waits included (R178).
Its values are counts of the state, so a step keeps this where the invariants hold that bound them: the pool's, the
slots', the timers', the monitors' and the ports', each of them kept by every step. -/
def Obligations.PortsStayWithinTheirLimits : Prop :=
  KeptByStep PortsOk
  ∧ ∀ s s' : State, PoolOk s → RefsOk s → SlotsOk s → TimersOk s → MonitorsOk s → PortsOk s → RecordsOk s →
    step s = .next s' → RecordsOk s'

/-- Stored colours, alphas and opacities stay within their ranges (R1, R16, R48, R70, R96, R110). -/
def Obligations.ColoursStayInRange : Prop :=
  KeptByStep ColoursOk

/-- The state right after reset: every record has the values that the rules give it after the RESET pin (R1, R6, R7, R35,
R47, R70, R81, R86, R104, R121, R142, R154, R166, R183, R184), and meets every invariant above. That the pin is released
again, that the pixel memory lists nothing and the queue of events to come is empty, with no part of a frame start taken,
is the model's choice (log 1, log 2, log 3 and log 5, DESIGN CHOICE). -/
def Obligations.ResetMeetsTheInvariants : Prop :=
  let s := State.reset
  ((∀ l, s.layer l = ⟨.unbound, none, ⟨false, 16, 0, 0, 0, .placements, ⟨0, 0, 959, 539⟩⟩, 16, [], none, .none⟩
        ∧ s.monitor l = ⟨60, 4, .hold, none, 60, false, false, none⟩)
      ∧ s.zLive = [0, 1, 2, 3, 4, 5, 6, 7] ∧ s.zPending = [0, 1, 2, 3, 4, 5, 6, 7]
      ∧ s.backdropLive = ⟨16, 128, 128⟩ ∧ s.backdropPending = ⟨16, 128, 128⟩
      ∧ (∀ i, s.slot i = ⟨.free, none, .direct, 0, 0, 0, 0, false, false, []⟩)
      ∧ (∀ n : Fin 256, s.palLive[n.val] = ⟨⟨16, 128, 128⟩, 0⟩ ∧ s.palPending[n.val] = ⟨⟨16, 128, 128⟩, 0⟩)
      ∧ (∀ i, s.sliceHolder i = none)
      ∧ s.vin = ⟨none, 960, 540, 1, false, .off, 0, 0, 0, none, none, none⟩
      ∧ s.cap = ⟨[], none, .idle, 0, .none, .empty⟩
      ∧ (∀ i, s.timer i = ⟨none, false, .ofs, 1, 0, 65535, 65535, .free, .event, none, 0, 0⟩)
      ∧ (∀ p, s.port p = ⟨[], [], [], 0, 0, 0, 1, ⟨0, 0, 0, 0, 0, 1, 0, 0, 0⟩, ⟨0, 0, 0, 0, 0, 1, 0, 0, 0⟩, [],
          ⟨[], 0, .none, 0, 1, 0, 0, none, 0, none⟩, .idle, []⟩)
      ∧ s.view = none ∧ s.resetPin = false ∧ s.frameTaken = [] ∧ s.pending = [])
    ∧ ZOrdersOk s ∧ PoolOk s ∧ LayersOk s ∧ SourceOk s ∧ SlotStoreOk s ∧ TrailerOk s ∧ TimersOk s ∧ MonitorsOk s
    ∧ PortsOk s ∧ RecordsOk s ∧ ColoursOk s
end

