-- ==== Sys2Proof/Laws/State.lean ====
section
/-! SUPPORT. One lemma per field and per named write of State: what a write leaves, and what it puts in place. -/

namespace Sys2Proof.Machine

variable (s : State)

/-! ### setLayer -/

@[simp] theorem State.setLayer_zLive (l : Fin 8) (x : Layer) : (s.setLayer l x).zLive = s.zLive := rfl
@[simp] theorem State.setLayer_zPending (l : Fin 8) (x : Layer) : (s.setLayer l x).zPending = s.zPending := rfl
@[simp] theorem State.setLayer_backdropLive (l : Fin 8) (x : Layer) : (s.setLayer l x).backdropLive = s.backdropLive := rfl
@[simp] theorem State.setLayer_backdropPending (l : Fin 8) (x : Layer) : (s.setLayer l x).backdropPending = s.backdropPending := rfl
@[simp] theorem State.setLayer_slots (l : Fin 8) (x : Layer) : (s.setLayer l x).slots = s.slots := rfl
@[simp] theorem State.setLayer_palLive (l : Fin 8) (x : Layer) : (s.setLayer l x).palLive = s.palLive := rfl
@[simp] theorem State.setLayer_palPending (l : Fin 8) (x : Layer) : (s.setLayer l x).palPending = s.palPending := rfl
@[simp] theorem State.setLayer_sliceOwner (l : Fin 8) (x : Layer) : (s.setLayer l x).sliceOwner = s.sliceOwner := rfl
@[simp] theorem State.setLayer_ports (l : Fin 8) (x : Layer) : (s.setLayer l x).ports = s.ports := rfl
@[simp] theorem State.setLayer_vin (l : Fin 8) (x : Layer) : (s.setLayer l x).vin = s.vin := rfl
@[simp] theorem State.setLayer_cap (l : Fin 8) (x : Layer) : (s.setLayer l x).cap = s.cap := rfl
@[simp] theorem State.setLayer_timers (l : Fin 8) (x : Layer) : (s.setLayer l x).timers = s.timers := rfl
@[simp] theorem State.setLayer_monitors (l : Fin 8) (x : Layer) : (s.setLayer l x).monitors = s.monitors := rfl
@[simp] theorem State.setLayer_view (l : Fin 8) (x : Layer) : (s.setLayer l x).view = s.view := rfl
@[simp] theorem State.setLayer_resetPin (l : Fin 8) (x : Layer) : (s.setLayer l x).resetPin = s.resetPin := rfl
@[simp] theorem State.setLayer_frameTaken (l : Fin 8) (x : Layer) : (s.setLayer l x).frameTaken = s.frameTaken := rfl
@[simp] theorem State.setLayer_pending (l : Fin 8) (x : Layer) : (s.setLayer l x).pending = s.pending := rfl
@[simp] theorem State.setLayer_get_slot (l : Fin 8) (x : Layer) (j : Fin 64) : (s.setLayer l x).slot j = s.slot j := rfl
@[simp] theorem State.setLayer_get_port (l : Fin 8) (x : Layer) (q : Port) : (s.setLayer l x).port q = s.port q := rfl
@[simp] theorem State.setLayer_get_timer (l : Fin 8) (x : Layer) (u : Fin 4) : (s.setLayer l x).timer u = s.timer u := rfl
@[simp] theorem State.setLayer_get_monitor (l : Fin 8) (x : Layer) (m : Fin 8) : (s.setLayer l x).monitor m = s.monitor m := rfl
@[simp] theorem State.setLayer_get_sliceHolder (l : Fin 8) (x : Layer) (j : Fin 32) : (s.setLayer l x).sliceHolder j = s.sliceHolder j := rfl
@[simp] theorem State.setLayer_get_viewFallback (l : Fin 8) (x : Layer) (m : Fin 8) : (s.setLayer l x).viewFallback m = s.viewFallback m := rfl

/-! ### setSlot -/

@[simp] theorem State.setSlot_layers (i : Fin 64) (x : Slot) : (s.setSlot i x).layers = s.layers := rfl
@[simp] theorem State.setSlot_zLive (i : Fin 64) (x : Slot) : (s.setSlot i x).zLive = s.zLive := rfl
@[simp] theorem State.setSlot_zPending (i : Fin 64) (x : Slot) : (s.setSlot i x).zPending = s.zPending := rfl
@[simp] theorem State.setSlot_backdropLive (i : Fin 64) (x : Slot) : (s.setSlot i x).backdropLive = s.backdropLive := rfl
@[simp] theorem State.setSlot_backdropPending (i : Fin 64) (x : Slot) : (s.setSlot i x).backdropPending = s.backdropPending := rfl
@[simp] theorem State.setSlot_palLive (i : Fin 64) (x : Slot) : (s.setSlot i x).palLive = s.palLive := rfl
@[simp] theorem State.setSlot_palPending (i : Fin 64) (x : Slot) : (s.setSlot i x).palPending = s.palPending := rfl
@[simp] theorem State.setSlot_sliceOwner (i : Fin 64) (x : Slot) : (s.setSlot i x).sliceOwner = s.sliceOwner := rfl
@[simp] theorem State.setSlot_ports (i : Fin 64) (x : Slot) : (s.setSlot i x).ports = s.ports := rfl
@[simp] theorem State.setSlot_vin (i : Fin 64) (x : Slot) : (s.setSlot i x).vin = s.vin := rfl
@[simp] theorem State.setSlot_cap (i : Fin 64) (x : Slot) : (s.setSlot i x).cap = s.cap := rfl
@[simp] theorem State.setSlot_timers (i : Fin 64) (x : Slot) : (s.setSlot i x).timers = s.timers := rfl
@[simp] theorem State.setSlot_monitors (i : Fin 64) (x : Slot) : (s.setSlot i x).monitors = s.monitors := rfl
@[simp] theorem State.setSlot_view (i : Fin 64) (x : Slot) : (s.setSlot i x).view = s.view := rfl
@[simp] theorem State.setSlot_resetPin (i : Fin 64) (x : Slot) : (s.setSlot i x).resetPin = s.resetPin := rfl
@[simp] theorem State.setSlot_frameTaken (i : Fin 64) (x : Slot) : (s.setSlot i x).frameTaken = s.frameTaken := rfl
@[simp] theorem State.setSlot_pending (i : Fin 64) (x : Slot) : (s.setSlot i x).pending = s.pending := rfl
@[simp] theorem State.setSlot_get_layer (i : Fin 64) (x : Slot) (m : Fin 8) : (s.setSlot i x).layer m = s.layer m := rfl
@[simp] theorem State.setSlot_get_port (i : Fin 64) (x : Slot) (q : Port) : (s.setSlot i x).port q = s.port q := rfl
@[simp] theorem State.setSlot_get_timer (i : Fin 64) (x : Slot) (u : Fin 4) : (s.setSlot i x).timer u = s.timer u := rfl
@[simp] theorem State.setSlot_get_monitor (i : Fin 64) (x : Slot) (m : Fin 8) : (s.setSlot i x).monitor m = s.monitor m := rfl
@[simp] theorem State.setSlot_get_sliceHolder (i : Fin 64) (x : Slot) (j : Fin 32) : (s.setSlot i x).sliceHolder j = s.sliceHolder j := rfl
@[simp] theorem State.setSlot_get_viewFallback (i : Fin 64) (x : Slot) (m : Fin 8) : (s.setSlot i x).viewFallback m = s.viewFallback m := rfl

/-! ### setPort -/

@[simp] theorem State.setPort_layers (p : Port) (x : PortState) : (s.setPort p x).layers = s.layers := rfl
@[simp] theorem State.setPort_zLive (p : Port) (x : PortState) : (s.setPort p x).zLive = s.zLive := rfl
@[simp] theorem State.setPort_zPending (p : Port) (x : PortState) : (s.setPort p x).zPending = s.zPending := rfl
@[simp] theorem State.setPort_backdropLive (p : Port) (x : PortState) : (s.setPort p x).backdropLive = s.backdropLive := rfl
@[simp] theorem State.setPort_backdropPending (p : Port) (x : PortState) : (s.setPort p x).backdropPending = s.backdropPending := rfl
@[simp] theorem State.setPort_slots (p : Port) (x : PortState) : (s.setPort p x).slots = s.slots := rfl
@[simp] theorem State.setPort_palLive (p : Port) (x : PortState) : (s.setPort p x).palLive = s.palLive := rfl
@[simp] theorem State.setPort_palPending (p : Port) (x : PortState) : (s.setPort p x).palPending = s.palPending := rfl
@[simp] theorem State.setPort_sliceOwner (p : Port) (x : PortState) : (s.setPort p x).sliceOwner = s.sliceOwner := rfl
@[simp] theorem State.setPort_vin (p : Port) (x : PortState) : (s.setPort p x).vin = s.vin := rfl
@[simp] theorem State.setPort_cap (p : Port) (x : PortState) : (s.setPort p x).cap = s.cap := rfl
@[simp] theorem State.setPort_timers (p : Port) (x : PortState) : (s.setPort p x).timers = s.timers := rfl
@[simp] theorem State.setPort_monitors (p : Port) (x : PortState) : (s.setPort p x).monitors = s.monitors := rfl
@[simp] theorem State.setPort_view (p : Port) (x : PortState) : (s.setPort p x).view = s.view := rfl
@[simp] theorem State.setPort_resetPin (p : Port) (x : PortState) : (s.setPort p x).resetPin = s.resetPin := rfl
@[simp] theorem State.setPort_frameTaken (p : Port) (x : PortState) : (s.setPort p x).frameTaken = s.frameTaken := rfl
@[simp] theorem State.setPort_pending (p : Port) (x : PortState) : (s.setPort p x).pending = s.pending := rfl
@[simp] theorem State.setPort_get_layer (p : Port) (x : PortState) (m : Fin 8) : (s.setPort p x).layer m = s.layer m := rfl
@[simp] theorem State.setPort_get_slot (p : Port) (x : PortState) (j : Fin 64) : (s.setPort p x).slot j = s.slot j := rfl
@[simp] theorem State.setPort_get_timer (p : Port) (x : PortState) (u : Fin 4) : (s.setPort p x).timer u = s.timer u := rfl
@[simp] theorem State.setPort_get_monitor (p : Port) (x : PortState) (m : Fin 8) : (s.setPort p x).monitor m = s.monitor m := rfl
@[simp] theorem State.setPort_get_sliceHolder (p : Port) (x : PortState) (j : Fin 32) : (s.setPort p x).sliceHolder j = s.sliceHolder j := rfl
@[simp] theorem State.setPort_get_viewFallback (p : Port) (x : PortState) (m : Fin 8) : (s.setPort p x).viewFallback m = s.viewFallback m := rfl

/-! ### setTimer -/

@[simp] theorem State.setTimer_layers (t : Fin 4) (x : FrameTimer) : (s.setTimer t x).layers = s.layers := rfl
@[simp] theorem State.setTimer_zLive (t : Fin 4) (x : FrameTimer) : (s.setTimer t x).zLive = s.zLive := rfl
@[simp] theorem State.setTimer_zPending (t : Fin 4) (x : FrameTimer) : (s.setTimer t x).zPending = s.zPending := rfl
@[simp] theorem State.setTimer_backdropLive (t : Fin 4) (x : FrameTimer) : (s.setTimer t x).backdropLive = s.backdropLive := rfl
@[simp] theorem State.setTimer_backdropPending (t : Fin 4) (x : FrameTimer) : (s.setTimer t x).backdropPending = s.backdropPending := rfl
@[simp] theorem State.setTimer_slots (t : Fin 4) (x : FrameTimer) : (s.setTimer t x).slots = s.slots := rfl
@[simp] theorem State.setTimer_palLive (t : Fin 4) (x : FrameTimer) : (s.setTimer t x).palLive = s.palLive := rfl
@[simp] theorem State.setTimer_palPending (t : Fin 4) (x : FrameTimer) : (s.setTimer t x).palPending = s.palPending := rfl
@[simp] theorem State.setTimer_sliceOwner (t : Fin 4) (x : FrameTimer) : (s.setTimer t x).sliceOwner = s.sliceOwner := rfl
@[simp] theorem State.setTimer_ports (t : Fin 4) (x : FrameTimer) : (s.setTimer t x).ports = s.ports := rfl
@[simp] theorem State.setTimer_vin (t : Fin 4) (x : FrameTimer) : (s.setTimer t x).vin = s.vin := rfl
@[simp] theorem State.setTimer_cap (t : Fin 4) (x : FrameTimer) : (s.setTimer t x).cap = s.cap := rfl
@[simp] theorem State.setTimer_monitors (t : Fin 4) (x : FrameTimer) : (s.setTimer t x).monitors = s.monitors := rfl
@[simp] theorem State.setTimer_view (t : Fin 4) (x : FrameTimer) : (s.setTimer t x).view = s.view := rfl
@[simp] theorem State.setTimer_resetPin (t : Fin 4) (x : FrameTimer) : (s.setTimer t x).resetPin = s.resetPin := rfl
@[simp] theorem State.setTimer_frameTaken (t : Fin 4) (x : FrameTimer) : (s.setTimer t x).frameTaken = s.frameTaken := rfl
@[simp] theorem State.setTimer_pending (t : Fin 4) (x : FrameTimer) : (s.setTimer t x).pending = s.pending := rfl
@[simp] theorem State.setTimer_get_layer (t : Fin 4) (x : FrameTimer) (m : Fin 8) : (s.setTimer t x).layer m = s.layer m := rfl
@[simp] theorem State.setTimer_get_slot (t : Fin 4) (x : FrameTimer) (j : Fin 64) : (s.setTimer t x).slot j = s.slot j := rfl
@[simp] theorem State.setTimer_get_port (t : Fin 4) (x : FrameTimer) (q : Port) : (s.setTimer t x).port q = s.port q := rfl
@[simp] theorem State.setTimer_get_monitor (t : Fin 4) (x : FrameTimer) (m : Fin 8) : (s.setTimer t x).monitor m = s.monitor m := rfl
@[simp] theorem State.setTimer_get_sliceHolder (t : Fin 4) (x : FrameTimer) (j : Fin 32) : (s.setTimer t x).sliceHolder j = s.sliceHolder j := rfl
@[simp] theorem State.setTimer_get_viewFallback (t : Fin 4) (x : FrameTimer) (m : Fin 8) : (s.setTimer t x).viewFallback m = s.viewFallback m := rfl

/-! ### setMonitor -/

@[simp] theorem State.setMonitor_layers (l : Fin 8) (x : Monitor) : (s.setMonitor l x).layers = s.layers := rfl
@[simp] theorem State.setMonitor_zLive (l : Fin 8) (x : Monitor) : (s.setMonitor l x).zLive = s.zLive := rfl
@[simp] theorem State.setMonitor_zPending (l : Fin 8) (x : Monitor) : (s.setMonitor l x).zPending = s.zPending := rfl
@[simp] theorem State.setMonitor_backdropLive (l : Fin 8) (x : Monitor) : (s.setMonitor l x).backdropLive = s.backdropLive := rfl
@[simp] theorem State.setMonitor_backdropPending (l : Fin 8) (x : Monitor) : (s.setMonitor l x).backdropPending = s.backdropPending := rfl
@[simp] theorem State.setMonitor_slots (l : Fin 8) (x : Monitor) : (s.setMonitor l x).slots = s.slots := rfl
@[simp] theorem State.setMonitor_palLive (l : Fin 8) (x : Monitor) : (s.setMonitor l x).palLive = s.palLive := rfl
@[simp] theorem State.setMonitor_palPending (l : Fin 8) (x : Monitor) : (s.setMonitor l x).palPending = s.palPending := rfl
@[simp] theorem State.setMonitor_sliceOwner (l : Fin 8) (x : Monitor) : (s.setMonitor l x).sliceOwner = s.sliceOwner := rfl
@[simp] theorem State.setMonitor_ports (l : Fin 8) (x : Monitor) : (s.setMonitor l x).ports = s.ports := rfl
@[simp] theorem State.setMonitor_vin (l : Fin 8) (x : Monitor) : (s.setMonitor l x).vin = s.vin := rfl
@[simp] theorem State.setMonitor_cap (l : Fin 8) (x : Monitor) : (s.setMonitor l x).cap = s.cap := rfl
@[simp] theorem State.setMonitor_timers (l : Fin 8) (x : Monitor) : (s.setMonitor l x).timers = s.timers := rfl
@[simp] theorem State.setMonitor_view (l : Fin 8) (x : Monitor) : (s.setMonitor l x).view = s.view := rfl
@[simp] theorem State.setMonitor_resetPin (l : Fin 8) (x : Monitor) : (s.setMonitor l x).resetPin = s.resetPin := rfl
@[simp] theorem State.setMonitor_frameTaken (l : Fin 8) (x : Monitor) : (s.setMonitor l x).frameTaken = s.frameTaken := rfl
@[simp] theorem State.setMonitor_pending (l : Fin 8) (x : Monitor) : (s.setMonitor l x).pending = s.pending := rfl
@[simp] theorem State.setMonitor_get_layer (l : Fin 8) (x : Monitor) (m : Fin 8) : (s.setMonitor l x).layer m = s.layer m := rfl
@[simp] theorem State.setMonitor_get_slot (l : Fin 8) (x : Monitor) (j : Fin 64) : (s.setMonitor l x).slot j = s.slot j := rfl
@[simp] theorem State.setMonitor_get_port (l : Fin 8) (x : Monitor) (q : Port) : (s.setMonitor l x).port q = s.port q := rfl
@[simp] theorem State.setMonitor_get_timer (l : Fin 8) (x : Monitor) (u : Fin 4) : (s.setMonitor l x).timer u = s.timer u := rfl
@[simp] theorem State.setMonitor_get_sliceHolder (l : Fin 8) (x : Monitor) (j : Fin 32) : (s.setMonitor l x).sliceHolder j = s.sliceHolder j := rfl
@[simp] theorem State.setMonitor_get_viewFallback (l : Fin 8) (x : Monitor) (m : Fin 8) : (s.setMonitor l x).viewFallback m = s.viewFallback m := rfl

/-! ### setVin -/

@[simp] theorem State.setVin_layers (x : TrailerInput) : (s.setVin x).layers = s.layers := rfl
@[simp] theorem State.setVin_zLive (x : TrailerInput) : (s.setVin x).zLive = s.zLive := rfl
@[simp] theorem State.setVin_zPending (x : TrailerInput) : (s.setVin x).zPending = s.zPending := rfl
@[simp] theorem State.setVin_backdropLive (x : TrailerInput) : (s.setVin x).backdropLive = s.backdropLive := rfl
@[simp] theorem State.setVin_backdropPending (x : TrailerInput) : (s.setVin x).backdropPending = s.backdropPending := rfl
@[simp] theorem State.setVin_slots (x : TrailerInput) : (s.setVin x).slots = s.slots := rfl
@[simp] theorem State.setVin_palLive (x : TrailerInput) : (s.setVin x).palLive = s.palLive := rfl
@[simp] theorem State.setVin_palPending (x : TrailerInput) : (s.setVin x).palPending = s.palPending := rfl
@[simp] theorem State.setVin_sliceOwner (x : TrailerInput) : (s.setVin x).sliceOwner = s.sliceOwner := rfl
@[simp] theorem State.setVin_ports (x : TrailerInput) : (s.setVin x).ports = s.ports := rfl
@[simp] theorem State.setVin_cap (x : TrailerInput) : (s.setVin x).cap = s.cap := rfl
@[simp] theorem State.setVin_timers (x : TrailerInput) : (s.setVin x).timers = s.timers := rfl
@[simp] theorem State.setVin_monitors (x : TrailerInput) : (s.setVin x).monitors = s.monitors := rfl
@[simp] theorem State.setVin_view (x : TrailerInput) : (s.setVin x).view = s.view := rfl
@[simp] theorem State.setVin_resetPin (x : TrailerInput) : (s.setVin x).resetPin = s.resetPin := rfl
@[simp] theorem State.setVin_frameTaken (x : TrailerInput) : (s.setVin x).frameTaken = s.frameTaken := rfl
@[simp] theorem State.setVin_pending (x : TrailerInput) : (s.setVin x).pending = s.pending := rfl
@[simp] theorem State.setVin_vin (x : TrailerInput) : (s.setVin x).vin = x := rfl
@[simp] theorem State.setVin_get_layer (x : TrailerInput) (m : Fin 8) : (s.setVin x).layer m = s.layer m := rfl
@[simp] theorem State.setVin_get_slot (x : TrailerInput) (j : Fin 64) : (s.setVin x).slot j = s.slot j := rfl
@[simp] theorem State.setVin_get_port (x : TrailerInput) (q : Port) : (s.setVin x).port q = s.port q := rfl
@[simp] theorem State.setVin_get_timer (x : TrailerInput) (u : Fin 4) : (s.setVin x).timer u = s.timer u := rfl
@[simp] theorem State.setVin_get_monitor (x : TrailerInput) (m : Fin 8) : (s.setVin x).monitor m = s.monitor m := rfl
@[simp] theorem State.setVin_get_sliceHolder (x : TrailerInput) (j : Fin 32) : (s.setVin x).sliceHolder j = s.sliceHolder j := rfl
@[simp] theorem State.setVin_get_viewFallback (x : TrailerInput) (m : Fin 8) : (s.setVin x).viewFallback m = s.viewFallback m := rfl

/-! ### setCap -/

@[simp] theorem State.setCap_layers (x : CaptureUnit) : (s.setCap x).layers = s.layers := rfl
@[simp] theorem State.setCap_zLive (x : CaptureUnit) : (s.setCap x).zLive = s.zLive := rfl
@[simp] theorem State.setCap_zPending (x : CaptureUnit) : (s.setCap x).zPending = s.zPending := rfl
@[simp] theorem State.setCap_backdropLive (x : CaptureUnit) : (s.setCap x).backdropLive = s.backdropLive := rfl
@[simp] theorem State.setCap_backdropPending (x : CaptureUnit) : (s.setCap x).backdropPending = s.backdropPending := rfl
@[simp] theorem State.setCap_slots (x : CaptureUnit) : (s.setCap x).slots = s.slots := rfl
@[simp] theorem State.setCap_palLive (x : CaptureUnit) : (s.setCap x).palLive = s.palLive := rfl
@[simp] theorem State.setCap_palPending (x : CaptureUnit) : (s.setCap x).palPending = s.palPending := rfl
@[simp] theorem State.setCap_sliceOwner (x : CaptureUnit) : (s.setCap x).sliceOwner = s.sliceOwner := rfl
@[simp] theorem State.setCap_ports (x : CaptureUnit) : (s.setCap x).ports = s.ports := rfl
@[simp] theorem State.setCap_vin (x : CaptureUnit) : (s.setCap x).vin = s.vin := rfl
@[simp] theorem State.setCap_timers (x : CaptureUnit) : (s.setCap x).timers = s.timers := rfl
@[simp] theorem State.setCap_monitors (x : CaptureUnit) : (s.setCap x).monitors = s.monitors := rfl
@[simp] theorem State.setCap_view (x : CaptureUnit) : (s.setCap x).view = s.view := rfl
@[simp] theorem State.setCap_resetPin (x : CaptureUnit) : (s.setCap x).resetPin = s.resetPin := rfl
@[simp] theorem State.setCap_frameTaken (x : CaptureUnit) : (s.setCap x).frameTaken = s.frameTaken := rfl
@[simp] theorem State.setCap_pending (x : CaptureUnit) : (s.setCap x).pending = s.pending := rfl
@[simp] theorem State.setCap_cap (x : CaptureUnit) : (s.setCap x).cap = x := rfl
@[simp] theorem State.setCap_get_layer (x : CaptureUnit) (m : Fin 8) : (s.setCap x).layer m = s.layer m := rfl
@[simp] theorem State.setCap_get_slot (x : CaptureUnit) (j : Fin 64) : (s.setCap x).slot j = s.slot j := rfl
@[simp] theorem State.setCap_get_port (x : CaptureUnit) (q : Port) : (s.setCap x).port q = s.port q := rfl
@[simp] theorem State.setCap_get_timer (x : CaptureUnit) (u : Fin 4) : (s.setCap x).timer u = s.timer u := rfl
@[simp] theorem State.setCap_get_monitor (x : CaptureUnit) (m : Fin 8) : (s.setCap x).monitor m = s.monitor m := rfl
@[simp] theorem State.setCap_get_sliceHolder (x : CaptureUnit) (j : Fin 32) : (s.setCap x).sliceHolder j = s.sliceHolder j := rfl
@[simp] theorem State.setCap_get_viewFallback (x : CaptureUnit) (m : Fin 8) : (s.setCap x).viewFallback m = s.viewFallback m := rfl

/-! ### setSliceHolder -/

@[simp] theorem State.setSliceHolder_layers (i : Fin 32) (x : Option Port) : (s.setSliceHolder i x).layers = s.layers := rfl
@[simp] theorem State.setSliceHolder_zLive (i : Fin 32) (x : Option Port) : (s.setSliceHolder i x).zLive = s.zLive := rfl
@[simp] theorem State.setSliceHolder_zPending (i : Fin 32) (x : Option Port) : (s.setSliceHolder i x).zPending = s.zPending := rfl
@[simp] theorem State.setSliceHolder_backdropLive (i : Fin 32) (x : Option Port) : (s.setSliceHolder i x).backdropLive = s.backdropLive := rfl
@[simp] theorem State.setSliceHolder_backdropPending (i : Fin 32) (x : Option Port) : (s.setSliceHolder i x).backdropPending = s.backdropPending := rfl
@[simp] theorem State.setSliceHolder_slots (i : Fin 32) (x : Option Port) : (s.setSliceHolder i x).slots = s.slots := rfl
@[simp] theorem State.setSliceHolder_palLive (i : Fin 32) (x : Option Port) : (s.setSliceHolder i x).palLive = s.palLive := rfl
@[simp] theorem State.setSliceHolder_palPending (i : Fin 32) (x : Option Port) : (s.setSliceHolder i x).palPending = s.palPending := rfl
@[simp] theorem State.setSliceHolder_ports (i : Fin 32) (x : Option Port) : (s.setSliceHolder i x).ports = s.ports := rfl
@[simp] theorem State.setSliceHolder_vin (i : Fin 32) (x : Option Port) : (s.setSliceHolder i x).vin = s.vin := rfl
@[simp] theorem State.setSliceHolder_cap (i : Fin 32) (x : Option Port) : (s.setSliceHolder i x).cap = s.cap := rfl
@[simp] theorem State.setSliceHolder_timers (i : Fin 32) (x : Option Port) : (s.setSliceHolder i x).timers = s.timers := rfl
@[simp] theorem State.setSliceHolder_monitors (i : Fin 32) (x : Option Port) : (s.setSliceHolder i x).monitors = s.monitors := rfl
@[simp] theorem State.setSliceHolder_view (i : Fin 32) (x : Option Port) : (s.setSliceHolder i x).view = s.view := rfl
@[simp] theorem State.setSliceHolder_resetPin (i : Fin 32) (x : Option Port) : (s.setSliceHolder i x).resetPin = s.resetPin := rfl
@[simp] theorem State.setSliceHolder_frameTaken (i : Fin 32) (x : Option Port) : (s.setSliceHolder i x).frameTaken = s.frameTaken := rfl
@[simp] theorem State.setSliceHolder_pending (i : Fin 32) (x : Option Port) : (s.setSliceHolder i x).pending = s.pending := rfl
@[simp] theorem State.setSliceHolder_get_layer (i : Fin 32) (x : Option Port) (m : Fin 8) : (s.setSliceHolder i x).layer m = s.layer m := rfl
@[simp] theorem State.setSliceHolder_get_slot (i : Fin 32) (x : Option Port) (j : Fin 64) : (s.setSliceHolder i x).slot j = s.slot j := rfl
@[simp] theorem State.setSliceHolder_get_port (i : Fin 32) (x : Option Port) (q : Port) : (s.setSliceHolder i x).port q = s.port q := rfl
@[simp] theorem State.setSliceHolder_get_timer (i : Fin 32) (x : Option Port) (u : Fin 4) : (s.setSliceHolder i x).timer u = s.timer u := rfl
@[simp] theorem State.setSliceHolder_get_monitor (i : Fin 32) (x : Option Port) (m : Fin 8) : (s.setSliceHolder i x).monitor m = s.monitor m := rfl
@[simp] theorem State.setSliceHolder_get_viewFallback (i : Fin 32) (x : Option Port) (m : Fin 8) : (s.setSliceHolder i x).viewFallback m = s.viewFallback m := rfl

/-! ### setPalPending -/

@[simp] theorem State.setPalPending_layers (n : Fin 256) (e : PaletteEntry) : (s.setPalPending n e).layers = s.layers := rfl
@[simp] theorem State.setPalPending_zLive (n : Fin 256) (e : PaletteEntry) : (s.setPalPending n e).zLive = s.zLive := rfl
@[simp] theorem State.setPalPending_zPending (n : Fin 256) (e : PaletteEntry) : (s.setPalPending n e).zPending = s.zPending := rfl
@[simp] theorem State.setPalPending_backdropLive (n : Fin 256) (e : PaletteEntry) : (s.setPalPending n e).backdropLive = s.backdropLive := rfl
@[simp] theorem State.setPalPending_backdropPending (n : Fin 256) (e : PaletteEntry) : (s.setPalPending n e).backdropPending = s.backdropPending := rfl
@[simp] theorem State.setPalPending_slots (n : Fin 256) (e : PaletteEntry) : (s.setPalPending n e).slots = s.slots := rfl
@[simp] theorem State.setPalPending_palLive (n : Fin 256) (e : PaletteEntry) : (s.setPalPending n e).palLive = s.palLive := rfl
@[simp] theorem State.setPalPending_sliceOwner (n : Fin 256) (e : PaletteEntry) : (s.setPalPending n e).sliceOwner = s.sliceOwner := rfl
@[simp] theorem State.setPalPending_ports (n : Fin 256) (e : PaletteEntry) : (s.setPalPending n e).ports = s.ports := rfl
@[simp] theorem State.setPalPending_vin (n : Fin 256) (e : PaletteEntry) : (s.setPalPending n e).vin = s.vin := rfl
@[simp] theorem State.setPalPending_cap (n : Fin 256) (e : PaletteEntry) : (s.setPalPending n e).cap = s.cap := rfl
@[simp] theorem State.setPalPending_timers (n : Fin 256) (e : PaletteEntry) : (s.setPalPending n e).timers = s.timers := rfl
@[simp] theorem State.setPalPending_monitors (n : Fin 256) (e : PaletteEntry) : (s.setPalPending n e).monitors = s.monitors := rfl
@[simp] theorem State.setPalPending_view (n : Fin 256) (e : PaletteEntry) : (s.setPalPending n e).view = s.view := rfl
@[simp] theorem State.setPalPending_resetPin (n : Fin 256) (e : PaletteEntry) : (s.setPalPending n e).resetPin = s.resetPin := rfl
@[simp] theorem State.setPalPending_frameTaken (n : Fin 256) (e : PaletteEntry) : (s.setPalPending n e).frameTaken = s.frameTaken := rfl
@[simp] theorem State.setPalPending_pending (n : Fin 256) (e : PaletteEntry) : (s.setPalPending n e).pending = s.pending := rfl
@[simp] theorem State.setPalPending_get_layer (n : Fin 256) (e : PaletteEntry) (m : Fin 8) : (s.setPalPending n e).layer m = s.layer m := rfl
@[simp] theorem State.setPalPending_get_slot (n : Fin 256) (e : PaletteEntry) (j : Fin 64) : (s.setPalPending n e).slot j = s.slot j := rfl
@[simp] theorem State.setPalPending_get_port (n : Fin 256) (e : PaletteEntry) (q : Port) : (s.setPalPending n e).port q = s.port q := rfl
@[simp] theorem State.setPalPending_get_timer (n : Fin 256) (e : PaletteEntry) (u : Fin 4) : (s.setPalPending n e).timer u = s.timer u := rfl
@[simp] theorem State.setPalPending_get_monitor (n : Fin 256) (e : PaletteEntry) (m : Fin 8) : (s.setPalPending n e).monitor m = s.monitor m := rfl
@[simp] theorem State.setPalPending_get_sliceHolder (n : Fin 256) (e : PaletteEntry) (j : Fin 32) : (s.setPalPending n e).sliceHolder j = s.sliceHolder j := rfl
@[simp] theorem State.setPalPending_get_viewFallback (n : Fin 256) (e : PaletteEntry) (m : Fin 8) : (s.setPalPending n e).viewFallback m = s.viewFallback m := rfl

/-! ### What a write puts in place -/

@[simp] theorem State.layer_setLayer (l : Fin 8) (x : Layer) : (s.setLayer l x).layer l = x := by
  simp [State.layer, State.setLayer]

theorem State.layer_setLayer_ne (l m : Fin 8) (x : Layer) (h : m ≠ l) : (s.setLayer l x).layer m = s.layer m := by
  have h' : l.val ≠ m.val := fun e => h (Fin.ext e.symm)
  simp [State.layer, State.setLayer, h']

@[simp] theorem State.slot_setSlot (i : Fin 64) (x : Slot) : (s.setSlot i x).slot i = x := by
  simp [State.slot, State.setSlot]

theorem State.slot_setSlot_ne (i j : Fin 64) (x : Slot) (h : j ≠ i) : (s.setSlot i x).slot j = s.slot j := by
  have h' : i.val ≠ j.val := fun e => h (Fin.ext e.symm)
  simp [State.slot, State.setSlot, h']

theorem portIndex_injective (p q : Port) (h : portIndex p = portIndex q) : p = q := by
  cases p <;> cases q <;> simp_all [portIndex]

@[simp] theorem State.port_setPort (p : Port) (x : PortState) : (s.setPort p x).port p = x := by
  simp [State.port, State.setPort]

theorem State.port_setPort_ne (p q : Port) (x : PortState) (h : q ≠ p) : (s.setPort p x).port q = s.port q := by
  have h' : (portIndex p).val ≠ (portIndex q).val := fun e => h (portIndex_injective _ _ (Fin.ext e.symm))
  simp [State.port, State.setPort, h']

@[simp] theorem State.timer_setTimer (t : Fin 4) (x : FrameTimer) : (s.setTimer t x).timer t = x := by
  simp [State.timer, State.setTimer]

theorem State.timer_setTimer_ne (t u : Fin 4) (x : FrameTimer) (h : u ≠ t) : (s.setTimer t x).timer u = s.timer u := by
  have h' : t.val ≠ u.val := fun e => h (Fin.ext e.symm)
  simp [State.timer, State.setTimer, h']

@[simp] theorem State.monitor_setMonitor (l : Fin 8) (x : Monitor) : (s.setMonitor l x).monitor l = x := by
  simp [State.monitor, State.setMonitor]

theorem State.monitor_setMonitor_ne (l m : Fin 8) (x : Monitor) (h : m ≠ l) :
    (s.setMonitor l x).monitor m = s.monitor m := by
  have h' : l.val ≠ m.val := fun e => h (Fin.ext e.symm)
  simp [State.monitor, State.setMonitor, h']

@[simp] theorem State.sliceHolder_setSliceHolder (i : Fin 32) (x : Option Port) :
    (s.setSliceHolder i x).sliceHolder i = x := by
  simp [State.sliceHolder, State.setSliceHolder]

theorem State.sliceHolder_setSliceHolder_ne (i j : Fin 32) (x : Option Port) (h : j ≠ i) :
    (s.setSliceHolder i x).sliceHolder j = s.sliceHolder j := by
  have h' : i.val ≠ j.val := fun e => h (Fin.ext e.symm)
  simp [State.sliceHolder, State.setSliceHolder, h']

/-! ### Writing back what is there, and writing twice -/

@[simp] theorem State.setLayer_self (l : Fin 8) : s.setLayer l (s.layer l) = s := by simp [State.setLayer, State.layer]

@[simp] theorem State.setSlot_self (i : Fin 64) : s.setSlot i (s.slot i) = s := by simp [State.setSlot, State.slot]

@[simp] theorem State.setPort_self (p : Port) : s.setPort p (s.port p) = s := by simp [State.setPort, State.port]

@[simp] theorem State.setLayer_twice (l : Fin 8) (x y : Layer) : (s.setLayer l x).setLayer l y = s.setLayer l y := by
  simp [State.setLayer]

@[simp] theorem State.setSlot_twice (i : Fin 64) (x y : Slot) : (s.setSlot i x).setSlot i y = s.setSlot i y := by
  simp [State.setSlot]

@[simp] theorem State.setPort_twice (p : Port) (x y : PortState) : (s.setPort p x).setPort p y = s.setPort p y := by
  simp [State.setPort]

end Sys2Proof.Machine
end

