-- ==== Sys2Proof/Laws/Ops.lean ====
section
/-! SUPPORT. What each shared operation can do, said once: which part of State it writes, and what it leaves there. -/

namespace Sys2Proof.Machine

/-! ### Operations that write the ports alone -/

theorem State.raise_eq (s : State) (p : Port) (f : EventFlag) : s.raise p f = { s with ports := (s.raise p f).ports } :=
  rfl

theorem State.raiseAt_eq (s : State) (p : Option Port) (f : EventFlag) :
    s.raiseAt p f = { s with ports := (s.raiseAt p f).ports } := by
  cases p <;> rfl

theorem State.raiseAll_eq (s : State) (f : EventFlag) : s.raiseAll f = { s with ports := (s.raiseAll f).ports } := rfl

theorem State.setRepeat_eq (s : State) (p : Port) (r : RepeatRecord) :
    s.setRepeat p r = { s with ports := (s.setRepeat p r).ports } := rfl

theorem State.pushRecord_eq (s : State) (p : Port) (r : ResultRecord) :
    s.pushRecord p r = { s with ports := (s.pushRecord p r).ports } := rfl

theorem State.dropHead_eq (s : State) (p : Port) : s.dropHead p = { s with ports := (s.dropHead p).ports } := rfl

theorem State.pushReport_eq (s : State) (p : Port) (r : CaptureReport) :
    s.pushReport p r = { s with ports := (s.pushReport p r).ports } := rfl

/-- A raised flag joins the sticky flags of its port and changes nothing else there. -/
theorem State.port_raise (s : State) (p : Port) (f : EventFlag) :
    (s.raise p f).port p = { s.port p with sticky := (s.port p).sticky ||| flagBit f } := by
  simp [State.raise]

/-- A flag raised at one port changes no other port. -/
theorem State.port_raise_ne (s : State) (p q : Port) (f : EventFlag) (h : q ≠ p) : (s.raise p f).port q = s.port q := by
  simp [State.raise, State.port_setPort_ne, h]

/-- A record pushed is the last of its ring, and the rest of the port stays (R177). -/
theorem State.port_pushRecord (s : State) (p : Port) (r : ResultRecord) :
    (s.pushRecord p r).port p = { s.port p with ring := (s.port p).ring ++ [r] } := by
  simp [State.pushRecord]

/-- Dropping the head changes the queue alone (R176). -/
theorem State.port_dropHead (s : State) (p : Port) :
    (s.dropHead p).port p = { s.port p with queue := (s.port p).queue.tail } := by
  simp [State.dropHead]

theorem State.port_dropHead_ne (s : State) (p q : Port) (h : q ≠ p) : (s.dropHead p).port q = s.port q := by
  simp [State.dropHead, State.port_setPort_ne, h]

@[simp] theorem State.dropHead_layer (s : State) (p : Port) (l : Fin 8) : (s.dropHead p).layer l = s.layer l := rfl

@[simp] theorem State.dropHead_slot (s : State) (p : Port) (i : Fin 64) : (s.dropHead p).slot i = s.slot i := rfl

@[simp] theorem State.dropHead_timer (s : State) (p : Port) (t : Fin 4) : (s.dropHead p).timer t = s.timer t := rfl

@[simp] theorem State.dropHead_monitor (s : State) (p : Port) (l : Fin 8) : (s.dropHead p).monitor l = s.monitor l := rfl

@[simp] theorem State.dropHead_sliceHolder (s : State) (p : Port) (i : Fin 32) :
    (s.dropHead p).sliceHolder i = s.sliceHolder i := rfl

@[simp] theorem State.dropHead_vin (s : State) (p : Port) : (s.dropHead p).vin = s.vin := rfl

@[simp] theorem State.dropHead_cap (s : State) (p : Port) : (s.dropHead p).cap = s.cap := rfl

/-! ### Operations that write the slots alone -/

theorem State.addRef_eq (s : State) (i : Fin 64) : s.addRef i = { s with slots := (s.addRef i).slots } := rfl

theorem State.dropRef_eq (s : State) (i : Fin 64) : s.dropRef i = { s with slots := (s.dropRef i).slots } := rfl

theorem State.setCaptureFlag_eq (s : State) (i : Fin 64) (b : Bool) :
    s.setCaptureFlag i b = { s with slots := (s.setCaptureFlag i b).slots } := rfl

theorem State.addRefs_eq (s : State) (ps : List Placement) : s.addRefs ps = { s with slots := (s.addRefs ps).slots } := by
  induction ps generalizing s with
  | nil => rfl
  | cons e rest ih =>
    have h : s.addRefs (e :: rest) = (s.addRef e.slot).addRefs rest := rfl
    rw [h, ih]
    rfl

theorem State.dropRefs_eq (s : State) (ps : List Placement) :
    s.dropRefs ps = { s with slots := (s.dropRefs ps).slots } := by
  induction ps generalizing s with
  | nil => rfl
  | cons e rest ih =>
    have h : s.dropRefs (e :: rest) = (s.dropRef e.slot).dropRefs rest := rfl
    rw [h, ih]
    rfl

/-- After references to a list of placements are added, a slot's count is higher by the placements that name it, and
the rest of its record stays (R62). -/
theorem State.slot_addRefs (s : State) (ps : List Placement) (i : Fin 64) :
    (s.addRefs ps).slot i = { s.slot i with refCount := (s.slot i).refCount + ps.countP (fun e => e.slot = i) } := by
  induction ps generalizing s with
  | nil => rfl
  | cons e rest ih =>
    have h : s.addRefs (e :: rest) = (s.addRef e.slot).addRefs rest := rfl
    rw [h, ih]
    by_cases he : e.slot = i
    · subst he
      simp [State.addRef]
      omega
    · simp [State.addRef, State.slot_setSlot_ne, Ne.symm he, he]

/-- A slot takes one lost reference for each placement of the list that names it (R62, R63). -/
theorem State.slot_dropRefs (s : State) (ps : List Placement) (i : Fin 64) :
    (s.dropRefs ps).slot i = slotLessRef^[ps.countP (fun e => e.slot = i)] (s.slot i) := by
  induction ps generalizing s with
  | nil => rfl
  | cons e rest ih =>
    have h : s.dropRefs (e :: rest) = (s.dropRef e.slot).dropRefs rest := rfl
    rw [h, ih]
    by_cases he : e.slot = i
    · subst he
      simp [State.dropRef]
    · simp [State.dropRef, State.slot_setSlot_ne, Ne.symm he, he]

/-! ### Operations that write a layer and the slots -/

theorem State.discardStaged_eq (s : State) (l : Fin 8) :
    s.discardStaged l = { s with layers := (s.discardStaged l).layers, slots := (s.discardStaged l).slots } := by
  unfold State.discardStaged
  rw [State.dropRefs_eq]
  rfl

/-- A discarded pending record is gone, and the layer keeps everything else (R3). -/
theorem State.layer_discardStaged (s : State) (l : Fin 8) :
    (s.discardStaged l).layer l = { s.layer l with staged := none } := by
  unfold State.discardStaged
  rw [State.dropRefs_eq]
  exact State.layer_setLayer _ _ _

/-- Another layer is not changed by a discard (R3). -/
theorem State.layer_discardStaged_ne (s : State) (l m : Fin 8) (h : m ≠ l) :
    (s.discardStaged l).layer m = s.layer m := by
  unfold State.discardStaged
  rw [State.dropRefs_eq]
  exact State.layer_setLayer_ne _ _ _ _ h

/-- A released layer is RELEASING with no pending record, and keeps the rest of its record (R10). -/
theorem State.layer_releaseLayer (s : State) (l : Fin 8) :
    (s.releaseLayer l).layer l = { s.layer l with binding := .releasing, staged := none } := by
  have h : ∀ t : State, (t.releaseMonitor l).layer l = t.layer l := by
    intro t
    unfold State.releaseMonitor State.dropFallback
    dsimp only
    split
    · rfl
    · split
      · rfl
      · split <;> rfl
  unfold State.releaseLayer
  simp [h, State.layer_discardStaged]

/-! ### Operations of the monitors -/

/-- A monitor's expiry writes its layer, its record and flags, and nothing else (R159). -/
theorem State.expireMonitor_eq (s : State) (l : Fin 8) : s.expireMonitor l =
    { s with
      layers := (s.expireMonitor l).layers, ports := (s.expireMonitor l).ports
      monitors := (s.expireMonitor l).monitors } := by
  unfold State.expireMonitor
  dsimp only
  generalize (s.layer l).notified = a
  generalize (s.monitor l).lockingPort = b
  cases a <;> cases b <;> rfl

/-- An expired monitor is reloaded and keeps everything else (R159). -/
theorem State.monitor_expireMonitor (s : State) (l : Fin 8) :
    (s.expireMonitor l).monitor l = { s.monitor l with remaining := (s.monitor l).period } := by
  unfold State.expireMonitor
  exact State.monitor_setMonitor _ _ _

/-- A fallback given up costs its slot at most one reference (R156). -/
theorem State.dropFallback_eq (s : State) (l : Fin 8) (old : Option (Fin 64)) :
    s.dropFallback l old = { s with slots := (s.dropFallback l old).slots } := by
  unfold State.dropFallback
  cases old with
  | none => rfl
  | some y =>
    dsimp only
    split <;> rfl

/-- A monitor of a released layer and its slot are all that its return writes (R163). -/
theorem State.releaseMonitor_eq (s : State) (l : Fin 8) : s.releaseMonitor l =
    { s with monitors := (s.releaseMonitor l).monitors, slots := (s.releaseMonitor l).slots } := by
  unfold State.releaseMonitor
  dsimp only
  split
  · rfl
  · rw [State.dropFallback_eq]
    rfl

/-! ### The video input bus (R110) -/

/-- Samples with line valid asserted go to the front of the run that the rest of the bus begins with. -/
theorem busRuns_append (line : List Half) (rest : List BusSample) :
    busRuns (line.map (BusSample.mk true) ++ rest) = (line ++ (busRuns rest).1, (busRuns rest).2) := by
  induction line with
  | nil => rfl
  | cons a line ih => simp [busRuns, ih]

/-! ### Operations of the Capture Unit -/

/-- `t` differs from `s` in the Capture Unit, the slots and the ports alone. -/
def OnlyCapture (s t : State) : Prop := t = { s with cap := t.cap, slots := t.slots, ports := t.ports }

theorem OnlyCapture.refl (s : State) : OnlyCapture s s := rfl

theorem OnlyCapture.trans {s t u : State} (h : OnlyCapture s t) (k : OnlyCapture t u) : OnlyCapture s u := by
  cases s; cases t; cases u
  simp_all [OnlyCapture]

/-- What each step of a fold leaves alone, the fold leaves alone. -/
theorem OnlyCapture.foldl {α : Type} (f : State → α → State) (h : ∀ s a, OnlyCapture s (f s a)) (as : List α)
    (s : State) : OnlyCapture s (as.foldl f s) := by
  induction as generalizing s with
  | nil => exact OnlyCapture.refl s
  | cons a rest ih => exact (h s a).trans (ih (f s a))

theorem State.setCap_only (s : State) (c : CaptureUnit) : OnlyCapture s (s.setCap c) := rfl

/-- A request's end writes its slot's flag and its requester's report and flag (R134, R139, R140). -/
theorem State.endRequest_only (s : State) (r : CaptureRequest) (o : Option OutcomeCode) :
    OnlyCapture s (s.endRequest r o) := by
  cases o <;> rfl

/-- One request's end, at any port and slot: the records are those that `told` and `unnamed` say. -/
theorem State.endRequest_told (s : State) (r : CaptureRequest) (o : OutcomeCode) (h : o ≠ .ok) :
    (∀ q, (s.endRequest r (some o)).port q = (s.port q).told q [r] o)
      ∧ (∀ i, (s.endRequest r (some o)).slot i = (s.slot i).unnamed i [r])
      ∧ (s.endRequest r (some o)).cap = s.cap := by
  refine ⟨fun q => ?_, fun i => ?_, rfl⟩
  · by_cases hq : r.requester = q
    · subst hq
      simp [State.endRequest, State.pushReport, State.setCaptureFlag, PortState.told, State.port_raise, h, flagBit]
    · simp [State.endRequest, State.pushReport, State.setCaptureFlag, PortState.told, State.port_raise_ne,
        State.port_setPort_ne, Ne.symm hq, hq]
  · show ((s.setCaptureFlag r.slot false).slot i) = _
    by_cases hi : r.slot = i
    · subst hi
      simp [State.setCaptureFlag, Slot.unnamed]
    · simp [State.setCaptureFlag, Slot.unnamed, State.slot_setSlot_ne, Ne.symm hi, hi]

/-- What the ends of several requests write is what each of them writes, one after the other. -/
theorem PortState.told_cons (x : PortState) (q : Port) (r : CaptureRequest) (rs : List CaptureRequest) (o : OutcomeCode) :
    (x.told q [r] o).told q rs o = x.told q (r :: rs) o := by
  by_cases hq : r.requester = q <;> by_cases hr : (rs.filter fun r => r.requester = q) = [] <;>
    simp [PortState.told, hq, hr, BitVec.or_assoc]

theorem Slot.unnamed_cons (x : Slot) (i : Fin 64) (r : CaptureRequest) (rs : List CaptureRequest) :
    (x.unnamed i [r]).unnamed i rs = x.unnamed i (r :: rs) := by
  by_cases hi : r.slot = i <;> by_cases hr : ∃ r ∈ rs, r.slot = i <;> simp [Slot.unnamed, hi, hr]

/-- Requests that end one after the other (R134, R136). -/
theorem State.endRequests_told (rs : List CaptureRequest) (o : OutcomeCode) (h : o ≠ .ok) (s : State) :
    (∀ q, (rs.foldl (fun s r => s.endRequest r (some o)) s).port q = (s.port q).told q rs o)
      ∧ (∀ i, (rs.foldl (fun s r => s.endRequest r (some o)) s).slot i = (s.slot i).unnamed i rs)
      ∧ (rs.foldl (fun s r => s.endRequest r (some o)) s).cap = s.cap := by
  induction rs generalizing s with
  | nil => simp [PortState.told, Slot.unnamed]
  | cons r rest ih =>
    obtain ⟨hp, hs, hc⟩ := State.endRequest_told s r o h
    obtain ⟨kp, ks, kc⟩ := ih (s.endRequest r (some o))
    refine ⟨fun q => ?_, fun i => ?_, kc.trans hc⟩
    · rw [List.foldl_cons, kp, hp, PortState.told_cons]
    · rw [List.foldl_cons, ks, hs, Slot.unnamed_cons]

theorem State.abortActive_only (s : State) (o : Option OutcomeCode) : OnlyCapture s (s.abortActive o) := by
  unfold State.abortActive
  cases s.cap.active with
  | none => exact OnlyCapture.refl s
  | some r => exact (State.setCap_only s _).trans (State.endRequest_only _ r o)

/-- Considering the queued requests writes the Capture Unit, and for those that no longer fit their slots and ports
(R129). -/
theorem activateFrom_only (atMark : Bool) (rs : List CaptureRequest) (s : State) :
    OnlyCapture s (activateFrom atMark rs s) := by
  induction rs generalizing s with
  | nil => exact State.setCap_only s _
  | cons r rest ih =>
    unfold activateFrom
    split
    · exact State.setCap_only s _
    · exact ((State.setCap_only s _).trans (State.endRequest_only _ r _)).trans (ih _)

/-- Considering a queue (R129): the requests `dead` before the first that fits end BAD_ARG, and that one begins. -/
theorem activateFrom_told (atMark : Bool) (dead rest : List CaptureRequest) (s : State)
    (hd : ∀ d ∈ dead, d.crop.fits s.vin = false) (hr : ∀ b ∈ rest.head?, b.crop.fits s.vin = true) :
    (∀ q, (activateFrom atMark (dead ++ rest) s).port q = (s.port q).told q dead .badArg)
      ∧ (∀ i, (activateFrom atMark (dead ++ rest) s).slot i = (s.slot i).unnamed i dead)
      ∧ (activateFrom atMark (dead ++ rest) s).cap = match rest with
        | [] => { s.cap with queue := [] }
        | b :: behind => startRequest s.cap s.vin.settle atMark b behind := by
  induction dead generalizing s with
  | nil =>
    cases rest with
    | nil => simp [activateFrom, PortState.told, Slot.unnamed]
    | cons b behind => simp [activateFrom, PortState.told, Slot.unnamed, hr b (by simp)]
  | cons d dead ih =>
    have hu : (activateFrom atMark (d :: dead ++ rest) s)
        = activateFrom atMark (dead ++ rest) ((s.setCap { s.cap with queue := dead ++ rest }).endRequest d (some .badArg)) := by
      simp [activateFrom, hd d (by simp)]
    obtain ⟨hp, hs, hc⟩ := State.endRequest_told (s.setCap { s.cap with queue := dead ++ rest }) d .badArg (by decide)
    obtain ⟨kp, ks, kc⟩ := ih ((s.setCap { s.cap with queue := dead ++ rest }).endRequest d (some .badArg))
      (fun x hx => hd x (by simp [hx])) hr
    rw [hu]
    refine ⟨fun q => ?_, fun i => ?_, ?_⟩
    · rw [kp, hp, PortState.told_cons]; rfl
    · rw [ks, hs, Slot.unnamed_cons]; rfl
    · rw [kc, hc]
      cases rest with
      | nil => rfl
      | cons b behind =>
        show startRequest { s.cap with queue := dead ++ b :: behind } s.vin.settle atMark b behind = _
        simp [startRequest]

theorem State.activate_only (s : State) (atMark : Bool) : OnlyCapture s (s.activate atMark) := by
  unfold State.activate
  split
  · exact activateFrom_only atMark _ s
  · exact OnlyCapture.refl s

theorem State.acceptRequest_only (s : State) (r : CaptureRequest) (atMark : Bool) :
    OnlyCapture s (s.acceptRequest r atMark) :=
  OnlyCapture.trans (t := (s.setCap { s.cap with queue := s.cap.queue ++ [r] }).setCaptureFlag r.slot true) rfl
    (State.activate_only _ atMark)

theorem State.abortAll_only (s : State) (o : OutcomeCode) : OnlyCapture s (s.abortAll o) :=
  ((State.abortActive_only s _).trans (State.setCap_only _ _)).trans
    (OnlyCapture.foldl _ (fun t r => State.endRequest_only t r _) _ _)

theorem State.abortOf_only (s : State) (p : Port) : OnlyCapture s (s.abortOf p) := by
  unfold State.abortOf
  refine OnlyCapture.trans ?_ (OnlyCapture.foldl _ (fun t r => State.endRequest_only t r _) _ _)
  refine OnlyCapture.trans ?_ (State.setCap_only _ _)
  cases s.cap.active with
  | none => exact OnlyCapture.refl s
  | some r =>
    dsimp only
    split
    · exact State.abortActive_only s _
    · exact OnlyCapture.refl s

/-- A move of the lock state writes the input, the Capture Unit, the slots and the ports alone, and of the input the
lock state alone (R112, R114, R135). -/
theorem State.moveLock_eq (s : State) (st : LockState) : s.moveLock st =
    { s with
      vin := { s.vin with lock := st }, cap := (s.moveLock st).cap, slots := (s.moveLock st).slots
      ports := (s.moveLock st).ports } := by
  unfold State.moveLock
  split
  · rename_i h
    cases s; subst h; rfl
  · dsimp only
    split
    · have h := State.abortActive_only ((s.setVin { s.vin with lock := st }).raiseAll .vinChange) (some .noInput)
      exact Eq.trans h rfl
    · rfl

/-! ### The executor -/

/-- Everything that taking a command can do (R177, R170, R169): nothing while its turn has not come; else the block's
operation, on the queue's rest when the frame came from the queue. -/
theorem takeCommand_cases (p : Port) (f : Frame) (op : CommandOp) (s : State) :
    (grant s p f = .waits ∧ takeCommand p f op s = s)
      ∨ (grant s p f = .queue ∧ (s.port p).rpt.state = .capturing
        ∧ takeCommand p f op s = runCapturing (s.dropHead p) p f op)
      ∨ (grant s p f = .queue ∧ (s.port p).rpt.state ≠ .capturing
        ∧ takeCommand p f op s = runPlain (s.dropHead p) p f op)
      ∨ (grant s p f = .cache ∧ takeCommand p f op s = runReplayed s p f op) := by
  unfold takeCommand
  have hd : ((s.dropHead p).port p).rpt = (s.port p).rpt := by rw [State.port_dropHead]
  cases hg : grant s p f with
  | waits => exact .inl ⟨rfl, rfl⟩
  | cache => exact .inr (.inr (.inr ⟨rfl, rfl⟩))
  | queue =>
    dsimp only
    rw [hd]
    cases hr : (s.port p).rpt.state with
    | capturing => exact .inr (.inl ⟨rfl, rfl, rfl⟩)
    | none => exact .inr (.inr (.inl ⟨rfl, by simp, rfl⟩))
    | replaying => exact .inr (.inr (.inl ⟨rfl, by simp, rfl⟩))

/-- A port that takes a frame from its queue's head outside a block runs it and answers it (R177). -/
theorem takeCommand_of_takes (p : Port) (f : Frame) (op : CommandOp) (s : State) (h : Takes s p f) :
    takeCommand p f op s = runPlain (s.dropHead p) p f op := by
  obtain ⟨hp, hn, hr, hq⟩ := h
  have hg : grant s p f = .queue := by
    unfold grant
    simp [hp, hn, hq, hr]
  rcases takeCommand_cases p f op s with ⟨h1, _⟩ | ⟨_, h2, _⟩ | ⟨_, _, h3⟩ | ⟨h4, _⟩
  · simp [hg] at h1
  · simp [hn] at h2
  · exact h3
  · simp [hg] at h4

/-- A refused command outside a block leaves the part as it was but for its record (R177). -/
theorem takeCommand_refused (p : Port) (f : Frame) (op : CommandOp) (s : State) (o : OutcomeCode) (h : Takes s p f)
    (hop : op (s.dropHead p) = (s.dropHead p, refuse o)) : takeCommand p f op s = s.answered p f o 0 [] := by
  rw [takeCommand_of_takes p f op s h]
  simp [runPlain, hop, refuse, State.answered, recordOf]

/-- An answered command outside a block leaves the block's state and its record (R177). -/
theorem takeCommand_answered (p : Port) (f : Frame) (op : CommandOp) (s t : State) (o : OutcomeCode) (v : Nat)
    (x : List Byte) (h : Takes s p f) (hop : op (s.dropHead p) = (t, { outcome := o, value := v, extra := x })) :
    takeCommand p f op s = t.pushRecord p ⟨f.tag, f.code, o, v, x⟩ := by
  rw [takeCommand_of_takes p f op s h]
  simp [runPlain, hop, recordOf]

end Sys2Proof.Machine
end

