-- ==== Sys2Proof/Laws/PerInstr.lean ====
section
/-! SUPPORT. One lemma per row: the frame that a command row carries is one that the executor knows, with the code and
the operand count of section 11.9 (R175, R177), so no well-formed command row is answered as an unknown frame; and the
frame of an UNKNOWN_COMMAND is not. -/

namespace Sys2Proof.Laws

open Sys2Proof.Machine

/-- The row's frame, if it has one, is known to the executor exactly when the row is not UNKNOWN_COMMAND (R177). -/
def FrameLayout.Statement (i : Instr) : Prop :=
  ∀ p f op, commandOf i = some (p, f, op) → i.wellFormed = true →
    (f.known = true ↔ ∀ q tag code operands, i ≠ .unknownCommand q tag code operands)

/-- A row whose frame is known. -/
theorem FrameLayout.of_known {i : Instr} {q : Port} {g : Frame} {o : CommandOp} (h : commandOf i = some (q, g, o))
    (hk : g.known = true) (hi : ∀ q tag code operands, i ≠ .unknownCommand q tag code operands) :
    FrameLayout.Statement i := by
  intro p f op hc _
  rw [h] at hc
  cases hc
  exact ⟨fun _ => hi, fun _ => hk⟩

/-- A row that takes no command. -/
theorem FrameLayout.of_none {i : Instr} (h : commandOf i = none) : FrameLayout.Statement i := by
  intro p f op hc
  rw [h] at hc
  cases hc

theorem FrameLayout.cmd (port : Port) (len : Byte) (payload : List Byte) :
    FrameLayout.Statement (.cmd port len payload) := FrameLayout.of_none rfl

theorem FrameLayout.res (port : Port) :
    FrameLayout.Statement (.res port) := FrameLayout.of_none rfl

theorem FrameLayout.caprep (port : Port) :
    FrameLayout.Statement (.caprep port) := FrameLayout.of_none rfl

theorem FrameLayout.evt (port : Port) (byteTimes : Nat) :
    FrameLayout.Statement (.evt port byteTimes) := FrameLayout.of_none rfl

theorem FrameLayout.ack (port : Port) (flags : Half) :
    FrameLayout.Statement (.ack port flags) := FrameLayout.of_none rfl

theorem FrameLayout.mask (port : Port) (newMask : Half) :
    FrameLayout.Statement (.mask port newMask) := FrameLayout.of_none rfl

theorem FrameLayout.stat (port : Port) (byteTimes : Nat) :
    FrameLayout.Statement (.stat port byteTimes) := FrameLayout.of_none rfl

theorem FrameLayout.prst (port : Port) :
    FrameLayout.Statement (.prst port) := FrameLayout.of_none rfl

theorem FrameLayout.invalidTransaction (port : Port) (bytes : List Byte) :
    FrameLayout.Statement (.invalidTransaction port bytes) := FrameLayout.of_none rfl

theorem FrameLayout.unknownCommand (port : Port) (tag code : Byte) (operands : List Byte) :
    FrameLayout.Statement (.unknownCommand port tag code operands) := by
  intro p f op h hw
  have hk : (Frame.mk tag code operands).known = false := by
    simp only [Instr.wellFormed, Bool.and_eq_true, Bool.not_eq_true'] at hw
    exact hw.1
  simp only [commandOf, hk, Bool.false_eq_true, if_false, Option.some.injEq, Prod.mk.injEq] at h
  obtain ⟨_, rfl, _⟩ := h
  simp only [hk, Bool.false_eq_true, false_iff]
  exact fun hi => hi _ _ _ _ rfl

theorem FrameLayout.lyrClaim (port : Port) (tag l : Byte) :
    FrameLayout.Statement (.lyrClaim port tag l) := FrameLayout.of_known rfl rfl (by simp)

theorem FrameLayout.lyrRelease (port : Port) (tag l : Byte) :
    FrameLayout.Statement (.lyrRelease port tag l) := FrameLayout.of_known rfl rfl (by simp)

theorem FrameLayout.lyrBegin (port : Port) (tag l mode : Byte) :
    FrameLayout.Statement (.lyrBegin port tag l mode) := FrameLayout.of_known rfl rfl (by simp)

theorem FrameLayout.lyrAttr (port : Port) (tag l visible target step : Byte) (ox oy : Half) (source : Byte) (x0 y0 x1 y1 : Half) :
    FrameLayout.Statement (.lyrAttr port tag l visible target step ox oy source x0 y0 x1 y1) := FrameLayout.of_known rfl rfl (by simp)

theorem FrameLayout.lyrCommit (port : Port) (tag mask : Byte) :
    FrameLayout.Statement (.lyrCommit port tag mask) := FrameLayout.of_known rfl rfl (by simp)

theorem FrameLayout.lyrZ (port : Port) (tag l index : Byte) :
    FrameLayout.Statement (.lyrZ port tag l index) := FrameLayout.of_known rfl rfl (by simp)

theorem FrameLayout.backdrop (port : Port) (tag y cb cr : Byte) :
    FrameLayout.Statement (.backdrop port tag y cb cr) := FrameLayout.of_known rfl rfl (by simp)

theorem FrameLayout.plcAdd (port : Port) (tag l slot : Byte) (x y : Half) :
    FrameLayout.Statement (.plcAdd port tag l slot x y) := FrameLayout.of_known rfl rfl (by simp)

theorem FrameLayout.plcCursor (port : Port) (tag l k : Byte) :
    FrameLayout.Statement (.plcCursor port tag l k) := FrameLayout.of_known rfl rfl (by simp)

theorem FrameLayout.curSet (port : Port) (tag k : Byte) (x y dx dy : Half) (columns slot step : Byte) :
    FrameLayout.Statement (.curSet port tag k x y dx dy columns slot step) := FrameLayout.of_known rfl rfl (by simp)

theorem FrameLayout.clipPush (port : Port) (tag : Byte) (x0 y0 x1 y1 : Half) :
    FrameLayout.Statement (.clipPush port tag x0 y0 x1 y1) := FrameLayout.of_known rfl rfl (by simp)

theorem FrameLayout.clipPop (port : Port) (tag : Byte) :
    FrameLayout.Statement (.clipPop port tag) := FrameLayout.of_known rfl rfl (by simp)

theorem FrameLayout.palWindow (port : Port) (tag w slice : Byte) :
    FrameLayout.Statement (.palWindow port tag w slice) := FrameLayout.of_known rfl rfl (by simp)

theorem FrameLayout.sltClaim (port : Port) (tag : Byte) :
    FrameLayout.Statement (.sltClaim port tag) := FrameLayout.of_known rfl rfl (by simp)

theorem FrameLayout.sltClaimAt (port : Port) (tag slot : Byte) :
    FrameLayout.Statement (.sltClaimAt port tag slot) := FrameLayout.of_known rfl rfl (by simp)

theorem FrameLayout.sltRelease (port : Port) (tag slot : Byte) :
    FrameLayout.Statement (.sltRelease port tag slot) := FrameLayout.of_known rfl rfl (by simp)

theorem FrameLayout.sltOpen (port : Port) (tag slot format : Byte) (width height : Half) :
    FrameLayout.Statement (.sltOpen port tag slot format width height) := FrameLayout.of_known rfl rfl (by simp)

theorem FrameLayout.sltData (port : Port) (tag slot : Byte) (data : List Byte) :
    FrameLayout.Statement (.sltData port tag slot data) := by
  intro p f op h hw
  simp only [commandOf, Option.some.injEq, Prod.mk.injEq] at h
  obtain ⟨_, rfl, _⟩ := h
  have hd : data.length ≤ Config.dataMax := by simpa [Instr.wellFormed] using hw
  refine ⟨fun _ _ _ _ _ => by simp, fun _ => ?_⟩
  simp [frameSltData, Frame.known]
  omega

theorem FrameLayout.sltFill (port : Port) (tag slot y cb cr : Byte) (count : Half) :
    FrameLayout.Statement (.sltFill port tag slot y cb cr count) := FrameLayout.of_known rfl rfl (by simp)

theorem FrameLayout.sltClose (port : Port) (tag slot : Byte) :
    FrameLayout.Statement (.sltClose port tag slot) := FrameLayout.of_known rfl rfl (by simp)

theorem FrameLayout.sltInfo (port : Port) (tag slot : Byte) :
    FrameLayout.Statement (.sltInfo port tag slot) := FrameLayout.of_known rfl rfl (by simp)

theorem FrameLayout.palClaim (port : Port) (tag slice : Byte) :
    FrameLayout.Statement (.palClaim port tag slice) := FrameLayout.of_known rfl rfl (by simp)

theorem FrameLayout.palRelease (port : Port) (tag slice : Byte) :
    FrameLayout.Statement (.palRelease port tag slice) := FrameLayout.of_known rfl rfl (by simp)

theorem FrameLayout.palSet (port : Port) (tag n y cb cr alpha : Byte) :
    FrameLayout.Statement (.palSet port tag n y cb cr alpha) := FrameLayout.of_known rfl rfl (by simp)

theorem FrameLayout.palSetcode (port : Port) (tag c y cb cr alpha : Byte) :
    FrameLayout.Statement (.palSetcode port tag c y cb cr alpha) := FrameLayout.of_known rfl rfl (by simp)

theorem FrameLayout.vinClaim (port : Port) (tag : Byte) :
    FrameLayout.Statement (.vinClaim port tag) := FrameLayout.of_known rfl rfl (by simp)

theorem FrameLayout.vinRelease (port : Port) (tag : Byte) :
    FrameLayout.Statement (.vinRelease port tag) := FrameLayout.of_known rfl rfl (by simp)

theorem FrameLayout.vinFormat (port : Port) (tag : Byte) (w h : Half) (settle : Byte) :
    FrameLayout.Statement (.vinFormat port tag w h settle) := FrameLayout.of_known rfl rfl (by simp)

theorem FrameLayout.vinEnable (port : Port) (tag on : Byte) :
    FrameLayout.Statement (.vinEnable port tag on) := FrameLayout.of_known rfl rfl (by simp)

theorem FrameLayout.capEnable (port : Port) (tag on : Byte) :
    FrameLayout.Statement (.capEnable port tag on) := FrameLayout.of_known rfl rfl (by simp)

theorem FrameLayout.capRequest (port : Port) (tag slot : Byte) (x y w h : Half) (dx dy : Byte) :
    FrameLayout.Statement (.capRequest port tag slot x y w h dx dy) := FrameLayout.of_known rfl rfl (by simp)

theorem FrameLayout.capCancel (port : Port) (tag slot : Byte) :
    FrameLayout.Statement (.capCancel port tag slot) := FrameLayout.of_known rfl rfl (by simp)

theorem FrameLayout.tmrClaim (port : Port) (tag t : Byte) :
    FrameLayout.Statement (.tmrClaim port tag t) := FrameLayout.of_known rfl rfl (by simp)

theorem FrameLayout.tmrRelease (port : Port) (tag t : Byte) :
    FrameLayout.Statement (.tmrRelease port tag t) := FrameLayout.of_known rfl rfl (by simp)

theorem FrameLayout.tmrSetup (port : Port) (tag t source prescaler : Byte) (reload : Half) (mode action : Byte) :
    FrameLayout.Statement (.tmrSetup port tag t source prescaler reload mode action) := FrameLayout.of_known rfl rfl (by simp)

theorem FrameLayout.tmrTemplate (port : Port) (tag t : Byte) (x y w h : Half) (dx dy first count : Byte) :
    FrameLayout.Statement (.tmrTemplate port tag t x y w h dx dy first count) := FrameLayout.of_known rfl rfl (by simp)

theorem FrameLayout.tmrStart (port : Port) (tag t : Byte) :
    FrameLayout.Statement (.tmrStart port tag t) := FrameLayout.of_known rfl rfl (by simp)

theorem FrameLayout.tmrStop (port : Port) (tag t : Byte) :
    FrameLayout.Statement (.tmrStop port tag t) := FrameLayout.of_known rfl rfl (by simp)

theorem FrameLayout.tmrRead (port : Port) (tag t : Byte) :
    FrameLayout.Statement (.tmrRead port tag t) := FrameLayout.of_known rfl rfl (by simp)

theorem FrameLayout.frsSetup (port : Port) (tag l : Byte) (period : Half) (window action fallback : Byte) :
    FrameLayout.Statement (.frsSetup port tag l period window action fallback) := FrameLayout.of_known rfl rfl (by simp)

theorem FrameLayout.frsStart (port : Port) (tag l : Byte) :
    FrameLayout.Statement (.frsStart port tag l) := FrameLayout.of_known rfl rfl (by simp)

theorem FrameLayout.frsStop (port : Port) (tag l : Byte) :
    FrameLayout.Statement (.frsStop port tag l) := FrameLayout.of_known rfl rfl (by simp)

theorem FrameLayout.frsTouch (port : Port) (tag l : Byte) :
    FrameLayout.Statement (.frsTouch port tag l) := FrameLayout.of_known rfl rfl (by simp)

theorem FrameLayout.frsLock (port : Port) (tag l : Byte) :
    FrameLayout.Statement (.frsLock port tag l) := FrameLayout.of_known rfl rfl (by simp)

theorem FrameLayout.rptBlock (port : Port) (tag n k : Byte) :
    FrameLayout.Statement (.rptBlock port tag n k) := FrameLayout.of_known rfl rfl (by simp)

theorem FrameLayout.rptAgain (port : Port) (tag k : Byte) :
    FrameLayout.Statement (.rptAgain port tag k) := FrameLayout.of_known rfl rfl (by simp)

theorem FrameLayout.rptLoop (port : Port) (tag m : Byte) :
    FrameLayout.Statement (.rptLoop port tag m) := FrameLayout.of_known rfl rfl (by simp)

theorem FrameLayout.summaryRecord (port : Port) :
    FrameLayout.Statement (.summaryRecord port) := FrameLayout.of_none rfl

theorem FrameLayout.outputFrameStart (order : List FrameWork) :
    FrameLayout.Statement (.outputFrameStart order) := FrameLayout.of_none rfl

theorem FrameLayout.silenceLimit :
    FrameLayout.Statement .silenceLimit := FrameLayout.of_none rfl

theorem FrameLayout.monitorExpiry (layer : Fin 8) :
    FrameLayout.Statement (.monitorExpiry layer) := FrameLayout.of_none rfl

theorem FrameLayout.timerExpiry (timer : Fin 4) :
    FrameLayout.Statement (.timerExpiry timer) := FrameLayout.of_none rfl

theorem FrameLayout.captureTakeover :
    FrameLayout.Statement .captureTakeover := FrameLayout.of_none rfl

theorem FrameLayout.capActivate :
    FrameLayout.Statement .capActivate := FrameLayout.of_none rfl

theorem FrameLayout.firstFrameMark :
    FrameLayout.Statement .firstFrameMark := FrameLayout.of_none rfl

theorem FrameLayout.inputFrameEnd (bus : List BusSample) (order : List MarkWork) :
    FrameLayout.Statement (.inputFrameEnd bus order) := FrameLayout.of_none rfl

theorem FrameLayout.resetAsserted :
    FrameLayout.Statement .resetAsserted := FrameLayout.of_none rfl

theorem FrameLayout.resetReleased :
    FrameLayout.Statement .resetReleased := FrameLayout.of_none rfl

theorem FrameLayout.selectAsserted (port : Port) (kind : Option Byte) :
    FrameLayout.Statement (.selectAsserted port kind) := FrameLayout.of_none rfl

end Sys2Proof.Laws
end

