-- ==== Sys2Proof/Tests/Slice0.lean ====
section
/-! SUPPORT. The model's own tests: the checks of WellFormed on ill-formed terms; one step of each row, with results
taken from the worked cases and the rules of spec/; and a state and operands that meet the hypotheses of each
statement. -/

namespace Sys2Proof.Tests

open Sys2Proof.Machine

set_option Elab.async false

/-! ### Small states -/

/-- The state after one row; every row answers a next state. -/
def after (c : Instr) (s : State) : State :=
  match exec c s with
  | .next t => t
  | .fault _ | .refused _ => s

/-- The records that CL0's ring holds after one row. -/
def ringAfter (c : Instr) (s : State) : List ResultRecord := ((after c s).port .cl0).ring

/-- CL0's queue holds one frame. -/
def withFrame (f : Frame) (s : State) : State := s.setPort .cl0 { s.port .cl0 with queue := [f] }

/-- A layer held by CL0. -/
def held (l : Fin 8) (staged : Option PendingRecord) (s : State) : State :=
  s.setLayer l { Layer.reset with binding := .bound, owner := some .cl0, staged := staged }

/-- An empty pending record, not committed. -/
def blank : PendingRecord := ⟨Attributes.reset, [], false, false⟩

/-- A placement at the layer's origin. -/
def entryOf (index : Fin 128) (slot : Fin 64) : Placement := ⟨index, slot, 0, 0, none, 0, 1⟩

/-- A slot of CL0. -/
def slotOfCl0 (state : SlotState) (format : Format) (width height writePos : Nat) (pixels : List Pixel) : Slot :=
  ⟨state, some .cl0, format, width, height, writePos, 0, false, false, pixels⟩

/-- The trailer input held by CL0, with a format and a lock state. -/
def inputOf (width height : Nat) (lock : LockState) : TrailerInput :=
  { TrailerInput.reset with
    holder := some .cl0, width := width, height := height, captureEnabled := true, lock := lock
    goodCount := if lock = .locked then 3 else 0 }

/-- A whole-frame request of CL0 for slot 30 with decimation 6, tag 11. -/
def request30 : CaptureRequest := ⟨.cl0, 11, 30, ⟨0, 0, 720, 420, 6, 6⟩, .command⟩

/-- The state with slot 30 held by CL0, flagged for `request30`. -/
def flagged (s : State) : State := s.setSlot 30 { slotOfCl0 .empty .direct 0 0 0 [] with captureFlag := true }

/-! ### WellFormed refuses ill-formed terms -/

theorem test_wellFormed_evt_zero : (Instr.evt .cl0 0).wellFormed = false := by decide
theorem test_wellFormed_evt_six : (Instr.evt .cl0 6).wellFormed = false := by decide
theorem test_wellFormed_stat_zero : (Instr.stat .cl0 0).wellFormed = false := by decide
theorem test_wellFormed_stat_seven : (Instr.stat .cl0 7).wellFormed = false := by decide
theorem test_wellFormed_valid_prst : (Instr.invalidTransaction .cl0 [0x0A]).wellFormed = false := by decide
theorem test_wellFormed_valid_ack : (Instr.invalidTransaction .cl0 [0x05, 0, 0]).wellFormed = false := by decide
theorem test_wellFormed_cmd_bytes : (Instr.invalidTransaction .cl0 [0x01, 2, 0, 0]).wellFormed = false := by decide
theorem test_wellFormed_unused_kind : (Instr.invalidTransaction .cl0 [0x08]).wellFormed = true := by decide
theorem test_wellFormed_known_frame : (Instr.unknownCommand .cl0 1 0x24 []).wellFormed = false := by decide
theorem test_wellFormed_wrong_length : (Instr.unknownCommand .cl0 1 0x24 [0]).wellFormed = true := by decide
theorem test_wellFormed_long_operands :
    (Instr.unknownCommand .cl0 1 0x99 (List.replicate 254 0)).wellFormed = false := by decide +kernel
theorem test_wellFormed_long_data : (Instr.sltData .cl0 1 0 (List.replicate 253 0)).wellFormed = false := by
  decide +kernel

/-! ### Frames, byte layouts and numbers (sections 11.7 and 11.9) -/

theorem test_frame_plcAdd : framePlcAdd 9 4 40 (-1) 258 = ⟨9, 0x20, [4, 40, 0xFF, 0xFF, 0x01, 0x02]⟩ := by decide
theorem test_frame_tmrSetup : frameTmrSetup 1 2 0 4 2 0 1 = ⟨1, 0x62, [2, 0, 4, 0, 2, 0, 1]⟩ := by decide
theorem test_no_word_spells_a_command : decodeTableWord 8 0x24 = none := rfl
theorem test_bits_most_significant_first :
    byteBits 0xB1 = [true, false, true, true, false, false, false, true] := by decide
theorem test_resolve_code_9_under_3_6 : resolveCode 3 6 9 = 49 := by decide
theorem test_resolve_code_2_under_3_6 : resolveCode 3 6 2 = 26 := by decide
theorem test_threshold_of_8_and_2 : touchThreshold 2 8 = 4 := by decide
theorem test_threshold_at_least_1 : touchThreshold 1 1 = 1 := by decide
theorem test_fade_from_12_by_6 : opacityStep 16 6 12 = 16 := by decide
theorem test_fade_from_1_by_5 : opacityStep 0 5 1 = 0 := by decide

/-! ### Composition (sections 5.9 to 5.12) and decimation (section 7.4) -/

theorem test_alpha_vanishes_at_7 : effectiveAlpha 1 7 = 0 := by decide
theorem test_alpha_15_at_16 : effectiveAlpha 15 16 = 15 := by decide
theorem test_blend_of_L2 : blend 12 ⟨180, 100, 150⟩ ⟨16, 128, 128⟩ = ⟨139, 107, 145⟩ := by decide
theorem test_blend_of_L5 : blend 8 ⟨235, 128, 128⟩ ⟨139, 107, 145⟩ = ⟨187, 118, 137⟩ := by decide

/-- A visible BOUND layer in the view, its list drawn at an opacity. -/
def drawn (current : Nat) (live : List Placement) : LayerView :=
  ⟨.bound, some .cl0, { Attributes.reset with visible := true }, current, live, .none, none⟩

/-- The view of section 5.9, its images cut down to the one pixel that covers (500, 300). -/
def twoLayers : View where
  zOrder := [0, 2, 1, 3, 5, 4, 6, 7]
  backdrop := ⟨16, 128, 128⟩
  layers := ((Vector.replicate 8 (layerView State.reset 0)).set 2
    (drawn 12 [⟨0, 1, 500, 300, none, 0, 1⟩])).set 5 (drawn 16 [⟨1, 12, 500, 300, none, 3, 6⟩])
  images := ((Vector.replicate 64 none).set 1 (some ⟨.direct, 1, 1, [.direct ⟨180, 100, 150⟩]⟩)).set 12
    (some ⟨.indexed, 1, 1, [.indexed 9]⟩)
  palette := (Vector.replicate 256 PaletteEntry.reset).set 49 ⟨⟨235, 128, 128⟩, 8⟩
  shown := none

theorem test_two_layers_at_one_pixel : composePixel twoLayers 500 300 = ⟨187, 118, 137⟩ := by decide +kernel
theorem test_backdrop_beside_them : composePixel twoLayers 501 300 = ⟨16, 128, 128⟩ := by decide +kernel
theorem test_view_holds_the_owner :
    ((takeView (State.reset.setLayer 3 { Layer.reset with owner := some .cl0 })).layer 3).owner = some .cl0 := by decide +kernel
theorem test_placement_outside_its_clip :
    placementSample twoLayers 0 0 ⟨0, 1, 500, 300, some ⟨0, 0, 499, 299⟩, 0, 1⟩ 500 300 = none := by decide +kernel
theorem test_cell_average :
    cellAverage ⟨0, 0, 2, 2, 2, 2⟩ [⟨100, 120, 130⟩, ⟨101, 120, 131⟩, ⟨102, 124, 131⟩, ⟨104, 124, 131⟩]
      = ⟨102, 122, 131⟩ := by decide
theorem test_crop_too_large : (Crop.mk 0 0 960 540 2 2).fault TrailerInput.reset = some .tooLarge := by decide
theorem test_crop_accepted : (Crop.mk 0 0 960 540 8 8).fault TrailerInput.reset = none := by decide
theorem test_line_ends_on_an_even_pixel :
    lineColours [0x5064, 0x6078, 0xFF05] = [⟨80, 100, 120⟩, ⟨96, 100, 120⟩, ⟨235, 16, 128⟩] := by decide

/-! ### Layers -/

theorem test_lyrClaim : ringAfter (.lyrClaim .cl0 7 3) State.reset = [⟨7, 0x10, .ok, 3, []⟩] := by decide +kernel
theorem test_lyrClaim_taken :
    ringAfter (.lyrClaim .cl0 7 3) (held 3 none State.reset) = [⟨7, 0x10, .taken, 0, []⟩] := by decide +kernel
theorem test_lyrRelease :
    ((after (.lyrRelease .cl0 1 3) (held 3 (some blank) State.reset)).layer 3).binding = .releasing := by decide +kernel

/-- The scene of section 1.12 before its sequence. -/
def tearFree (staged : Option PendingRecord) : State :=
  ((held 3 staged State.reset).setLayer 6 { Layer.reset with
    binding := .bound, owner := some .cl2
    live := [entryOf 3 20, entryOf 4 20, entryOf 5 20, entryOf 6 20, entryOf 7 20] }).setLayer 3 { Layer.reset with
      binding := .bound, owner := some .cl0, current := 0, attrs := { Attributes.reset with target := 0 }
      live := [entryOf 0 8, entryOf 1 9, entryOf 2 10], staged := staged }

theorem test_lyrBegin_copy :
    (((after (.lyrBegin .cl0 1 3 1) (tearFree none)).layer 3).stagedList.map fun e => (e.index, e.slot))
      = [(8, 8), (9, 9), (10, 10)] := by decide +kernel
theorem test_lyrBegin_committed :
    ringAfter (.lyrBegin .cl0 1 3 0) (tearFree (some { blank with committed := true })) = [⟨1, 0x12, .waitFrame, 0, []⟩] := by
  decide +kernel
theorem test_lyrAttr_clamps :
    ringAfter (.lyrAttr .cl0 1 3 1 16 17 0 0 0 0 0 959 539) (tearFree (some blank)) = [⟨1, 0x13, .okClamped, 0, []⟩] := by
  decide +kernel
theorem test_lyrAttr_second_vin :
    ringAfter (.lyrAttr .cl0 1 3 1 16 6 0 0 1 0 0 959 539)
      ((tearFree (some blank)).setLayer 5 { Layer.reset with attrs := { Attributes.reset with source := .vin } })
      = [⟨1, 0x13, .badArg, 0, []⟩] := by decide +kernel
theorem test_lyrCommit : ringAfter (.lyrCommit .cl0 1 0x08) (tearFree (some blank)) = [⟨1, 0x14, .ok, 1, []⟩] := by
  decide +kernel
theorem test_lyrCommit_not_owner :
    ringAfter (.lyrCommit .cl0 1 0x48) (tearFree (some blank)) = [⟨1, 0x14, .notOwner, 6, []⟩] := by decide +kernel
theorem test_lyrZ :
    (after (.lyrZ .cl0 1 2 5) (held 2 none State.reset)).zPending = [0, 1, 3, 4, 5, 2, 6, 7] := by decide +kernel
theorem test_backdrop :
    (after (.backdrop .cl0 1 240 15 128) State.reset).backdropPending = ⟨235, 16, 128⟩ := by decide +kernel

/-! ### Placements, cursors, clips, windows -/

theorem test_plcAdd :
    ringAfter (.plcAdd .cl0 1 3 11 390 0) ((tearFree (some blank)).setSlot 11 (slotOfCl0 .ready .direct 0 0 0 []))
      = [⟨1, 0x20, .ok, 8, [11, 0x01, 0x86, 0, 0]⟩] := by decide +kernel
theorem test_plcAdd_free_slot :
    ringAfter (.plcAdd .cl0 1 3 11 390 0) (tearFree (some blank)) = [⟨1, 0x20, .slotState, 0, []⟩] := by decide +kernel

/-- CL0 at the third placement of the grid of section 2.6. -/
def grid : State :=
  let s := (held 4 (some blank) State.reset).setSlot 24 (slotOfCl0 .ready .direct 110 100 11000 [])
  s.setPort .cl0 { PortState.reset with cursor1 := ⟨840, 100, 600, 120, 110, 3, 2, 24, 2⟩, clips := [⟨580, 80, 959, 439⟩] }

theorem test_plcCursor_wraps :
    ((after (.plcCursor .cl0 1 4 1) grid).port .cl0).cursor1 = ⟨600, 210, 600, 120, 110, 3, 0, 26, 2⟩ := by decide +kernel
theorem test_plcCursor_takes_the_clip :
    (((after (.plcCursor .cl0 1 4 1) grid).layer 4).stagedList.map fun e => (e.px, e.py, e.clip))
      = [(840, 100, some ⟨580, 80, 959, 439⟩)] := by decide +kernel
theorem test_curSet :
    ((after (.curSet .cl0 1 1 600 100 120 110 3 20 2) State.reset).port .cl0).cursor1
      = ⟨600, 100, 600, 120, 110, 3, 0, 20, 2⟩ := by decide +kernel
theorem test_curSet_clamps :
    ringAfter (.curSet .cl0 1 0 2048 100 120 110 0 64 9) State.reset = [⟨1, 0x22, .okClamped, 0, []⟩] := by decide +kernel
theorem test_clipPush :
    ringAfter (.clipPush .cl0 1 580 80 959 439) State.reset
      = [⟨1, 0x23, .ok, 1, [0x02, 0x44, 0, 80, 0x03, 0xBF, 0x01, 0xB7]⟩] := by decide +kernel
theorem test_clipPush_meets :
    ((after (.clipPush .cl0 1 (-5) 0 600 900) grid).port .cl0).clips = [⟨580, 80, 600, 439⟩, ⟨580, 80, 959, 439⟩] := by
  decide +kernel
theorem test_clipPop : ringAfter (.clipPop .cl0 1) grid = [⟨1, 0x24, .ok, 0, []⟩] := by decide +kernel
theorem test_clipPop_empty : ringAfter (.clipPop .cl0 1) State.reset = [⟨1, 0x24, .clipEmpty, 0, []⟩] := by decide +kernel
theorem test_palWindow : ringAfter (.palWindow .cl0 1 1 6) State.reset = [⟨1, 0x25, .ok, 6, [0, 6]⟩] := by decide +kernel
theorem test_palWindow_slice_32 : ringAfter (.palWindow .cl0 1 0 32) State.reset = [⟨1, 0x25, .badArg, 0, []⟩] := by
  decide +kernel

/-! ### Slots -/

/-- Slot 5 of section 3.9, in a state of its sequence, at a small size. -/
def slot5 (state : SlotState) (writePos : Nat) : State :=
  State.reset.setSlot 5 (slotOfCl0 state .direct 2 1 writePos (List.replicate writePos (.direct ⟨16, 128, 128⟩)))

theorem test_sltClaim_lowest :
    ringAfter (.sltClaim .cl0 1) (State.reset.setSlot 0 (slotOfCl0 .empty .direct 0 0 0 [])) = [⟨1, 0x30, .ok, 1, []⟩] := by
  decide +kernel
theorem test_sltClaimAt : ((after (.sltClaimAt .cl0 1 26) State.reset).slot 26).state = .empty := by decide +kernel
theorem test_sltRelease_in_use :
    ringAfter (.sltRelease .cl0 1 5) ((slot5 .ready 2).setSlot 5 { (slot5 .ready 2).slot 5 with refCount := 1 })
      = [⟨1, 0x32, .inUse, 1, []⟩] := by decide +kernel
theorem test_sltRelease_keeps_pixels :
    (after (.sltRelease .cl0 1 5) (slot5 .ready 2)).slot 5
      = Slot.freed [.direct ⟨16, 128, 128⟩, .direct ⟨16, 128, 128⟩] := by decide +kernel
theorem test_sltOpen_of_a_ready_slot :
    ringAfter (.sltOpen .cl0 1 5 0 120 90) (slot5 .ready 2) = [⟨1, 0x33, .ok, 10800, []⟩] := by decide +kernel
theorem test_sltOpen_opens_at_the_frame :
    ((after (.sltOpen .cl0 1 5 0 120 90) (slot5 .ready 2)).slot 5).state = .opening := by decide +kernel
theorem test_sltData_waits : ringAfter (.sltData .cl0 1 5 [1, 2, 3]) (slot5 .opening 0) = [⟨1, 0x34, .waitFrame, 0, []⟩] := by
  decide +kernel
theorem test_sltData_clamps :
    ((after (.sltData .cl0 1 5 [15, 128, 241]) (slot5 .opened 0)).slot 5).pixels = [.direct ⟨16, 128, 240⟩] := by
  decide +kernel
theorem test_sltFill_truncates :
    ringAfter (.sltFill .cl0 1 5 16 128 128 11000) (slot5 .opened 1) = [⟨1, 0x35, .okTruncated, 2, [0, 1]⟩] := by
  decide +kernel
theorem test_sltClose : ((after (.sltClose .cl0 1 5) (slot5 .opened 2)).slot 5).state = .ready := by decide +kernel
theorem test_sltClose_short : ringAfter (.sltClose .cl0 1 5) (slot5 .opened 1) = [⟨1, 0x36, .short, 1, []⟩] := by
  decide +kernel
theorem test_sltInfo :
    ringAfter (.sltInfo .cl0 1 5) (slot5 .opened 1) = [⟨1, 0x37, .ok, 0, [3, 0, 0, 2, 0, 1, 0, 1]⟩] := by decide +kernel
theorem test_indexed_high_half_first :
    (indexedPixels [0x9C]).map (·.1) = [.indexed 9, .indexed 12] := by decide

/-! ### The palette (section 4.9, with CL0 for CL1) -/

/-- Slice 6 is CL0's, and its windows are 0 and 6. -/
def slice6 : State :=
  (State.reset.setSliceHolder 6 (some .cl0)).setPort .cl0 { PortState.reset with wp1 := 6 }

theorem test_palClaim : ringAfter (.palClaim .cl0 1 6) State.reset = [⟨1, 0x40, .ok, 6, []⟩] := by decide +kernel
theorem test_palClaim_common : ringAfter (.palClaim .cl0 1 1) State.reset = [⟨1, 0x40, .badArg, 0, []⟩] := by decide +kernel
theorem test_palRelease : (after (.palRelease .cl0 1 6) slice6).sliceHolder 6 = none := by decide +kernel
theorem test_palSet_not_owner : ringAfter (.palSet .cl0 1 49 81 90 240 16) State.reset = [⟨1, 0x42, .notOwner, 49, []⟩] := by
  decide +kernel
theorem test_palSet_common :
    (after (.palSet .cl0 1 9 81 90 240 16) State.reset).palPending[9] = ⟨⟨81, 90, 240⟩, 16⟩ := by decide +kernel
theorem test_palSetcode :
    ringAfter (.palSetcode .cl0 1 9 240 128 128 8) slice6 = [⟨1, 0x43, .okClamped, 49, [235, 128, 128, 8]⟩] := by
  decide +kernel

/-! ### The trailer input (section 6.9, with CL0 for CL2) -/

/-- The trailer input in place of the reset one. -/
def withInput (v : TrailerInput) : State := { State.reset with vin := v }

theorem test_vinClaim :
    ringAfter (.vinClaim .cl0 1) State.reset = [⟨1, 0x50, .ok, 0, [0, 0, 0x03, 0xC0, 0x02, 0x1C, 1, 0]⟩] := by
  decide +kernel
theorem test_vinRelease :
    (after (.vinRelease .cl0 1) (withInput (inputOf 720 420 .locked))).vin
      = { TrailerInput.reset with width := 720, height := 420 } := by decide +kernel
theorem test_vinFormat_odd_width :
    ((ringAfter (.vinFormat .cl0 1 721 420 1) (withInput (inputOf 960 540 .off))).map (·.outcome),
      (after (.vinFormat .cl0 1 721 420 1) (withInput (inputOf 960 540 .off))).vin.width) = ([.okClamped], 720) := by
  decide +kernel
theorem test_vinFormat_restarts :
    let s := withInput { inputOf 720 420 .locked with receiving := some ⟨720, 420, false⟩ }
    let v := (after (.vinFormat .cl0 1 640 360 1) s).vin
    (v.lock, v.goodCount, v.receiving.map (·.stale)) = (.acquiring, 0, some true) := by decide +kernel
theorem test_vinEnable :
    (after (.vinEnable .cl0 1 1) (withInput (inputOf 720 420 .off))).vin.lock = .acquiring := by decide +kernel
theorem test_vinEnable_raises_everywhere :
    ((after (.vinEnable .cl0 1 1) (withInput (inputOf 720 420 .off))).port .cl2).hasFlag .vinChange = true := by
  decide +kernel

/-! ### Thumbnail capture (section 7.9, first request) -/

/-- A LOCKED input of 720 × 420 held by CL0, capture enabled, slot 30 EMPTY and held by CL0. -/
def locked720 : State := (withInput (inputOf 720 420 .locked)).setSlot 30 (slotOfCl0 .empty .direct 0 0 0 [])

theorem test_capEnable_off :
    ((after (.capEnable .cl0 1 0) { flagged locked720 with cap := { CaptureUnit.reset with queue := [request30] } }).port
      .cl0).reports = [⟨11, 30, .noInput, .command⟩] := by decide +kernel
theorem test_capRequest :
    ringAfter (.capRequest .cl0 11 30 0 0 720 420 6 6) locked720 = [⟨11, 0x55, .ok, 8400, [0, 120, 0, 70, 1]⟩] := by
  decide +kernel
theorem test_capRequest_active_at_once :
    (after (.capRequest .cl0 11 30 0 0 720 420 6 6) locked720).cap
      = { CaptureUnit.reset with active := some request30, phase := .settle } := by decide +kernel
theorem test_capCancel :
    ringAfter (.capCancel .cl0 3 30) { flagged locked720 with cap := { CaptureUnit.reset with queue := [request30] } }
      = [⟨3, 0x56, .ok, 30, []⟩] := by decide +kernel
theorem test_capCancel_active_recovers :
    (after (.capCancel .cl0 3 30)
      { flagged locked720 with cap := { CaptureUnit.reset with active := some request30, phase := .settle } }).cap.phase
      = .recover := by decide +kernel

/-- The Capture Unit holding a thumbnail of one pixel for `request30`. -/
def holding (c : Colour) : State :=
  { flagged locked720 with
    cap := { CaptureUnit.reset with active := some request30, phase := .held, result := .finished 1 1 [c] } }

theorem test_captureTakeover :
    (after .captureTakeover (holding ⟨102, 122, 131⟩)).slot 30
      = slotOfCl0 .ready .direct 1 1 1 [.direct ⟨102, 122, 131⟩] := by decide +kernel
theorem test_captureTakeover_reports :
    ((after .captureTakeover (holding ⟨102, 122, 131⟩)).port .cl0).reports = [⟨11, 30, .ok, .command⟩] := by decide +kernel
theorem test_capActivate_no_longer_fits :
    let s := { flagged (withInput (inputOf 640 360 .locked)) with cap := { CaptureUnit.reset with queue := [request30] } }
    ((after .capActivate s).cap, ((after .capActivate s).port .cl0).reports)
      = (CaptureUnit.reset, [⟨11, 30, .badArg, .command⟩]) := by decide +kernel

/-! ### Frame timers (section 8.9) -/

/-- Timer 2 of section 8.9, held by CL0. -/
def timer2 : FrameTimer :=
  { FrameTimer.reset with
    holder := some .cl0, prescaler := 4, reload := 2, count := 2, action := .capture
    template := some ⟨⟨0, 0, 720, 420, 6, 6⟩, 50, 3⟩ }

/-- The state of section 8.9 with timer 2 as given, its input held by CL0. -/
def strip (m : FrameTimer) : State :=
  ((withInput (inputOf 720 420 .locked)).setSlot 50 (slotOfCl0 .empty .direct 0 0 0 [])).setTimer 2 m

theorem test_tmrClaim : ringAfter (.tmrClaim .cl0 1 2) State.reset = [⟨1, 0x60, .ok, 2, []⟩] := by decide +kernel
theorem test_tmrRelease :
    (after (.tmrRelease .cl0 1 2) (strip { timer2 with running := true })).timer 2 = FrameTimer.reset := by decide +kernel
theorem test_tmrSetup :
    ((after (.tmrSetup .cl0 1 2 0 4 2 0 1) (strip { FrameTimer.reset with holder := some .cl0 })).timer 2)
      = { timer2 with template := none } := by decide +kernel
theorem test_tmrTemplate :
    ringAfter (.tmrTemplate .cl0 1 2 0 0 720 420 6 6 50 3) (strip { timer2 with template := none })
      = [⟨1, 0x63, .ok, 8400, []⟩] := by decide +kernel
theorem test_tmrTemplate_past_the_last_slot :
    ringAfter (.tmrTemplate .cl0 1 2 0 0 720 420 6 6 62 3) (strip timer2) = [⟨1, 0x63, .badArg, 0, []⟩] := by
  decide +kernel
theorem test_tmrStart : ringAfter (.tmrStart .cl0 1 2) (strip timer2) = [⟨1, 0x64, .ok, 2, []⟩] := by decide +kernel
theorem test_tmrStop_keeps_the_index :
    (after (.tmrStop .cl0 1 2) (strip { timer2 with running := true, count := 1, prescaleCount := 3, templateIndex := 1 })).timer
      2 = { timer2 with templateIndex := 1 } := by decide +kernel
theorem test_tmrRead :
    ringAfter (.tmrRead .cl1 1 2) State.reset = [] ∧
      ((after (.tmrRead .cl1 1 2) (strip { timer2 with running := true, prescaleCount := 3 })).port .cl1).ring
        = [⟨1, 0x66, .ok, 2, [0, 0x0B, 4, 3, 0, 0, 0]⟩] := by decide +kernel
theorem test_timerExpiry_accepted :
    let s := strip { timer2 with running := true, count := 1, prescaleCount := 3 }
    let t := after (.timerExpiry 2) s
    (t.timer 2, t.cap.active) = ({ timer2 with running := true, templateIndex := 1 },
      some ⟨.cl0, 0, 50, ⟨0, 0, 720, 420, 6, 6⟩, .timer 2⟩) := by decide +kernel
theorem test_timerExpiry_missed :
    let s := strip { timer2 with running := true, count := 1, prescaleCount := 3, templateIndex := 2 }
    let t := after (.timerExpiry 2) s
    ((t.timer 2).templateIndex, (t.port .cl0).hasFlag .trigMiss, (t.port .cl0).hasFlag .timer) = (2, true, true) := by
  decide +kernel

/-! ### Layer freshness (section 9.8, with CL0 for CL1) -/

/-- Layer 2 held by CL0 with its monitor as given. -/
def watched (m : Monitor) : State := (held 2 none State.reset).setMonitor 2 m

/-- The monitor of section 9.8 with a remaining count. -/
def touched (remaining : Nat) : Monitor := ⟨8, 2, .hide, none, remaining, true, false, none⟩

theorem test_frsSetup : ringAfter (.frsSetup .cl0 1 2 8 2 1 0xFF) (watched Monitor.reset) = [⟨1, 0x70, .ok, 4, []⟩] := by
  decide +kernel
theorem test_frsSetup_locked :
    ringAfter (.frsSetup .cl0 1 2 8 2 1 0xFF) (watched { touched 8 with locked := true }) = [⟨1, 0x70, .locked, 0, []⟩] := by
  decide +kernel
theorem test_frsStart : ringAfter (.frsStart .cl0 1 2) (watched { touched 8 with running := false }) = [⟨1, 0x71, .ok, 8, []⟩] := by
  decide +kernel
theorem test_frsStop_locked :
    ringAfter (.frsStop .cl0 1 2) (watched { touched 7 with locked := true }) = [⟨1, 0x72, .locked, 0, []⟩] := by
  decide +kernel
theorem test_frsStop : (after (.frsStop .cl0 1 2) (watched (touched 7))).monitor 2 = { touched 8 with running := false } := by
  decide +kernel
theorem test_frsTouch_accepted :
    ((after (.frsTouch .cl0 1 2) (watched (touched 4))).monitor 2,
      ((after (.frsTouch .cl0 1 2) (watched (touched 4))).layer 2).expired) = (touched 8, .none) := by decide +kernel
theorem test_frsTouch_early :
    let t := after (.frsTouch .cl0 1 2) (watched (touched 7))
    (t.monitor 2, (t.layer 2).expired, (t.port .cl0).hasFlag .expired) = (touched 8, .hidden, true) := by decide +kernel
theorem test_frsLock :
    (after (.frsLock .cl0 1 2) (watched (touched 7))).monitor 2 = { touched 7 with locked := true, lockingPort := some .cl0 } := by
  decide +kernel
theorem test_monitorExpiry_beats_the_waiting_commit :
    let s := (watched (touched 1)).setLayer 2
      { (watched (touched 1)).layer 2 with staged := some { blank with committed := true, clearsExpiry := true } }
    let t := after (.monitorExpiry 2) s
    (t.monitor 2, (t.layer 2).expired, (t.layer 2).staged.map (·.clearsExpiry)) = (touched 8, .hidden, some false) := by
  decide +kernel

/-! ### Repeat blocks (section 10.6, with CL0 for CL1) -/

/-- CL0 with a repeat record. -/
def withRepeat (r : RepeatRecord) : State := State.reset.setPort .cl0 { PortState.reset with rpt := r }

theorem test_rptBlock : ringAfter (.rptBlock .cl0 1 1 12) State.reset = [⟨1, 0x78, .ok, 12, []⟩] := by decide +kernel
theorem test_rptBlock_captures :
    ((after (.rptBlock .cl0 1 1 12) State.reset).port .cl0).rpt.state = .capturing := by decide +kernel
theorem test_rptAgain_no_block : ringAfter (.rptAgain .cl0 1 5) State.reset = [⟨1, 0x79, .noBlock, 0, []⟩] := by
  decide +kernel
theorem test_rptAgain_replays :
    let t := after (.rptAgain .cl0 9 5) (withRepeat { RepeatRecord.reset with cache := [⟨3, 0x21, [3, 0]⟩] })
    ((t.port .cl0).rpt.state, (t.port .cl0).rpt.passesLeft, (t.port .cl0).ring) = (.replaying, 5, []) := by decide +kernel
theorem test_rptLoop_clamps : ringAfter (.rptLoop .cl0 1 100) State.reset = [⟨1, 0x7A, .okClamped, 64, []⟩] := by
  decide +kernel
theorem test_rptLoop_zero :
    ringAfter (.rptLoop .cl0 1 0) (withRepeat { RepeatRecord.reset with loopCount := 5 }) = [⟨1, 0x7A, .badArg, 5, []⟩] := by
  decide +kernel
theorem test_stopped_replay_of_the_grid :
    ((after (.plcCursor .cl0 3 4 1) ((grid.setSlot 24 (Slot.freed [])).setPort .cl0
      { grid.port .cl0 with rpt :=
        ⟨[framePlcCursor 3 4 1], 0, .replaying, 0, 12, 5, 6, some (2, 0x78), 0, none⟩ })).port .cl0).rpt.summary
      = some ⟨2, 0x21, .stopped, 6, [0x15, 1, 3]⟩ := by decide +kernel
theorem test_summaryRecord :
    ((after (.summaryRecord .cl0) (withRepeat
      ⟨[⟨3, 0x21, [3, 0]⟩], 0, .replaying, 0, 12, 0, 11, some (2, 0x78), 0, some ⟨2, 0x78, .ok, 11, []⟩⟩)).port .cl0).ring
      = [⟨2, 0x78, .ok, 11, []⟩] := by decide +kernel
theorem test_barred_in_a_block :
    let s := withRepeat { RepeatRecord.reset with state := .capturing, commandsLeft := 2, starter := some (1, 0x78) }
    (ringAfter (.sltClaim .cl0 5) s, ((after (.sltClaim .cl0 5) s).slot 0).state) = ([⟨5, 0x30, .barred, 0, []⟩], .free) := by
  decide +kernel
theorem test_unknownCommand :
    ringAfter (.unknownCommand .cl0 4 0x99 [1]) State.reset = [⟨4, 0x99, .badArg, 0, []⟩] := by decide +kernel

/-! ### Events (sections 1.12, 6.9) -/

theorem test_outputFrameStart_applies :
    let s := tearFree (some ⟨{ Attributes.reset with visible := true, step := 6 }, [entryOf 8 11], true, true⟩)
    let t := after (.outputFrameStart []) s
    ((t.layer 3).current, (t.layer 3).live, (t.port .cl0).hasFlag .frame) = (6, [entryOf 8 11], true) := by decide +kernel
theorem test_outputFrameStart_raises_no_other_frame_flag :
    ((after (.outputFrameStart []) (tearFree (some blank))).port .cl0).hasFlag .frame = false := by decide +kernel
theorem test_silenceLimit_at_d7 :
    (after .silenceLimit (withInput { inputOf 720 420 .locked with silence := 7 })).vin
      = { inputOf 720 420 .locked with silence := 8, lock := .lost } := by decide +kernel
theorem test_silenceLimit_at_d6 :
    (after .silenceLimit (withInput { inputOf 720 420 .locked with silence := 6 })).vin.lock = .locked := by decide +kernel
theorem test_firstFrameMark :
    (after .firstFrameMark (withInput (inputOf 720 420 .acquiring))).vin
      = { inputOf 720 420 .acquiring with receiving := some ⟨720, 420, false⟩ } := by decide +kernel
theorem test_inputFrameEnd_bad :
    let v := { inputOf 720 420 .acquiring with goodCount := 1, silence := 1, receiving := some ⟨720, 420, false⟩ }
    (after (.inputFrameEnd [⟨true, 0x1080⟩, ⟨false, 0⟩] []) (withInput v)).vin = { v with goodCount := 0, silence := 0 } := by
  decide +kernel
theorem test_inputFrameEnd_good_from_lost :
    let v := { inputOf 64 32 .lost with receiving := some ⟨64, 32, false⟩ }
    let line := List.replicate 64 (BusSample.mk true 0x1080) ++ [⟨false, 0⟩]
    let w := (after (.inputFrameEnd (List.replicate 32 line).flatten []) (withInput v)).vin
    (w.lock, w.goodCount, w.ready.map fun f => (f.width, f.height)) = (.acquiring, 1, some (64, 32)) := by decide +kernel

/-! ### The pins and the links (sections 11.1, 11.6, 11.9) -/

theorem test_resetAsserted_keeps_pixels :
    (after .resetAsserted (slot5 .ready 2)).slot 5 = Slot.freed ((slot5 .ready 2).slot 5).pixels := by decide +kernel
theorem test_resetReleased : (after .resetReleased { State.reset with resetPin := true }).resetPin = false := by
  decide +kernel
theorem test_selectAsserted_fixes_the_status :
    ((after (.selectAsserted .cl0 none) (State.reset.setPort .cl0
      { PortState.reset with ring := [⟨7, 0x10, .ok, 3, []⟩], mask := 0x1FF })).port .cl0).link
      = .selected 0x40 false none := by decide +kernel
theorem test_selectAsserted_under_reset :
    ((after (.selectAsserted .cl1 none) { State.reset with resetPin := true }).port .cl1).link = .ignored := by
  decide +kernel
theorem test_cmd :
    ((after (.cmd .cl0 3 [7, 0x10, 3]) State.reset).port .cl0).queue = [⟨7, 0x10, [3]⟩] := by decide +kernel
theorem test_cmd_length_mismatch :
    let t := after (.cmd .cl0 4 [7, 0x10, 3]) State.reset
    ((t.port .cl0).queue, (t.port .cl0).hasFlag .linkErr) = ([], true) := by decide +kernel
theorem test_res :
    let t := after (.res .cl0) (State.reset.setPort .cl0
      { PortState.reset with ring := [⟨7, 0x10, .taken, 0x0102, [9]⟩], mask := 0x1FF })
    ((t.port .cl0).ring, (t.port .cl0).sdo)
      = ([], [0x40, 1, 7, 0x10, 0x12, 1, 2, 1, 9, 0, 0, 0, 0, 0, 0, 0]) := by decide +kernel
theorem test_caprep :
    ((after (.caprep .cl0) (State.reset.setPort .cl0
      { PortState.reset with reports := [⟨0, 50, .ok, .timer 2⟩] })).port .cl0).sdo = [0x20, 1, 0, 50, 0, 0x12] := by
  decide +kernel
theorem test_evt :
    ((after (.evt .cl0 5) (State.reset.setPort .cl0
      { PortState.reset with sticky := 0x100, mask := 0x100 })).port .cl0).sdo = [0, 1, 0, 1, 0] := by decide +kernel
theorem test_ack :
    ((after (.ack .cl0 0x0100) (State.reset.setPort .cl0 { PortState.reset with sticky := 0x102 })).port .cl0).sticky
      = 0x002 := by decide +kernel
theorem test_mask : ((after (.mask .cl0 0xFE03) State.reset).port .cl0).mask = 0x003 := by decide +kernel
theorem test_stat :
    ((after (.stat .cl0 6) (State.reset.setPort .cl0
      { PortState.reset with queue := [⟨7, 0x10, [3]⟩] })).port .cl0).sdo = [0x01, 1, 0, 0, 1, 0] := by decide +kernel
theorem test_prst_orphans_a_placed_slot :
    let s := slot5 .ready 2
    let x := (after (.prst .cl0) (s.setSlot 5 { s.slot 5 with refCount := 1 })).slot 5
    (x.state, x.owner, x.orphanVisible) = (.orphan, none, true) := by decide +kernel
theorem test_prst_frees_an_unplaced_slot :
    ((after (.prst .cl0) (slot5 .ready 2)).slot 5).state = .free := by decide +kernel
theorem test_invalidTransaction :
    let t := after (.invalidTransaction .cl0 [0x0A, 0]) (slot5 .ready 2)
    ((t.slot 5).state, (t.port .cl0).hasFlag .linkErr) = (.ready, true) := by decide +kernel

/-! ### States that meet the hypotheses of the statements, at boundary values of each clause -/

/-- CL0 takes frame `f`, alone in its queue, from `s`, and `h` holds then. -/
abbrev Meets (f : Frame) (s : State) (h : State → Prop) : Prop :=
  Takes (withFrame f s) .cl0 f ∧ h (withFrame f s)

/-- A list of records that leaves room for one in the ring. -/
def sevenRecords : List ResultRecord := List.replicate 7 ⟨0, 0x24, .clipEmpty, 0, []⟩

/-- CL0's ring with `n` records more than seven, one frame in its queue. -/
def ringOf (n : Nat) (f : Frame) : State :=
  State.reset.setPort .cl0 { PortState.reset with
    queue := [f], ring := sevenRecords ++ List.replicate n ⟨0, 0x24, .clipEmpty, 0, []⟩ }

/-- CL0 in a replay of two BACKDROP commands. -/
def replay (place passesLeft : Nat) (summary : Option ResultRecord) : State :=
  withRepeat ⟨[frameBackdrop 3 16 128 128, frameBackdrop 4 16 128 128], 0, .replaying, 0, 12, passesLeft, 2,
    some (2, 0x78), place, summary⟩

/-- CL0 capturing a block, one frame in its queue. -/
def capturing (left passes : Nat) (f : Frame) : State :=
  State.reset.setPort .cl0 { PortState.reset with
    queue := [f], rpt := ⟨[], 0, .capturing, left, passes, 0, 0, some (2, 0x78), 0, none⟩ }

theorem witness_StepRunsTheCommandInFront : State.reset.pending = [] := rfl

theorem witness_CommandWaitsForItsTurn :
    commandOf (.clipPop .cl0 1) = some (.cl0, frameClipPop 1, clipPop .cl0)
      ∧ { State.reset with resetPin := true }.resetPin = true
      ∧ (((ringOf 1 (frameClipPop 1)).port .cl0).rpt.state ≠ .replaying
        ∧ 8 ≤ ((ringOf 1 (frameClipPop 1)).port .cl0).ring.length)
      ∧ (((ringOf 0 (frameClipPop 2)).port .cl0).queue ≠ []
        ∧ ((ringOf 0 (frameClipPop 2)).port .cl0).queue.head? ≠ some (frameClipPop 1))
      ∧ (((replay 1 1 (some ⟨2, 0x78, .ok, 2, []⟩)).port .cl0).rpt.state = .replaying
        ∧ ((replay 1 1 (some ⟨2, 0x78, .ok, 2, []⟩)).port .cl0).rpt.summary ≠ none)
      ∧ ((replay 1 1 none).port .cl0).rpt.cache[((replay 1 1 none).port .cl0).rpt.place]? ≠ some (frameClipPop 1) :=
  ⟨rfl, by decide +kernel⟩

theorem witness_TakenCommandIsAnswered :
    (commandOf (.clipPop .cl0 1) = some (.cl0, frameClipPop 1, clipPop .cl0)
        ∧ Takes (ringOf 0 (frameClipPop 1)) .cl0 (frameClipPop 1))
      ∧ Meets (frameRptAgain 1 5) (replay 0 0 none |>.setRepeat .cl0
          { RepeatRecord.reset with cache := [frameBackdrop 3 16 128 128] })
          fun s => (rptAgain .cl0 1 5 (s.dropHead .cl0)).2.silent = true :=
  ⟨⟨rfl, by unfold Takes; decide +kernel⟩, by unfold Meets Takes; decide +kernel⟩

theorem witness_RefusedCommandChangesNothing :
    commandOf (.clipPop .cl0 1) = some (.cl0, frameClipPop 1, clipPop .cl0)
      ∧ Meets (frameClipPop 1) State.reset fun s => (clipPop .cl0 (s.dropHead .cl0)).2.outcome.success = false :=
  ⟨rfl, by unfold Meets Takes; decide +kernel⟩

theorem witness_BlockCommandRunsAndIsCachedOrIsBarred :
    commandOf (.clipPop .cl0 1) = some (.cl0, frameClipPop 1, clipPop .cl0)
      ∧ commandOf (.sltClaim .cl0 1) = some (.cl0, frameSltClaim 1, sltClaim .cl0)
      ∧ (∀ left ∈ [1, 2], ∀ passes ∈ [1, 2], let q := (capturing left passes (frameClipPop 1)).port .cl0
        q.rpt.state = .capturing ∧ q.ring.length < 8 ∧ q.queue.head? = some (frameClipPop 1)
          ∧ q.rpt.commandsLeft = left ∧ q.rpt.passCount = passes)
      ∧ ((capturing 2 1 (frameSltClaim 1)).port .cl0).queue.head? = some (frameSltClaim 1)
      ∧ (capturing 2 1 (frameSltClaim 1)).resetPin = false
      ∧ (frameClipPop 1).barred = false ∧ (frameSltClaim 1).barred = true :=
  ⟨rfl, rfl, by decide +kernel⟩

theorem witness_ReplayedCommandRunsWithoutARecord :
    commandOf (.backdrop .cl0 3 16 128 128) = some (.cl0, frameBackdrop 3 16 128 128, backdrop .cl0 16 128 128)
      ∧ commandOf (.backdrop .cl0 4 16 128 128) = some (.cl0, frameBackdrop 4 16 128 128, backdrop .cl0 16 128 128)
      ∧ commandOf (.clipPop .cl0 1) = some (.cl0, frameClipPop 1, clipPop .cl0)
      ∧ ((replay 0 2 none).port .cl0).rpt.cache[0]? = some (frameBackdrop 3 16 128 128)
      ∧ (∀ left ∈ [1, 2], let r := ((replay 1 left none).port .cl0).rpt
        r.state = .replaying ∧ r.summary = none ∧ r.cache[r.place]? = some (frameBackdrop 4 16 128 128)
          ∧ r.cache.length = r.place + 1 ∧ r.passesLeft = left)
      ∧ (backdrop .cl0 16 128 128 (replay 1 2 none)).2.outcome.success = true
      ∧ (clipPop .cl0 (replay 0 2 none)).2.outcome.success = false
      ∧ (frameBackdrop 4 16 128 128).barred = false ∧ (frameClipPop 1).barred = false :=
  ⟨rfl, rfl, rfl, by decide +kernel⟩

theorem witness_SummariesAndUnknownFramesAreAnswered :
    (((replay 0 0 (some ⟨2, 0x78, .ok, 2, []⟩)).port .cl0).rpt.summary = some ⟨2, 0x78, .ok, 2, []⟩
        ∧ ((replay 0 0 (some ⟨2, 0x78, .ok, 2, []⟩)).port .cl0).ring.length < 8)
      ∧ ((ringOf 0 (frameClipPop 1)).port .cl0).ring.length + 1 = 8
      ∧ 8 ≤ ((ringOf 1 (frameClipPop 1)).port .cl0).ring.length
      ∧ ((replay 0 1 none).port .cl0).rpt.summary = none
      ∧ (Frame.mk 1 0x99 []).known = false ∧ Meets ⟨1, 0x99, []⟩ State.reset fun _ => True := by
  unfold Meets Takes; decide +kernel

theorem witness_HoldingsAskForTheirOwner :
    (commandOf (.lyrRelease .cl0 1 8) = some (.cl0, frameLyrRelease 1 8, lyrRelease .cl0 8)
        ∧ layerOperand (.lyrRelease .cl0 1 8) = some 8 ∧ Meets (frameLyrRelease 1 8) State.reset fun _ => 8 ≤ (8 : Byte).toNat)
      ∧ (Meets (frameLyrRelease 1 7) State.reset fun s => (s.layer 7).owner ≠ some .cl0)
      ∧ (Meets (frameLyrRelease 1 7) (State.reset.setLayer 7
          { Layer.reset with binding := .releasing, owner := some .cl0 }) fun s =>
            (s.layer 7).owner = some .cl0 ∧ (s.layer 7).binding = .releasing)
      ∧ (slotOperand (.sltClose .cl0 1 64) = some 64 ∧ Meets (frameSltClose 1 64) State.reset fun _ => 64 ≤ (64 : Byte).toNat)
      ∧ (slotOperand (.sltClose .cl0 1 63) = some 63 ∧ Meets (frameSltClose 1 63) State.reset fun s =>
          (s.slot 63).owner ≠ some .cl0)
      ∧ (timerOperand (.tmrStop .cl0 1 4) = some 4 ∧ Meets (frameTmrStop 1 4) State.reset fun _ => 4 ≤ (4 : Byte).toNat)
      ∧ (timerOperand (.tmrStop .cl0 1 3) = some 3 ∧ Meets (frameTmrStop 1 3) State.reset fun s =>
          (s.timer 3).holder ≠ some .cl0)
      ∧ (asksInput (.vinRelease .cl0 1) = true ∧ Meets (frameVinRelease 1) State.reset fun s => s.vin.holder ≠ some .cl0)
      ∧ (Instr.vinRelease .cl0 1).wellFormed = true :=
  ⟨⟨rfl, by unfold Meets Takes; decide +kernel⟩, by unfold Meets Takes; decide +kernel⟩

/-- Layer 7 held by CL0 with a pending record. -/
def editing (staged : Option PendingRecord) : State := held 7 staged State.reset

/-- Layer 7 held by CL0, RELEASING. -/
def leaving : State := State.reset.setLayer 7 { Layer.reset with binding := .releasing, owner := some .cl0 }

/-- Layer 7 with a live list, another layer with `n` more pool entries. -/
def crowded (n : Nat) : State :=
  ((held 7 none State.reset).setLayer 7 { Layer.reset with
    binding := .bound, owner := some .cl0, live := [entryOf 0 8] }).setLayer 6 { Layer.reset with
      binding := .bound, owner := some .cl1, live := ((List.finRange 128).drop 1).take n |>.map (entryOf · 8) }

/-- The rank order of the layers after reset is a permutation. -/
theorem zOrders_of_reset (s : State) (h : s.zLive = zOrderReset) (k : s.zPending = zOrderReset) : ZOrdersOk s := by
  unfold ZOrdersOk; rw [h, k]; decide +kernel

theorem witness_LayerClaimTakesAnUnboundLayer :
    (Meets (frameLyrClaim 1 8) State.reset fun _ => 8 ≤ (8 : Byte).toNat)
      ∧ (Meets (frameLyrClaim 1 7) State.reset fun s => (s.layer 7).binding = .unbound)
      ∧ Meets (frameLyrClaim 1 7) leaving fun s => (s.layer 7).binding ≠ .unbound := by
  unfold Meets Takes; decide +kernel

theorem witness_LayerReleaseKeepsTheLiveRecord :
    (Meets (frameLyrRelease 1 7) (editing (some blank)) fun s => (s.layer 7).owner = some .cl0
        ∧ (s.layer 7).binding ≠ .releasing ∧ (s.monitor 7).locked = false)
      ∧ Meets (frameLyrRelease 1 7) ((editing none).setMonitor 7 { touched 1 with locked := true }) fun s =>
        (s.layer 7).owner = some .cl0 ∧ (s.layer 7).binding ≠ .releasing ∧ (s.monitor 7).locked = true := by
  unfold Meets Takes; decide +kernel

theorem witness_LayerBeginOpensARecord :
    (Meets (frameLyrBegin 1 7 1) (editing (some { blank with committed := true })) fun s =>
        (s.layer 7).owner = some .cl0 ∧ (s.layer 7).binding ≠ .releasing
          ∧ ∃ r ∈ (s.layer 7).staged, r.committed = true)
      ∧ (Meets (frameLyrBegin 1 7 2) (editing (some blank)) fun s =>
        (∀ r ∈ (s.layer 7).staged, r.committed = false) ∧ 2 ≤ (2 : Byte).toNat)
      ∧ (Meets (frameLyrBegin 1 7 0) (editing (some blank)) fun s => ∀ r ∈ (s.layer 7).staged, r.committed = false)
      ∧ (Meets (frameLyrBegin 1 7 1) (crowded 127) fun s => (∀ r ∈ (s.layer 7).staged, r.committed = false)
        ∧ s.poolFree.length + (s.layer 7).stagedList.length + 1 = (s.layer 7).live.length)
      ∧ Meets (frameLyrBegin 1 7 1) (crowded 48) fun s => (∀ r ∈ (s.layer 7).staged, r.committed = false) ∧ PoolOk s
        ∧ (s.layer 7).live.length ≤ s.poolFree.length + (s.layer 7).stagedList.length := by
  unfold Meets Takes PoolOk; decide +kernel

theorem witness_LayerAttrReplacesTheAttributes :
    (Meets (frameLyrAttr 1 7 1 16 0 0 0 0 0 0 959 539) (editing none) fun s => (s.layer 7).owner = some .cl0
        ∧ (s.layer 7).binding ≠ .releasing ∧ (s.layer 7).staged = none)
      ∧ (Meets (frameLyrAttr 1 7 1 16 0 0 0 0 0 0 959 539) (editing (some { blank with committed := true })) fun s =>
        ∃ r ∈ (s.layer 7).staged, r.committed = true)
      ∧ (Meets (frameLyrAttr 1 7 2 16 0 0 0 0 0 0 959 539) (editing (some blank)) fun _ => 2 ≤ (2 : Byte).toNat)
      ∧ (Meets (frameLyrAttr 1 7 1 16 0 0 0 2 0 0 959 539) (editing (some blank)) fun s => (s.layer 7).staged = some blank)
      ∧ (Meets (frameLyrAttr 1 7 1 16 0 0 0 1 0 0 959 539) (editing (some { blank with list := [entryOf 0 8] })) fun s =>
        ∃ r ∈ (s.layer 7).staged, r.committed = false ∧ r.list ≠ [])
      ∧ (Meets (frameLyrAttr 1 7 1 16 0 0 0 1 0 0 959 539) ((editing (some blank)).setLayer 6
          { Layer.reset with attrs := { Attributes.reset with source := .vin } }) fun s =>
        ∃ m, m ≠ 7 ∧ (s.layer m).namesVin = true)
      ∧ Meets (frameLyrAttr 1 7 1 17 0 0 0 1 0 0 959 540) (editing (some blank)) fun s =>
        (∃ r ∈ (s.layer 7).staged, r.committed = false ∧ r.list = []) ∧ (1 : Byte).toNat < 2
          ∧ ∀ m, m ≠ 7 → (s.layer m).namesVin = false := by
  unfold Meets Takes; decide +kernel

theorem witness_LayerCommitTakesTheWholeMask :
    (Meets (frameLyrCommit 1 0) State.reset fun _ => True)
      ∧ (Meets (frameLyrCommit 1 0xC0) (editing (some blank)) fun s =>
        (0xC0 : Byte).getLsbD 6 = true ∧ (s.layer 6).owner ≠ some .cl0
          ∧ ∀ m : Fin 8, m < 6 → (0xC0 : Byte).getLsbD m.val = true → (s.layer m).owner = some .cl0)
      ∧ (Meets (frameLyrCommit 1 0x80) leaving fun s => (s.layer 7).binding = .releasing
        ∧ ∀ m : Fin 8, (0x80 : Byte).getLsbD m.val = true → (s.layer m).owner = some .cl0)
      ∧ (Meets (frameLyrCommit 1 0x80) (editing none) fun s => (s.layer 7).binding ≠ .releasing
        ∧ ∀ r ∈ (s.layer 7).staged, r.committed = true)
      ∧ Meets (frameLyrCommit 1 0x80) (editing (some blank)) fun s => (0x80 : Byte) ≠ 0
        ∧ ∀ m : Fin 8, (0x80 : Byte).getLsbD m.val = true → (s.layer m).owner = some .cl0
          ∧ (s.layer m).binding ≠ .releasing ∧ ∃ r ∈ (s.layer m).staged, r.committed = false := by
  unfold Meets Takes; decide +kernel

theorem witness_ZOrderAndBackdropArePending :
    (Meets (frameLyrZ 1 7 8) (editing none) fun s => (s.layer 7).owner = some .cl0 ∧ (s.layer 7).binding ≠ .releasing
        ∧ 8 ≤ (8 : Byte).toNat)
      ∧ (Meets (frameLyrZ 1 7 7) (editing none) fun s => (7 : Byte).toNat < 8 ∧ ZOrdersOk s)
      ∧ Meets (frameBackdrop 1 15 241 0) State.reset fun _ => True := by
  unfold Meets Takes ZOrdersOk; decide +kernel

/-- Slot 63 READY and held by CL0. -/
def slot63 (s : State) : State := s.setSlot 63 (slotOfCl0 .ready .direct 1 1 1 [.direct ⟨16, 128, 128⟩])

/-- A pending list of `n` entries. -/
def listOf (n : Nat) : PendingRecord := { blank with list := (List.finRange 128).take n |>.map (entryOf · 63) }

theorem witness_PlacementAddChecksThenAppends :
    (Meets (framePlcAdd 1 7 63 0 0) (editing none) fun s => (s.layer 7).owner = some .cl0
        ∧ (s.layer 7).binding ≠ .releasing ∧ (s.layer 7).staged = none)
      ∧ (Meets (framePlcAdd 1 7 63 0 0) (editing (some { blank with committed := true })) fun s =>
        ∃ r ∈ (s.layer 7).staged, r.committed = true)
      ∧ (Meets (framePlcAdd 1 7 64 0 0) (editing (some blank)) fun s => (s.layer 7).staged = some blank
        ∧ 64 ≤ (64 : Byte).toNat)
      ∧ (Meets (framePlcAdd 1 7 63 0 0) (editing (some { blank with attrs := { Attributes.reset with source := .vin } }))
          fun s => ∃ r ∈ (s.layer 7).staged, r.attrs.source = .vin)
      ∧ (Meets (framePlcAdd 1 7 63 0 0) (editing (some blank)) fun s => (s.slot 63).state = .free)
      ∧ (Meets (framePlcAdd 1 7 63 0 0) (slot63 (editing (some (listOf 48)))) fun s => (s.slot 63).state ≠ .free
        ∧ ∃ r ∈ (s.layer 7).staged, r.list.length = 48 ∧ r.attrs.source = .placements)
      ∧ (Meets (framePlcAdd 1 7 63 0 0) (slot63 ((crowded 127).setLayer 7 { (crowded 127).layer 7 with
          staged := some blank })) fun s => s.poolFree = [] ∧ (s.slot 63).state ≠ .free)
      ∧ Meets (framePlcAdd 1 7 63 2048 0xF7FF) (slot63 (editing (some (listOf 47)))) fun s =>
        (s.slot 63).state ≠ .free ∧ s.poolFree.head? = some 47 ∧ ∃ r ∈ (s.layer 7).staged, r.list.length < 48 := by
  unfold Meets Takes; decide +kernel

/-- CL0's cursor 1 at the last column, or before it, over slot 63. -/
def onTheGrid (column : Nat) (r : PendingRecord) : State :=
  let s := slot63 (editing (some r))
  s.setPort .cl0 { PortState.reset with cursor1 := ⟨2047, -2048, 0, 1023, -1024, 16, column, 63, -8⟩ }

theorem witness_CursorPlacesThenAdvances :
    (Meets (framePlcCursor 1 7 1) (editing none) fun s => (s.layer 7).owner = some .cl0
        ∧ (s.layer 7).binding ≠ .releasing ∧ (s.layer 7).staged = none)
      ∧ (Meets (framePlcCursor 1 7 1) (editing (some { blank with committed := true })) fun s =>
        ∃ r ∈ (s.layer 7).staged, r.committed = true)
      ∧ (Meets (framePlcCursor 1 7 2) (editing (some blank)) fun s => (s.layer 7).staged = some blank
        ∧ 2 ≤ (2 : Byte).toNat)
      ∧ (Meets (framePlcCursor 1 7 1) (editing (some { blank with attrs := { Attributes.reset with source := .vin } }))
          fun s => ∃ r ∈ (s.layer 7).staged, r.attrs.source = .vin)
      ∧ (Meets (framePlcCursor 1 7 1) (editing (some blank)) fun s => (s.slot (s.port .cl0).cursor1.slot).state = .free)
      ∧ (Meets (framePlcCursor 1 7 1) (onTheGrid 15 (listOf 48)) fun s => (s.slot 63).state ≠ .free
        ∧ ∃ r ∈ (s.layer 7).staged, r.list.length = 48)
      ∧ (Meets (framePlcCursor 1 7 1) (onTheGrid 15 blank |>.setLayer 6 ((crowded 127).layer 6) |>.setLayer 5
          { Layer.reset with live := [entryOf 0 8] }) fun s => s.poolFree = [] ∧ (s.slot 63).state ≠ .free)
      ∧ ∀ column ∈ [15, 14], Meets (framePlcCursor 1 7 1) (onTheGrid column (listOf 47)) fun s =>
        CursorOk (s.port .cl0).cursor1 ∧ (s.slot 63).state ≠ .free ∧ s.poolFree.head? = some 47
          ∧ (s.port .cl0).cursor1.slot = 63 ∧ (s.port .cl0).cursor1.column = column
          ∧ ∃ r ∈ (s.layer 7).staged, r.list.length < 48 ∧ r.committed = false ∧ r.attrs.source = .placements := by
  refine ⟨?_, ?_, ?_, ?_, ?_, ?_, ?_, ?_⟩ <;> unfold Meets Takes <;> (try unfold CursorOk) <;> decide +kernel

theorem witness_CursorSetAndWindowLoadThePort :
    (Meets (frameCurSet 1 2 0 0 0 0 1 0 0) State.reset fun _ => 2 ≤ (2 : Byte).toNat)
      ∧ (Meets (frameCurSet 1 1 2048 0xF7FF 1024 0xFBFF 17 64 9) State.reset fun _ => (1 : Byte).toNat < 2)
      ∧ (Meets (framePalWindow 1 2 31) State.reset fun _ => 2 ≤ (2 : Byte).toNat)
      ∧ (Meets (framePalWindow 1 1 32) State.reset fun _ => 32 ≤ (32 : Byte).toNat)
      ∧ Meets (framePalWindow 1 1 31) State.reset fun _ => (31 : Byte).toNat = (31 : Fin 32).val ∧ (1 : Byte).toNat < 2 := by
  unfold Meets Takes; decide +kernel

/-- CL0's clip stack of a depth. -/
def clipped (n : Nat) : State :=
  State.reset.setPort .cl0 { PortState.reset with clips := List.replicate n ⟨1, 1, 958, 538⟩ }

theorem witness_ClipStackPushesTheMeetAndPops :
    (Takes (withFrame (frameClipPush 1 0 0 959 539) (clipped 8)) .cl0 (frameClipPush 1 0 0 959 539)
        ∧ 8 ≤ ((withFrame (frameClipPush 1 0 0 959 539) (clipped 8)).port .cl0).clips.length)
      ∧ (Takes (withFrame (frameClipPush 1 0 0 960 0xFFFF) (clipped 7)) .cl0 (frameClipPush 1 0 0 960 0xFFFF)
        ∧ ((withFrame (frameClipPush 1 0 0 960 0xFFFF) (clipped 7)).port .cl0).clips.length < 8)
      ∧ (Takes (withFrame (frameClipPop 1) (clipped 0)) .cl0 (frameClipPop 1)
        ∧ ((withFrame (frameClipPop 1) (clipped 0)).port .cl0).clips = [])
      ∧ Takes (withFrame (frameClipPop 1) (clipped 1)) .cl0 (frameClipPop 1)
        ∧ ((withFrame (frameClipPop 1) (clipped 1)).port .cl0).clips = [⟨1, 1, 958, 538⟩] := by
  unfold Takes; decide +kernel

theorem witness_SlotClaimAndReleaseMoveTheOwner :
    (Meets (frameSltClaim 1) { State.reset with slots := Vector.replicate 64 (slotOfCl0 .empty .direct 0 0 0 []) }
        fun s => ∀ i, (s.slot i).state ≠ .free)
      ∧ (Meets (frameSltClaim 1) { State.reset with
          slots := (Vector.replicate 64 (slotOfCl0 .empty .direct 0 0 0 [])).set 63 (Slot.freed []) }
        fun s => (s.slot 63).state = .free ∧ ∀ j, j < 63 → (s.slot j).state ≠ .free)
      ∧ (Meets (frameSltClaimAt 1 64) State.reset fun _ => 64 ≤ (64 : Byte).toNat)
      ∧ (Meets (frameSltClaimAt 1 63) State.reset fun s => (s.slot 63).state = .free)
      ∧ (Meets (frameSltClaimAt 1 63) (slot63 State.reset) fun s => (s.slot 63).state ≠ .free)
      ∧ (Meets (frameSltRelease 1 63) (State.reset.setSlot 63 { slotOfCl0 .ready .direct 1 1 1 [] with refCount := 1 })
        fun s => (s.slot 63).owner = some .cl0 ∧ (s.slot 63).refCount ≠ 0)
      ∧ (Meets (frameSltRelease 1 63) (State.reset.setSlot 63 { slotOfCl0 .empty .direct 0 0 0 [] with captureFlag := true })
        fun s => (s.slot 63).refCount = 0 ∧ (s.slot 63).captureFlag = true)
      ∧ Meets (frameSltRelease 1 63) (slot63 State.reset) fun s => (s.slot 63).refCount = 0
        ∧ (s.slot 63).captureFlag = false ∧ (s.slot 63).owner = some .cl0 := by
  unfold Meets Takes; decide +kernel

/-- Slot 63 held by CL0 in a state, its write position at a place of a 2 × 1 image. -/
def image63 (state : SlotState) (format : Format) (writePos : Nat) : State :=
  State.reset.setSlot 63 (slotOfCl0 state format 2 1 writePos (List.replicate writePos (.indexed 0)))

theorem witness_SlotOpenAndCloseFrameAnImage :
    (Meets (frameSltOpen 1 63 0 1 1) (image63 .opened .direct 1) fun s => (s.slot 63).owner = some .cl0
        ∧ (s.slot 63).state ≠ .empty ∧ (s.slot 63).state ≠ .ready)
      ∧ (Meets (frameSltOpen 1 63 0 1 1) (State.reset.setSlot 63
          { slotOfCl0 .empty .direct 0 0 0 [] with captureFlag := true }) fun s => (s.slot 63).captureFlag = true)
      ∧ (Meets (frameSltOpen 1 63 2 1 1) (slot63 State.reset) fun s => (s.slot 63).captureFlag = false)
      ∧ (Meets (frameSltOpen 1 63 1 257 1) (slot63 State.reset) fun _ => 256 < (257 : Half).toNat)
      ∧ (Meets (frameSltOpen 1 63 1 256 65) (slot63 State.reset) fun _ => 16384 < (256 : Half).toNat * (65 : Half).toNat)
      ∧ (Meets (frameSltOpen 1 63 1 256 64) (slot63 State.reset) fun s => (s.slot 63).state = .ready
        ∧ (256 : Half).toNat * (64 : Half).toNat ≤ 16384)
      ∧ (Meets (frameSltClose 1 63) (image63 .opened .direct 2) fun s => (s.slot 63).state = .opened
        ∧ (s.slot 63).writePos = (s.slot 63).width * (s.slot 63).height)
      ∧ (Meets (frameSltClose 1 63) (image63 .opened .direct 1) fun s =>
        (s.slot 63).writePos < (s.slot 63).width * (s.slot 63).height)
      ∧ Meets (frameSltClose 1 63) (image63 .ready .direct 2) fun s => (s.slot 63).state ≠ .opened
        ∧ (s.slot 63).writePos ≤ (s.slot 63).width * (s.slot 63).height := by
  unfold Meets Takes; decide +kernel

theorem witness_SlotDataStoresInRasterOrder :
    (Meets (frameSltData 1 63 [1]) (image63 .opening .direct 0) fun s => (s.slot 63).owner = some .cl0
        ∧ (s.slot 63).state = .opening)
      ∧ (Meets (frameSltData 1 63 [1]) (image63 .ready .direct 2) fun s => (s.slot 63).state ≠ .opening
        ∧ (s.slot 63).state ≠ .opened)
      ∧ ∀ format ∈ [Format.direct, .indexed],
        Meets (frameSltData 1 63 (List.replicate 252 0xFF)) (image63 .opened format 1) fun s =>
          (s.slot 63).state = .opened ∧ (s.slot 63).writePos ≤ (s.slot 63).width * (s.slot 63).height
            ∧ (s.slot 63).writePos ≤ (s.slot 63).pixels.length ∧ (List.replicate 252 (0xFF : Byte)).length ≤ 252 := by
  unfold Meets Takes; decide +kernel

theorem witness_SlotFillStoresOnePixelManyTimes :
    (Meets (frameSltFill 1 63 0 0 0 1) (image63 .opening .direct 0) fun s => (s.slot 63).state = .opening)
      ∧ (Meets (frameSltFill 1 63 0 0 0 1) (image63 .ready .direct 2) fun s => (s.slot 63).state ≠ .opened)
      ∧ (Meets (frameSltFill 1 63 16 0 0 1) (image63 .opened .indexed 1) fun s => (s.slot 63).format = .indexed
        ∧ 16 ≤ (16 : Byte).toNat)
      ∧ Meets (frameSltFill 1 63 15 0 0 2) (image63 .opened .indexed 1) fun s => (s.slot 63).state = .opened
        ∧ (15 : Byte).toNat < 16 ∧ (s.slot 63).writePos ≤ (s.slot 63).pixels.length := by
  unfold Meets Takes; decide +kernel

theorem witness_InfoAndReadReportARecord :
    (Meets (frameSltInfo 1 64) State.reset fun _ => 64 ≤ (64 : Byte).toNat)
      ∧ (Meets (frameSltInfo 1 63) (slot63 State.reset) fun _ => (63 : Byte).toNat = (63 : Fin 64).val)
      ∧ (Meets (frameTmrRead 1 4) State.reset fun _ => 4 ≤ (4 : Byte).toNat)
      ∧ Meets (frameTmrRead 1 3) State.reset fun _ => (3 : Byte).toNat = (3 : Fin 4).val := by
  unfold Meets Takes; decide +kernel

/-- Slice 31 with an owner or none. -/
def slice31 (o : Option Port) : State := State.reset.setSliceHolder 31 o

theorem witness_SliceClaimAndReleaseMoveTheOwner :
    (Meets (framePalClaim 1 1) State.reset fun _ => (1 : Byte).toNat < 2)
      ∧ (Meets (framePalClaim 1 32) State.reset fun _ => 32 ≤ (32 : Byte).toNat)
      ∧ (Meets (framePalClaim 1 31) (slice31 none) fun s => s.sliceHolder 31 = none)
      ∧ (Meets (framePalClaim 1 31) (slice31 (some .cl1)) fun s => s.sliceHolder 31 ≠ none)
      ∧ (Meets (framePalRelease 1 1) State.reset fun _ => (1 : Byte).toNat < 2)
      ∧ (Meets (framePalRelease 1 31) (slice31 (some .cl0)) fun s => s.sliceHolder 31 = some .cl0)
      ∧ Meets (framePalRelease 1 31) (slice31 (some .cl1)) fun s => s.sliceHolder 31 ≠ some .cl0 := by
  unfold Meets Takes; decide +kernel

theorem witness_PaletteWritesReachThePendingCopy :
    (Meets (framePalSet 1 15 16 16 16 16) State.reset fun _ => (15 : Byte).toNat < 16)
      ∧ (Meets (framePalSet 1 255 16 16 16 17) (slice31 (some .cl0)) fun s =>
        ∃ i : Fin 32, i.val = (255 : Byte).toNat / 8 ∧ s.sliceHolder i = some .cl0)
      ∧ (Meets (framePalSet 1 16 16 16 16 16) State.reset fun s => ¬ ((16 : Fin 256).val < 16
        ∨ ∃ i : Fin 32, i.val = (16 : Byte).toNat / 8 ∧ s.sliceHolder i = some .cl0))
      ∧ (Meets (framePalSetcode 1 16 16 16 16 16) State.reset fun _ => 16 ≤ (16 : Byte).toNat)
      ∧ (Meets (framePalSetcode 1 15 16 16 16 16) State.reset fun s =>
        (15 : Fin 256).val = 8 * (s.port .cl0).wp1.val + ((15 : Byte).toNat - 8))
      ∧ Takes (withFrame (framePalSetcode 1 9 16 16 16 16) (slice6.setSliceHolder 6 none)) .cl0 (framePalSetcode 1 9 16 16 16 16)
        ∧ ¬ ((49 : Fin 256).val < 16 ∨ ∃ i : Fin 32, i.val = (49 : Fin 256).val / 8
          ∧ (withFrame (framePalSetcode 1 9 16 16 16 16) (slice6.setSliceHolder 6 none)).sliceHolder i = some .cl0) := by
  unfold Meets Takes; decide +kernel

/-- An input of 64 × 32 held by CL0, with a frame in reception. -/
def receiving64 (lock : LockState) : TrailerInput := { inputOf 64 32 lock with receiving := some ⟨64, 32, false⟩ }

/-- Slot 30's request by `p`, queued or active, the input in a lock state. -/
def asked (p : Port) (lock : LockState) (c : CaptureUnit) : State :=
  { withInput { inputOf 720 420 lock with holder := some .cl0 } with cap := c }.setSlot 30
    { slotOfCl0 .empty .direct 0 0 0 [] with owner := some p, captureFlag := true }

/-- The Capture Unit with one queued request. -/
def oneQueued (p : Port) : CaptureUnit := { CaptureUnit.reset with queue := [{ request30 with requester := p }] }

/-- The Capture Unit with one active request in SETTLE. -/
def oneActive (p : Port) : CaptureUnit :=
  { CaptureUnit.reset with active := some { request30 with requester := p }, phase := .settle }

/-- Frames at the head of CL0's queue before which `asked` keeps the Capture Unit's invariant. -/
def askedFrames : List Frame := [frameCapCancel 3 30, frameVinRelease 1, frameVinEnable 1 0, frameCapEnable 1 0]

theorem captureOk_asked : ∀ f ∈ askedFrames, ∀ p ∈ [Port.cl0, .cl1], ∀ c ∈ [oneQueued p, oneActive p],
    CaptureOk (withFrame f (asked p .locked c)) := by
  have ports : ∀ f ∈ askedFrames, ∀ p ∈ [Port.cl0, .cl1], ∀ c ∈ [oneQueued p, oneActive p], ∀ q,
      (withFrame f (asked p .locked c)).outstanding q ≤ 5 := by
    intro f hf p hp c hc q
    revert f p c
    cases q <;> decide +kernel
  have fits : ∀ p ∈ [Port.cl0, .cl1], ∀ c ∈ [oneQueued p, oneActive p], resultFits c := by
    intro p hp c hc
    simp only [List.mem_cons, List.not_mem_nil, or_false] at hc
    rcases hc with rfl | rfl <;> rfl
  intro f hf p hp c hc
  refine ⟨?_, ports f hf p hp c hc, ?_, fits p hp c hc, ?_⟩ <;> revert f p c <;> (try unfold Crop.ok) <;> decide +kernel

theorem witness_InputIsClaimedAndReleased :
    (Meets (frameVinClaim 1) State.reset fun s => s.vin.holder = none)
      ∧ (Meets (frameVinClaim 1) (withInput (receiving64 .locked)) fun s => s.vin.holder ≠ none)
      ∧ (∀ p ∈ [Port.cl0, .cl1], ∀ c ∈ [oneQueued p, oneActive p],
        Meets (frameVinRelease 1) (asked p .locked c) fun s => s.vin.holder = some .cl0 ∧ s.vin.lock ≠ .off
          ∧ s.cap.requests ≠ [])
      ∧ ∀ p ∈ [Port.cl0, .cl1], ∀ c ∈ [oneQueued p, oneActive p],
        CaptureOk (withFrame (frameVinRelease 1) (asked p .locked c)) :=
  ⟨by unfold Meets Takes; decide +kernel, by unfold Meets Takes; decide +kernel, by unfold Meets Takes; decide +kernel,
    captureOk_asked _ (by decide)⟩

theorem witness_InputFormatRestartsAcquisition :
    (Meets (frameVinFormat 1 63 541 4) (withInput (inputOf 64 32 .off)) fun s => s.vin.holder = some .cl0
        ∧ s.vin.lock = .off)
      ∧ (Meets (frameVinFormat 1 65 32 3) (withInput (receiving64 .acquiring)) fun s => s.vin.lock = .acquiring)
      ∧ (∀ lock ∈ [LockState.locked, .lost], Meets (frameVinFormat 1 960 540 0) (withInput (receiving64 lock)) fun s =>
        s.vin.lock ≠ .off ∧ s.vin.lock ≠ .acquiring ∧ s.cap.phase = .idle)
      ∧ ∀ phase ∈ [Phase.settle, .sample], Meets (frameVinFormat 1 960 540 0)
        { withInput (receiving64 .locked) with cap := { CaptureUnit.reset with active := some request30, phase := phase } }
          fun s => s.vin.lock = .locked ∧ s.cap.phase = phase ∧ s.cap.active = some request30 := by
  unfold Meets Takes; decide +kernel

theorem witness_InputEnableSwitchesReception :
    (Meets (frameVinEnable 1 2) (withInput (inputOf 64 32 .off)) fun s => s.vin.holder = some .cl0 ∧ 2 ≤ (2 : Byte).toNat)
      ∧ (∀ on ∈ [0, 1], Meets (frameVinEnable 1 on) (withInput (inputOf 64 32 .off)) fun s => s.vin.lock = .off)
      ∧ (∀ on ∈ [0, 1], Meets (frameVinEnable 1 on) (withInput (receiving64 .lost)) fun s => s.vin.holder = some .cl0
        ∧ s.vin.lock ≠ .off)
      ∧ (∀ p ∈ [Port.cl0, .cl1], ∀ c ∈ [oneQueued p, oneActive p],
        Meets (frameVinEnable 1 0) (asked p .locked c) fun s => s.vin.lock ≠ .off ∧ s.cap.requests ≠ [])
      ∧ ∀ p ∈ [Port.cl0, .cl1], ∀ c ∈ [oneQueued p, oneActive p],
        CaptureOk (withFrame (frameVinEnable 1 0) (asked p .locked c)) :=
  ⟨by unfold Meets Takes; decide +kernel, by unfold Meets Takes; decide +kernel, by unfold Meets Takes; decide +kernel,
    by unfold Meets Takes; decide +kernel, captureOk_asked _ (by decide)⟩

theorem witness_CaptureIsEnabledAndCancelled :
    (Meets (frameCapEnable 1 2) (withInput (inputOf 64 32 .locked)) fun s => s.vin.holder = some .cl0
        ∧ 2 ≤ (2 : Byte).toNat)
      ∧ (Meets (frameCapEnable 1 1) (withInput (inputOf 64 32 .locked)) fun s => s.vin.holder = some .cl0)
      ∧ (Meets (frameCapEnable 1 0) (withInput { inputOf 64 32 .locked with captureEnabled := false }) fun s =>
        s.vin.captureEnabled = false)
      ∧ (∀ c ∈ [oneQueued .cl0, oneActive .cl0], ∀ lock ∈ [LockState.off, .locked],
        Meets (frameCapEnable 1 0) (asked .cl0 lock c) fun s => s.vin.captureEnabled = true)
      ∧ (Meets (frameCapCancel 3 64) State.reset fun _ => 64 ≤ (64 : Byte).toNat)
      ∧ (Meets (frameCapCancel 3 63) State.reset fun s => ∀ r ∈ s.cap.requests, r.slot ≠ 63)
      ∧ (∀ p ∈ [Port.cl0, .cl1], ∀ c ∈ [oneQueued p, oneActive p],
        Meets (frameCapCancel 3 30) (asked p .locked c) fun s => { request30 with requester := p } ∈ s.cap.requests)
      ∧ ∀ p ∈ [Port.cl0, .cl1], ∀ c ∈ [oneQueued p, oneActive p],
        CaptureOk (withFrame (frameCapCancel 3 30) (asked p .locked c)) :=
  ⟨by unfold Meets Takes; decide +kernel, by unfold Meets Takes; decide +kernel, by unfold Meets Takes; decide +kernel,
    by unfold Meets Takes; decide +kernel, by unfold Meets Takes; decide +kernel, by unfold Meets Takes; decide +kernel,
    by unfold Meets Takes; decide +kernel, captureOk_asked _ (by decide)⟩

/-- A CAP_REQUEST for slot 30 of a rectangle and decimation. -/
def request (x y w h : Half) (dx dy : Byte) : Frame := frameCapRequest 11 30 x y w h dx dy

theorem witness_CaptureRequestChecksThenJoins :
    (∀ state ∈ [SlotState.opening, .opened], Meets (request 0 0 720 420 6 6)
        (locked720.setSlot 30 (slotOfCl0 state .direct 2 1 0 [])) fun s =>
          (s.slot 30).owner = some .cl0 ∧ (s.slot 30).state ≠ .empty ∧ (s.slot 30).state ≠ .ready)
      ∧ (Meets (request 0 0 720 420 6 6) (flagged locked720) fun s => (s.slot 30).captureFlag = true)
      ∧ (Meets (request 0 0 720 420 6 6) { locked720 with vin := inputOf 720 420 .off } fun s => s.vin.lock = .off)
      ∧ (Meets (request 1 0 720 420 6 6) locked720 fun s => s.vin.width < (1 : Half).toNat + (720 : Half).toNat)
      ∧ (Meets (request 0 0 5 40 8 1) locked720 fun _ => (5 : Half).toNat / (8 : Byte).toNat < 1)
      ∧ (Meets (request 0 0 257 1 1 1) locked720 fun _ => 256 < (257 : Half).toNat / (1 : Byte).toNat)
      ∧ (Meets (request 0 0 720 420 6 6) { locked720 with
          cap := { CaptureUnit.reset with queue := List.replicate 4 { request30 with slot := 31, requester := .cl1 } } } fun s =>
            4 ≤ s.cap.queue.length)
      ∧ (Meets (request 0 0 720 420 6 6) (locked720.setPort .cl0 { PortState.reset with
          reports := List.replicate 5 ⟨1, 0, .ok, .command⟩ }) fun s => 5 ≤ s.outstanding .cl0)
      ∧ (Meets (request 0 0 720 420 6 6) { locked720 with cap := { CaptureUnit.reset with phase := .recover } } fun s =>
        s.cap.phase ≠ .idle ∧ (s.slot 30).state = .empty ∧ s.vin.captureEnabled = true)
      ∧ ∀ settle ∈ [0, 1], Meets (request 0 0 720 420 6 6) { locked720 with vin := { locked720.vin with settle := settle } }
        fun s => s.cap.phase = .idle ∧ s.vin.lock = .locked ∧ s.cap.queue = [] ∧ s.cap.active = none
          ∧ s.outstanding .cl0 < 5 ∧ s.vin.settle = settle := by
  refine ⟨?_, ?_, ?_, ?_, ?_, ?_, ?_, ?_, ?_, ?_⟩ <;> unfold Meets Takes <;> decide +kernel

/-- Timer 3 with a record. -/
def timer3 (m : FrameTimer) : State := State.reset.setTimer 3 m

theorem witness_TimersAreClaimedAndRun :
    (Meets (frameTmrClaim 1 4) State.reset fun _ => 4 ≤ (4 : Byte).toNat)
      ∧ (Meets (frameTmrClaim 1 3) State.reset fun s => (s.timer 3).holder = none)
      ∧ (Meets (frameTmrClaim 1 3) (timer3 timer2) fun s => (s.timer 3).holder ≠ none)
      ∧ (Meets (frameTmrRelease 1 3) (timer3 { timer2 with running := true }) fun s => (s.timer 3).holder = some .cl0)
      ∧ (Meets (frameTmrStart 1 3) (timer3 { timer2 with running := true }) fun s => (s.timer 3).running = true)
      ∧ (Meets (frameTmrStart 1 3) (timer3 { timer2 with template := none }) fun s => (s.timer 3).action = .capture
        ∧ (s.timer 3).mode ≠ .measure ∧ (s.timer 3).template = none ∧ (s.timer 3).running = false)
      ∧ (Meets (frameTmrStart 1 3) (timer3 { timer2 with mode := .measure, template := none }) fun s =>
        (s.timer 3).mode = .measure ∧ (s.timer 3).running = false)
      ∧ (∀ m ∈ [timer2, { timer2 with action := .event, template := none }], Meets (frameTmrStart 1 3) (timer3 m) fun s =>
        (s.timer 3).running = false ∧ (s.timer 3).mode ≠ .measure
          ∧ ((s.timer 3).action = .event ∨ (s.timer 3).template ≠ none))
      ∧ Meets (frameTmrStop 1 3) (timer3 { timer2 with running := true }) fun s => (s.timer 3).holder = some .cl0 := by
  unfold Meets Takes; decide +kernel

theorem witness_TimerSetupConfiguresAStoppedTimer :
    (Meets (frameTmrSetup 1 3 0 1 1 0 0) (timer3 { timer2 with running := true }) fun s => (s.timer 3).running = true)
      ∧ (Meets (frameTmrSetup 1 3 0 3 1 0 0) (timer3 timer2) fun s => (s.timer 3).running = false
        ∧ ¬ ((3 : Byte) = 1 ∨ (3 : Byte) = 2 ∨ (3 : Byte) = 4 ∨ (3 : Byte) = 8))
      ∧ (Meets (frameTmrSetup 1 3 1 8 1 2 1) (timer3 timer2) fun s => (s.timer 3).holder = some .cl0
        ∧ (1 : Byte).toNat < 2 ∧ (1 : Half) ≠ 0 ∧ (2 : Byte).toNat < 3)
      ∧ (Meets (frameTmrTemplate 1 3 0 0 64 32 8 8 48 16) (timer3 { timer2 with running := true }) fun s =>
        (s.timer 3).running = true)
      ∧ (Meets (frameTmrTemplate 1 3 0 0 64 32 8 8 49 16) (timer3 timer2) fun _ => 64 < (49 : Byte).toNat + (16 : Byte).toNat)
      ∧ Meets (frameTmrTemplate 1 3 0 0 64 32 8 8 48 16) (timer3 timer2) fun s => (s.timer 3).running = false
        ∧ (0 : Half).toNat + (64 : Half).toNat ≤ s.vin.width ∧ (0 : Half).toNat + (32 : Half).toNat ≤ s.vin.height
        ∧ ¬ 64 < (48 : Byte).toNat + (16 : Byte).toNat := by
  unfold Meets Takes; decide +kernel

/-- Layer 7 held by CL0 with its monitor as given; slot 63 is READY. -/
def watched7 (m : Monitor) : State := slot63 ((editing none).setMonitor 7 m)

theorem witness_MonitorSetupMovesTheFallback :
    (Meets (frameFrsSetup 1 7 1 1 0 0xFF) (watched7 { touched 8 with locked := true }) fun s => (s.monitor 7).locked = true
        ∧ (s.layer 7).owner = some .cl0 ∧ (s.layer 7).binding ≠ .releasing)
      ∧ (Meets (frameFrsSetup 1 7 1 1 0 0xFF) (watched7 (touched 8)) fun s => (s.monitor 7).locked = false
        ∧ (s.monitor 7).running = true)
      ∧ (Meets (frameFrsSetup 1 7 1 1 2 0xFF) (watched7 Monitor.reset) fun s => (s.monitor 7).running = false
        ∧ (2 : Byte) = 2)
      ∧ (Meets (frameFrsSetup 1 7 4095 4 1 0xFF) (watched7 { Monitor.reset with fallback := some 63 }) fun s =>
        (4095 : Half).toNat ≤ 4095 ∧ (4 : Byte).toNat ≤ 4 ∧ (s.monitor 7).fallback = some 63)
      ∧ Meets (frameFrsSetup 1 7 1 1 2 63) (watched7 Monitor.reset) fun s => 1 ≤ (1 : Half).toNat
        ∧ (s.slot 63).state ≠ .free ∧ (s.monitor 7).running = false := by
  unfold Meets Takes; decide +kernel

theorem witness_MonitorsAreRunAndLocked :
    (∀ m ∈ [touched 1, { touched 8 with running := false }], Meets (frameFrsStart 1 7) (watched7 m) fun s =>
        (s.layer 7).owner = some .cl0 ∧ (s.layer 7).binding ≠ .releasing ∧ (s.monitor 7) = m)
      ∧ (∀ m ∈ [touched 1, { touched 1 with locked := true }], Meets (frameFrsStop 1 7) (watched7 m) fun s =>
        (s.monitor 7) = m)
      ∧ (Meets (frameFrsLock 1 8) State.reset fun _ => 8 ≤ (8 : Byte).toNat)
      ∧ ∀ m ∈ [Monitor.reset, touched 1, { touched 1 with locked := true },
          { touched 1 with locked := true, lockingPort := some .cl2 }],
        Meets (frameFrsLock 1 7) (watched7 m) fun s => (s.monitor 7) = m := by
  unfold Meets Takes; decide +kernel

theorem witness_TouchReloadsOrExpires :
    ∀ m ∈ [{ touched 8 with running := false }, touched 4, touched 5, { touched 5 with lockingPort := some .cl2 }],
      Meets (frameFrsTouch 1 7) (watched7 m) fun s => (s.layer 7).owner = some .cl0 ∧ (s.layer 7).binding = .bound
        ∧ s.monitor 7 = m ∧ max 1 (m.window * m.period / 4) = 4 := by
  unfold Meets Takes; decide +kernel

/-- CL0 with a cache of `n` commands and a loop count. -/
def cached (n loops : Nat) : State :=
  withRepeat { RepeatRecord.reset with cache := List.replicate n (frameClipPop 1), loopCount := loops }

theorem witness_RepeatCommandsBeginABlock :
    (∀ m ∈ [0, 64, 65], Meets (frameRptLoop 1 m) (cached 0 0) fun _ => True)
      ∧ (∀ n ∈ [0, 9], Meets (frameRptBlock 1 n 1) (cached 0 0) fun _ => n = 0 ∨ 8 < n.toNat)
      ∧ (Meets (frameRptBlock 1 8 0) (cached 0 0) fun s => (s.port .cl0).rpt.loopCount = 0)
      ∧ (∀ k ∈ [0, 65], Meets (frameRptBlock 1 8 k) (cached 8 64) fun s => (s.port .cl0).rpt.loopCount = 64)
      ∧ (Meets (frameRptAgain 1 1) (cached 0 1) fun s => (s.port .cl0).rpt.cache = [])
      ∧ (Meets (frameRptAgain 1 0) (cached 8 0) fun s => (s.port .cl0).rpt.cache ≠ [])
      ∧ ∀ k ∈ [0, 64], Meets (frameRptAgain 1 k) (cached 1 1) fun s => (s.port .cl0).rpt.cache ≠ [] := by
  refine ⟨?_, ?_, ?_, ?_, ?_, ?_, ?_⟩ <;> unfold Meets Takes <;> decide +kernel

/-- CL0 with `n` frames queued. -/
def queueOf (n : Nat) : State :=
  State.reset.setPort .cl0 { PortState.reset with queue := List.replicate n (frameClipPop 1) }

theorem witness_TransactionsBeginAndCarryCommands :
    (∀ n ∈ [15, 16], (queueOf n).resetPin = false ∧ ((queueOf n).port .cl0).link = .idle
        ∧ ((queueOf n).port .cl0).queue.length = n)
      ∧ ((1 : Byte).toNat < 2 ∧ [(1 : Byte), 0x24].length = (2 : Byte).toNat ∧ [(1 : Byte), 0x24].length ≠ (3 : Byte).toNat)
      ∧ (Instr.invalidTransaction .cl0 [0x0A, 0]).wellFormed = true
      ∧ { State.reset with resetPin := true }.resetPin = true
      ∧ (∀ i ∈ [Instr.cmd .cl0 2 [1, 0x24], .res .cl0, .caprep .cl0, .evt .cl0 5, .ack .cl0 0, .mask .cl0 0, .stat .cl0 6,
          .prst .cl0, .invalidTransaction .cl0 []], transactionPort i = some .cl0)
      ∧ ((State.reset.setPort .cl0 { PortState.reset with link := .ignored }).port .cl0).link = .ignored := by
  decide +kernel

theorem test_prst_on_an_ignored_link :
    after (.prst .cl0) (((queueOf 1).setPort .cl0 { (queueOf 1).port .cl0 with link := .ignored })) = queueOf 1 := by
  decide +kernel

theorem witness_PortReadsShiftOutAndAcknowledge :
    ((State.reset.port .cl0).link = .idle ∧ State.reset.resetPin = false ∧ (State.reset.port .cl0).ring = []
        ∧ (State.reset.port .cl0).reports = [])
      ∧ (let q := (State.reset.setPort .cl0 { PortState.reset with
          ring := [⟨1, 0x37, .ok, 0, List.replicate 8 0⟩], reports := [⟨1, 63, .ok, .timer 3⟩] }).port .cl0
        q.ring.head? = some ⟨1, 0x37, .ok, 0, List.replicate 8 0⟩ ∧ (List.replicate 8 (0 : Byte)).length ≤ 8
          ∧ q.reports = [⟨1, 63, .ok, .timer 3⟩] ∧ q.link = .idle)
      ∧ (∀ kind ∈ [none, some (0x02, 0x01 :: List.replicate 14 0), some (0x03, List.replicate 5 0), some (0x04, [0, 1, 0, 0]),
          some (0x07, [0, 1, 0, 0, 0]), some (0x05, []), some (0x06, [])],
        ((State.reset.setPort .cl0 { PortState.reset with link := .selected 0x40 false kind }).port .cl0).link
          = .selected 0x40 false kind) := by decide +kernel

theorem witness_PortResetReleasesEveryHolding :
    (let s := (asked .cl0 .locked (oneActive .cl0)).setLayer 7 { Layer.reset with binding := .bound, owner := some .cl0 };
      s.resetPin = false ∧ (s.port .cl0).link = .idle ∧ s.vin.holder = some .cl0 ∧ (s.slot 30).owner = some .cl0
        ∧ (s.layer 7).owner = some .cl0 ∧ (s.layer 7).binding = .bound ∧ (s.monitor 7).locked = false)
      ∧ ((State.reset.setPort .cl0 { PortState.reset with link := .selected 0x10 true (some (0x0A, [])) }).port .cl0).link
        = .selected 0x10 true (some (0x0A, []))
      ∧ (let s := asked .cl1 .locked (oneActive .cl1);
        s.resetPin = false ∧ (s.port .cl1).link = .idle ∧ s.vin.holder ≠ some .cl1
          ∧ s.cap.active = some { request30 with requester := .cl1 })
      ∧ CaptureOk (withFrame (frameVinRelease 1) (asked .cl1 .locked (oneActive .cl1))) :=
  ⟨by decide +kernel, by decide +kernel, by decide +kernel, captureOk_asked _ (by decide) _ (by decide) _ (by simp)⟩

/-- The port reset of the input's holder tells another port that its request has ended (R136, R138). -/
theorem test_prst_tells_the_other_port :
    ((after (.prst .cl0) (asked .cl1 .locked (oneActive .cl1))).port .cl1).reports = [⟨11, 30, .noInput, .command⟩] := by
  decide +kernel

/-- The port reset of a port without the input leaves another port's request at its place (R138). -/
theorem test_prst_keeps_the_other_request :
    (after (.prst .cl2) (asked .cl1 .locked (oneActive .cl1))).cap = oneActive .cl1 := by decide +kernel

theorem witness_FrameStartBringsPendingToLive :
    { State.reset with resetPin := true }.resetPin = true
      ∧ ((editing (some { blank with committed := true })).resetPin = false
        ∧ (editing (some { blank with committed := true })).frameTaken = []
        ∧ (((editing (some { blank with committed := true })).layer 7).staged.any fun r => r.committed) = true)
      ∧ (leaving.layer 7).binding = .releasing
      ∧ (∃ f ∈ (withInput { TrailerInput.reset with ready := some ⟨64, 32, []⟩ }).vin.ready, f.width = 64)
      ∧ State.reset.vin.ready = none
      ∧ (∀ remaining ∈ [1, 2], let s := watched7 (touched remaining);
        s.resetPin = false ∧ s.frameTaken = [] ∧ (s.monitor 7).running = true ∧ (s.monitor 7).remaining = remaining
          ∧ 2 ≤ (s.monitor 7).period ∧ s.vin.ready = none ∧ (s.layer 7).namesVin = false)
      ∧ (State.reset.monitor 7).running = false
      ∧ (image63 .opening .direct 0).cap.phase ≠ .held ∧ ((image63 .opening .direct 0).slot 63).state = .opening := by
  decide +kernel

/-- Timer 2 of section 8.9 at its last count, its slots' state and the input as given. -/
def lastCountOf (v : TrailerInput) (state : SlotState) : State :=
  { strip { timer2 with running := true, count := 1, prescaleCount := 3 } with vin := v }.setSlot 50
    (slotOfCl0 state .direct 2 1 0 [])

theorem captureOk_lastCount : CaptureOk (lastCountOf (inputOf 720 420 .locked) .empty) := by
  refine ⟨by decide +kernel, fun p => by cases p <;> decide +kernel, by decide +kernel, rfl, ?_⟩
  unfold Crop.ok; decide +kernel

/-- Timer 3 running in a mode, from a source, at a count and a prescale count. -/
def counting (mode : TimerMode) (source : TimerSource) (count prescaleCount : Nat) : FrameTimer :=
  { timer2 with
    running := true, action := .event, mode := mode, source := source, count := count, prescaleCount := prescaleCount }

theorem witness_DueCountsExpireAndTrigger :
    (let s := { asked .cl0 .locked (oneActive .cl0) with vin := { inputOf 720 420 .locked with silence := 7 } };
      s.resetPin = false ∧ s.vin.lock = .locked ∧ 7 ≤ s.vin.silence ∧ FrameWork.silence ∉ s.frameTaken
        ∧ s.cap.phase = .settle)
      ∧ (withInput { inputOf 720 420 .locked with silence := 6 }).vin.silence < 7
      ∧ (State.reset.vin.lock ≠ .locked)
      ∧ ((watched7 (touched 1)).resetPin = false ∧ ((watched7 (touched 1)).monitor 7).running = true
        ∧ ((watched7 (touched 1)).monitor 7).remaining ≤ 1 ∧ FrameWork.monitor 7 ∉ (watched7 (touched 1)).frameTaken)
      ∧ 1 < ((watched7 (touched 2)).monitor 7).remaining
      ∧ (∀ count ∈ [1, 2], let m := (timer3 { timer2 with running := true, action := .event, count := count, prescaleCount := 3 }).timer 3;
        m.running = true ∧ m.mode ≠ .measure ∧ m.prescaler ≤ m.prescaleCount + 1 ∧ m.source = .ofs ∧ m.count = count)
      ∧ (∀ v ∈ [inputOf 720 420 .off, inputOf 720 420 .locked], ∀ state ∈ [SlotState.free, .empty],
        let s := lastCountOf v state
        s.resetPin = false ∧ (s.timer 2).running = true ∧ (s.timer 2).mode = .free ∧ (s.timer 2).source = .ofs
          ∧ (s.timer 2).action = .capture ∧ (s.timer 2).template = some ⟨⟨0, 0, 720, 420, 6, 6⟩, 50, 3⟩
          ∧ (s.timer 2).holder = some .cl0 ∧ (s.timer 2).prescaler ≤ (s.timer 2).prescaleCount + 1
          ∧ (s.timer 2).count ≤ 1 ∧ FrameWork.timer 2 ∉ s.frameTaken ∧ (50 : Fin 64).val = 50 + (s.timer 2).templateIndex
          ∧ (s.slot 50).state = state)
      ∧ CaptureOk (lastCountOf (inputOf 720 420 .locked) .empty)
      ∧ (let s := (withInput (inputOf 720 420 .locked)).setMonitor 7 (touched 2);
        s.resetPin = false ∧ s.frameTaken = [] ∧ s.vin.lock = .locked ∧ (s.monitor 7).running = true
          ∧ s.vin.ready = none ∧ (s.monitor 0).running = false)
      ∧ (let s := ((withInput { receiving64 .locked with ready := some ⟨64, 32, []⟩ }).setMonitor 7 (touched 2)).setLayer 7
          { Layer.reset with binding := .bound, owner := some .cl0, attrs := { Attributes.reset with source := .vin } };
        s.vin.ready ≠ none ∧ (s.layer 7).attrs.source = .vin ∧ (s.layer 7).staged = none ∧ (s.layer 7).binding = .bound
          ∧ 2 ≤ (s.monitor 7).remaining ∧ 2 ≤ (s.monitor 7).period)
      ∧ ∀ mode ∈ [TimerMode.free, .oneshot, .measure], ∀ source ∈ [TimerSource.ofs, .ife], ∀ count ∈ [1, 2],
        ∀ k ∈ [2, 3],
        let s := { timer3 (counting mode source count k) with vin := receiving64 .locked };
        s.resetPin = false ∧ s.frameTaken = [] ∧ s.timer 3 = counting mode source count k ∧ (s.timer 3).prescaler = 4
          ∧ s.vin.lock ≠ .off ∧ s.vin.receiving = some ⟨64, 32, false⟩ :=
  ⟨by decide +kernel, by decide +kernel, by decide +kernel, by decide +kernel, by decide +kernel, by decide +kernel,
    by decide +kernel, captureOk_lastCount, by decide +kernel, by decide +kernel, by decide +kernel⟩

/-- A request for slot 30, 31 or another, that fits a 720 × 420 format or is one pixel too wide for it. -/
def askedFor (slot : Fin 64) (fits : Bool) : CaptureRequest :=
  { request30 with slot := slot, crop := ⟨if fits then 0 else 1, 0, 720, 420, 6, 6⟩ }

/-- A thumbnail held, with a queue, an input at 720 × 420 in a lock state, a settle value and a silence count. -/
def heldWith (queue : List CaptureRequest) (lock : LockState) (settle silence : Nat) : State :=
  { holding ⟨102, 122, 131⟩ with
    vin := { inputOf 720 420 lock with settle := settle, silence := silence }
    cap := { (holding ⟨102, 122, 131⟩).cap with queue := queue } }

/-- Heads that do not fit, and a first that does, with another behind it. -/
def deads : List (List CaptureRequest) := [[], [askedFor 31 false], [askedFor 31 false, askedFor 34 false]]
def rests : List (List CaptureRequest) := [[], [askedFor 32 true, askedFor 33 false]]

theorem firstFit_asked (width : Nat) (lock : LockState) (h : width = 720) :
    ∀ dead ∈ deads, ∀ rest ∈ rests, FirstFit (inputOf width 420 lock) (dead ++ rest) dead rest := by
  subst h
  intro dead hd rest hr
  refine ⟨rfl, ?_, ?_⟩ <;> unfold CaptureRequest.within <;> simp only [inputOf] <;> revert dead rest <;> decide +kernel

theorem witness_TakeoverAndActivation :
    (∀ dead ∈ deads, ∀ rest ∈ rests, ∀ lock ∈ [LockState.locked, .lost], ∀ settle ∈ [0, 1], ∀ silence ∈ [6, 7],
        let s := heldWith (dead ++ rest) lock settle silence
        s.resetPin = false ∧ s.frameTaken = [] ∧ s.cap.phase = .held ∧ s.cap.active = some request30
          ∧ s.cap.result = .finished 1 1 [⟨102, 122, 131⟩] ∧ s.cap.queue = dead ++ rest ∧ s.vin.lock = lock
          ∧ s.vin.silence = silence ∧ ∀ i, (s.timer i).running = false)
      ∧ (∀ dead ∈ deads, ∀ rest ∈ rests, FirstFit (inputOf 720 420 .locked) (dead ++ rest) dead rest)
      ∧ State.reset.cap.phase ≠ .held
      ∧ ∀ dead ∈ deads, ∀ rest ∈ rests,
        let s := { asked .cl0 .locked (oneQueued .cl0) with
          vin := inputOf 720 420 .locked, cap := { CaptureUnit.reset with queue := dead ++ rest } }
        s.cap.phase = .idle ∧ s.vin.lock = .locked ∧ s.cap.queue = dead ++ rest :=
  ⟨by decide +kernel, firstFit_asked 720 .locked rfl, by decide, by decide +kernel⟩

/-- The frame start itself takes the thumbnail over and serves the next request (R132). -/
theorem test_outputFrameStart_takes_over :
    let t := after (.outputFrameStart []) (heldWith [askedFor 31 true] .locked 1 0)
    (t.slot 30).state = .ready ∧ (t.port .cl0).reports = [⟨11, 30, .ok, .command⟩]
      ∧ t.cap.active = some (askedFor 31 true) ∧ t.cap.phase = .settle := by decide +kernel

/-- One line of 64 black pixels on the bus. -/
def line64 : List BusSample := List.replicate 64 ⟨true, 0x1080⟩ ++ [⟨false, 0⟩]

theorem witness_FrameMarksJudgeTheFrame :
    ((inputOf 64 32 .acquiring).lock ≠ .off ∧ (inputOf 64 32 .acquiring).receiving = none)
      ∧ State.reset.vin.lock = .off
      ∧ (∀ lock ∈ [LockState.acquiring, .locked, .lost], (withInput (receiving64 lock)).vin.lock ≠ .off
        ∧ (withInput (receiving64 lock)).vin.receiving = some ⟨64, 32, false⟩)
      ∧ ((busLines (List.replicate 32 line64).flatten).length = 32
        ∧ ∀ line ∈ busLines (List.replicate 32 line64).flatten, line.length = 64)
      ∧ (busLines line64).length ≠ 32
      ∧ ([List.replicate 961 (0x1080 : Half)][0]? = some (List.replicate 961 0x1080)
        ∧ 959 < (List.replicate 961 (0x1080 : Half)).length) := by decide +kernel

/-- The Capture Unit in a phase, serving a request for a 64 × 32 frame. -/
def serving (phase : Phase) (settle : Nat) (sampled : Sampled) : State :=
  { State.reset with
    vin := { receiving64 .locked with settle := 2 }
    cap := ⟨[], some { request30 with crop := ⟨0, 0, 64, 32, 8, 8⟩ }, phase, settle, sampled, .forming 8 4⟩ }

/-- A request for the whole of a 64 × 32 frame. -/
def small30 : CaptureRequest := { request30 with crop := ⟨0, 0, 64, 32, 8, 8⟩ }

theorem witness_CaptureFollowsInputFrameEnds :
    (∀ k ∈ [0, 1], let s := serving .settle k .none
      s.vin.lock = .locked ∧ s.vin.receiving = some ⟨64, 32, false⟩
        ∧ (∀ i, (s.timer i).running = false) ∧ s.cap.phase = .settle ∧ s.cap.settleCount = k ∧ s.vin.settle = 2
        ∧ s.vin.badRun = 0 ∧ s.cap.active.isSome = true)
      ∧ (∀ x ∈ [Sampled.receiving, .awaited], let s := serving .sample 2 x
        s.cap.phase = .sample ∧ s.cap.sampled = x ∧ s.vin.badRun = 0)
      ∧ (let s := { serving .recover 2 .none with cap := { CaptureUnit.reset with phase := .recover } };
        s.cap.phase = .recover ∧ s.cap.queue = [])
      ∧ ((serving .held 2 .none).cap.phase = .held ∧ (serving .held 2 .none).vin.lock ≠ .off)
      ∧ (∀ phase ∈ [Phase.settle, .sample],
        let s := { serving phase 1 .none with vin := { receiving64 .locked with badRun := 1 } };
        s.vin.lock = .locked ∧ 1 ≤ s.vin.badRun ∧ s.cap.phase = phase ∧ s.cap.active.isSome = true)
      ∧ (∀ phase ∈ [Phase.idle, .recover], ∀ settle ∈ [0, 1], ∀ goodCount ∈ [1, 2], ∀ dead ∈ [[], [askedFor 31 true]],
        ∀ rest ∈ [[], [small30]],
        let s := { State.reset with
          vin := { receiving64 .acquiring with settle := settle, goodCount := goodCount }
          cap := { CaptureUnit.reset with phase := phase, queue := dead ++ rest } };
        s.vin.lock = .acquiring ∧ s.vin.goodCount = goodCount ∧ s.cap.phase = phase ∧ s.cap.queue = dead ++ rest
          ∧ s.vin.receiving = some ⟨64, 32, false⟩)
      ∧ (∀ dead ∈ [[], [askedFor 31 true]], ∀ rest ∈ [[], [small30]], FirstFit (receiving64 .acquiring) (dead ++ rest) dead rest)
      ∧ (let s := { serving .settle 0 .none with timers := Vector.replicate 4 (counting .free .ife 1 3) };
        ∀ i, (s.timer i).running = true ∧ (s.timer i).action = .event) := by
  refine ⟨?_, ?_, ?_, ?_, ?_, ?_, ?_, ?_⟩ <;> (try unfold FirstFit CaptureRequest.within) <;> decide +kernel

/-- An input frame end that does not bring the lock ends RECOVER with the queue kept (R133). -/
theorem test_recover_ends_without_lock :
    (after (.inputFrameEnd [] []) { State.reset with
      vin := receiving64 .lost, cap := { CaptureUnit.reset with phase := .recover, queue := [small30] } }).cap
      = { CaptureUnit.reset with queue := [small30] } := by decide +kernel

/-- Timer 2 of section 8.9 at its last count, from a source, and the frame of its format in reception. -/
def triggering (source : TimerSource) (v : TrailerInput) (state : SlotState) (c : CaptureUnit) : State :=
  let s := { strip { timer2 with source := source, running := true, count := 1, prescaleCount := 3 } with vin := v, cap := c }
  s.setSlot 50 (slotOfCl0 state .direct 2 1 0 [])

/-- A 720 × 420 input with a frame in reception. -/
def receiving720 (lock : LockState) : TrailerInput :=
  { inputOf 720 420 lock with receiving := some ⟨720, 420, false⟩, goodCount := 2 }

theorem captureOk_triggering : ∀ source ∈ [TimerSource.ofs, .ife], ∀ lock ∈ [LockState.acquiring, .locked],
    ∀ c ∈ [CaptureUnit.reset, { CaptureUnit.reset with phase := .recover }],
    CaptureOk (triggering source (receiving720 lock) .empty c) := by
  have ports : ∀ source ∈ [TimerSource.ofs, .ife], ∀ lock ∈ [LockState.acquiring, .locked],
      ∀ c ∈ [CaptureUnit.reset, { CaptureUnit.reset with phase := .recover }], ∀ p,
      (triggering source (receiving720 lock) .empty c).outstanding p ≤ 5 := by
    intro source hs lock hl c hc p
    revert source lock c
    cases p <;> decide +kernel
  have fits : ∀ c ∈ [CaptureUnit.reset, { CaptureUnit.reset with phase := .recover }], resultFits c := by
    intro c hc
    simp only [List.mem_cons, List.not_mem_nil, or_false] at hc
    rcases hc with rfl | rfl <;> rfl
  intro source hs lock hl c hc
  refine ⟨?_, ports source hs lock hl c hc, ?_, fits c hc, ?_⟩ <;> revert source lock c <;> (try unfold Crop.ok) <;>
    decide +kernel

/-- A black 720 × 420 frame on the bus. -/
def screen720 : List BusSample :=
  (List.replicate 420 ((List.replicate 720 (0x1080 : Half)).map (BusSample.mk true) ++ [⟨false, 0⟩])).flatten

theorem busLines_screen (n : Nat) (a : Half) (line : List Half) :
    busLines (List.replicate n ((a :: line).map (BusSample.mk true) ++ [⟨false, 0⟩])).flatten
      = List.replicate n (a :: line) := by
  induction n with
  | zero => rfl
  | succ n ih =>
    rw [List.replicate_succ, List.flatten_cons, List.append_assoc, busLines, busRuns_append, List.replicate_succ, ← ih]
    simp [busRuns, busLines]

theorem screen720_good :
    (busLines screen720).length = 420 ∧ ∀ line ∈ busLines screen720, line.length = 720 := by
  have h := busLines_screen 420 0x1080 (List.replicate 719 0x1080)
  rw [← List.replicate_succ] at h
  rw [screen720, h]
  exact ⟨List.length_replicate, fun line hl => by rw [List.eq_of_mem_replicate hl, List.length_replicate]⟩

theorem witness_FrameEventsTriggerCaptures :
    (∀ source ∈ [TimerSource.ofs, .ife], ∀ v ∈ [inputOf 720 420 .off, receiving720 .acquiring, receiving720 .locked],
      ∀ state ∈ [SlotState.free, .empty], ∀ c ∈ [CaptureUnit.reset, { CaptureUnit.reset with phase := .recover }, oneActive .cl0],
        let s := triggering source v state c
        s.resetPin = false ∧ s.frameTaken = [] ∧ s.vin = v ∧ s.cap = c
          ∧ ((s.timer 2).running = true ∧ (s.timer 2).mode ≠ .measure ∧ (s.timer 2).source = source
            ∧ (s.timer 2).action = .capture ∧ (s.timer 2).prescaler ≤ (s.timer 2).prescaleCount + 1 ∧ (s.timer 2).count ≤ 1)
          ∧ (∀ j, j ≠ 2 → (s.timer j).running = false)
          ∧ (s.timer 2).template = some ⟨⟨0, 0, 720, 420, 6, 6⟩, 50, 3⟩ ∧ (s.timer 2).holder = some .cl0
          ∧ (50 : Fin 64).val = 50 + (s.timer 2).templateIndex ∧ (s.slot 50).state = state
          ∧ (s.slot 50).captureFlag = false ∧ s.outstanding .cl0 < 5)
      ∧ (∀ source ∈ [TimerSource.ofs, .ife], ∀ lock ∈ [LockState.acquiring, .locked],
        ∀ c ∈ [CaptureUnit.reset, { CaptureUnit.reset with phase := .recover }],
        CaptureOk (triggering source (receiving720 lock) .empty c))
      ∧ (receiving720 .locked).receiving = some ⟨720, 420, false⟩
      ∧ FirstFit (receiving720 .locked) [] [] []
      ∧ (busLines screen720).length = 420 ∧ ∀ line ∈ busLines screen720, line.length = 720 :=
  ⟨by decide +kernel, captureOk_triggering, rfl, ⟨rfl, nofun, nofun⟩, screen720_good⟩

/-- OFS 8 of section 8.9: the trigger's request is active at once (R150, R129). -/
theorem test_outputFrameStart_triggers :
    let t := after (.outputFrameStart []) (triggering .ofs (receiving720 .locked) .empty CaptureUnit.reset)
    t.cap.active = some ⟨.cl0, 0, 50, ⟨0, 0, 720, 420, 6, 6⟩, .timer 2⟩ ∧ (t.timer 2).templateIndex = 1
      ∧ (t.slot 50).captureFlag = true ∧ (t.port .cl0).hasFlag .timer = true := by decide +kernel

theorem witness_LayersDrawTheirSamplesInOrder :
    (let l := layerView State.reset 0; l.binding ≠ .bound ∧ l.attrs.visible = false)
      ∧ (drawn 0 []).current = 0 ∧ { drawn 16 [] with expired := .hidden }.expired = .hidden
      ∧ (∀ current ∈ [1, 16], let l := drawn current [entryOf 0 1, ⟨1, 63, 959, 539, some ⟨959, 539, 959, 539⟩, 0, 1⟩];
        l.binding = .bound ∧ l.attrs.visible = true ∧ 1 ≤ l.current ∧ l.expired = .none ∧ l.attrs.source = .placements
          ∧ l.live = [] ++ entryOf 0 1 :: [⟨1, 63, 959, 539, some ⟨959, 539, 959, 539⟩, 0, 1⟩])
      ∧ (twoLayers.image 1 = some ⟨.direct, 1, 1, [.direct ⟨180, 100, 150⟩]⟩ ∧ twoLayers.image 63 = none)
      ∧ (let v := { twoLayers with shown := some ⟨1, 1, [[⟨16, 128, 128⟩]]⟩ }
        v.shown = some ⟨1, 1, [[⟨16, 128, 128⟩]]⟩ ∧ twoLayers.zOrder = [0, 2, 1, 3, 5, 4, 6] ++ [7])
      ∧ twoLayers.image 12 = some ⟨.indexed, 1, 1, [.indexed 9]⟩ ∧ (9 : Fin 256).val = (9 : Fin 16).val
      ∧ (49 : Fin 256).val = 8 * (6 : Fin 32).val + ((9 : Fin 16).val - 8)
      ∧ { drawn 1 [] with expired := .fallback, fallback := some 12 }.fallback = some 12 := by
  decide +kernel

theorem witness_BlendIsExactAtTheEnds : 16 ≤ 16 ∧ 1 * 7 ≤ 7 ∧ ¬ 1 * 8 ≤ 7 ∧ 2 * 4 ≤ 8 := by decide

theorem witness_OnlyFrameStartsChangeTheScreen :
    (∀ order, Instr.lyrClaim .cl0 1 3 ≠ .outputFrameStart order) ∧ Instr.lyrClaim .cl0 1 3 ≠ .resetAsserted :=
  ⟨fun _ => nofun, nofun⟩

theorem witness_PortsCannotTouchOthersHoldings :
    Port.cl0 ≠ .cl1 ∧ commandOf (.lyrClaim .cl0 1 3) = some (.cl0, frameLyrClaim 1 3, lyrClaim .cl0 3)
      ∧ Instr.prst .cl0 = .prst .cl0
      ∧ ((held 3 none State.reset).setLayer 6 { Layer.reset with binding := .bound, owner := some .cl1 }).layer 6
        = { Layer.reset with binding := .bound, owner := some .cl1 } :=
  ⟨by decide, rfl, rfl, by decide +kernel⟩

/-! ### A state that meets every invariant, with each block in use -/

/-- Layer 7 of `lively`: CL0's, drawn from slot 63, with an edit begun. -/
def livelyLayer : Layer := { Layer.reset with
  binding := .bound, owner := some .cl0, live := [entryOf 0 63], staged := some { blank with list := [entryOf 1 63] } }

/-- Slot 63 of `lively`, with its two placements and the monitor's reference. -/
def livelySlot : Slot := { slotOfCl0 .ready .direct 1 1 1 [.direct ⟨16, 128, 128⟩] with refCount := 3 }

/-- CL0 of `lively`: in a block, its clips nested, a frame waiting and a record of the largest value and length unread. -/
def livelyPort : PortState := { PortState.reset with
  queue := [frameClipPop 1], ring := [⟨1, 0x37, .ok, 65535, List.replicate 8 0⟩], clips := [⟨2, 2, 9, 9⟩, ⟨1, 1, 10, 10⟩]
  rpt := ⟨[frameClipPop 9], 0, .capturing, 1, 64, 0, 0, some (2, 0x78), 0, none⟩ }

/-- CL0 holds a layer under its monitor, two slots, the locked trailer input, a timer and an active request. -/
def lively : State :=
  { ((((asked .cl0 .locked (oneActive .cl0)).setLayer 7 livelyLayer).setSlot 63 livelySlot).setMonitor 7
      { touched 8 with fallback := some 63 }).setPort .cl0 livelyPort with
    timers := (Vector.replicate 4 FrameTimer.reset).set 2 { timer2 with running := true }
    pending := [.clipPop .cl0 1] }

theorem lively_steps : ∃ s', step lively = .next s' := ⟨_, rfl⟩

theorem lively_layer (l : Fin 8) : lively.layer l = if l = 7 then livelyLayer else Layer.reset := by
  revert l; decide +kernel

theorem lively_slot (i : Fin 64) : lively.slot i = if i = 63 then livelySlot else if i = 30 then
    { slotOfCl0 .empty .direct 0 0 0 [] with captureFlag := true } else Slot.freed [] := by
  revert i; decide +kernel

theorem lively_scene : ZOrdersOk lively ∧ PoolOk lively ∧ LayersOk lively ∧ SourceOk lively := by
  refine ⟨?_, ?_, fun l => ?_, ?_⟩
  · unfold ZOrdersOk; decide +kernel
  · unfold PoolOk; decide +kernel
  · rw [lively_layer]
    split
    · show livelyLayer.owner ≠ none
      decide
    · rfl
  · unfold SourceOk; decide +kernel

theorem lively_slots : SlotsOk lively := by
  intro i
  rw [lively_slot]
  split
  · exact ⟨.inr (by decide), by decide, by decide, nofun, nofun, nofun, rfl⟩
  · split
    · exact ⟨.inl ⟨rfl, rfl⟩, by decide, by decide, fun _ => .inl rfl, nofun, nofun, rfl, rfl⟩
    · exact ⟨.inl ⟨rfl, rfl⟩, by decide, by decide, nofun, nofun, rfl⟩

theorem lively_refs : RefsOk lively := by unfold RefsOk; decide +kernel

theorem lively_capture : CaptureOk lively := by
  refine ⟨by decide +kernel, fun p => by cases p <;> decide +kernel, by decide +kernel, rfl, ?_⟩
  unfold Crop.ok; decide +kernel

theorem lively_timers : TimersOk lively := by
  have h : ∀ t : Fin 4, lively.timer t = if t = 2 then { timer2 with running := true } else FrameTimer.reset := by
    decide +kernel
  intro t
  rw [h]
  split <;> refine ⟨?_, ?_, ?_, ?_, ?_, ?_, ?_, ?_, ?_, ?_, ?_⟩ <;> (try unfold Crop.ok) <;> decide

theorem lively_monitors : MonitorsOk lively := by
  unfold MonitorsOk MonitorOk; decide +kernel

theorem lively_trailer : TrailerOk lively :=
  ⟨by decide, by decide, by decide, by decide, by decide, by decide, by decide, ⟨rfl, by decide, by decide⟩, nofun, nofun,
    nofun, nofun⟩

theorem resetPort_ok : PortOk PortState.reset :=
  ⟨by decide, trivial, by decide, by decide, trivial, nofun, by unfold CursorOk; decide, by unfold CursorOk; decide,
    by decide, nofun, by decide, by decide, by decide, by decide, rfl, rfl⟩

theorem lively_ports : PortsOk lively := by
  intro p
  cases p
  · exact ⟨by decide, trivial, by decide, by decide, ⟨by unfold Rect.inside; decide, by unfold nestedClips Rect.inside; decide⟩,
      by decide, by unfold CursorOk; decide +kernel, by unfold CursorOk; decide +kernel, by decide, by decide, by decide, by decide,
      by decide, by decide, rfl, nofun, by decide, by decide⟩
  · exact resetPort_ok
  · exact resetPort_ok

theorem lively_colours : ColoursOk lively := by
  unfold ColoursOk
  refine ⟨by decide +kernel, by decide +kernel, by decide +kernel, by decide +kernel, by decide +kernel, nofun, nofun, nofun⟩

theorem lively_view : ColoursOk { lively with view := some (takeView State.reset) } := by
  obtain ⟨a, b, c, d, e, f, g, _⟩ := lively_colours
  refine ⟨a, b, c, d, e, f, g, fun v hv => ?_⟩
  obtain rfl := Option.some.inj hv
  refine ⟨by decide +kernel, by decide +kernel, by decide +kernel, fun i img hi => ?_, nofun⟩
  have none : ∀ i, (takeView State.reset).image i = none := by decide +kernel
  rw [none i] at hi
  cases hi

theorem witness_OutputPixelsLieInVideoRange :
    ColoursOk { lively with view := some (takeView State.reset) }
      ∧ { lively with view := some (takeView State.reset) }.view ≠ none :=
  ⟨lively_view, nofun⟩

theorem witness_SceneTableStaysConsistent :
    (ZOrdersOk lively ∧ PoolOk lively ∧ LayersOk lively ∧ SourceOk lively) ∧ ∃ s', step lively = .next s' :=
  ⟨lively_scene, lively_steps⟩

theorem witness_ReferenceCountsStayExact : RefsOk lively ∧ ∃ s', step lively = .next s' := ⟨lively_refs, lively_steps⟩

theorem witness_SlotStoreStaysConsistent :
    (SlotStoreOk lively ∧ TimersOk lively) ∧ ∃ s', step lively = .next s' :=
  ⟨⟨⟨lively_refs, lively_capture, lively_slots⟩, lively_timers⟩, lively_steps⟩

theorem witness_CaptureUnitStaysConsistent :
    (CaptureOk lively ∧ TimersOk lively) ∧ ∃ s', step lively = .next s' :=
  ⟨⟨lively_capture, lively_timers⟩, lively_steps⟩

theorem witness_TrailerInputTimersAndMonitorsStayInRange :
    (TrailerOk lively ∧ TimersOk lively ∧ MonitorsOk lively) ∧ ∃ s', step lively = .next s' :=
  ⟨⟨lively_trailer, lively_timers, lively_monitors⟩, lively_steps⟩

theorem lively_records : RecordsOk lively := by
  intro p
  cases p <;> unfold ResultRecord.fits <;> decide +kernel

theorem witness_PortsStayWithinTheirLimits :
    PoolOk lively ∧ RefsOk lively ∧ SlotsOk lively ∧ TimersOk lively ∧ MonitorsOk lively ∧ PortsOk lively
      ∧ RecordsOk lively ∧ ∃ s', step lively = .next s' :=
  ⟨lively_scene.2.1, lively_refs, lively_slots, lively_timers, lively_monitors, lively_ports, lively_records, lively_steps⟩

theorem witness_ColoursStayInRange : ColoursOk lively ∧ ∃ s', step lively = .next s' :=
  ⟨lively_colours, lively_steps⟩

end Sys2Proof.Tests
end

section
/-! PROOFS. What one step can write, said once. A row of the table is a chain of single writes (`Write`), each with its writer
and with what the guards before it have checked. Claims about every step are then claims about one write. -/

namespace Sys2Proof.Machine

/-! ### Commands as operations -/

/-- A command row is the taking of its frame by its port's executor (R177). -/
theorem exec_of_commandOf {i : Instr} {p : Port} {f : Frame} {op : CommandOp} (h : commandOf i = some (p, f, op))
    (s : State) : exec i s = .next (takeCommand p f op s) := by
  cases i with
  | unknownCommand q tag code operands =>
    simp only [commandOf] at h
    split at h
    · cases h
    · rename_i hk
      obtain ⟨rfl, rfl, rfl⟩ := h
      show execUnknownCommand _ _ _ _ _ = _
      simp only [execUnknownCommand, if_neg hk]
  | _ => cases h <;> rfl

/-! ### Writers -/

/-- Who writes: a port's command, port reset or link transaction; a block's work at an output frame start; the blocks at
an input frame end; any other event. -/
inductive Writer where
  | port (p : Port)
  | work (k : FrameWork)
  | mark
  | other

/-- A block's work that writes what is live (R17, R20, R73, R116). -/
def Writer.bringsLive (w : Writer) : Prop := w = .work .scene ∨ w = .work .palette ∨ w = .work .promotion

/-- Nobody but the writer holds the thing, where the writer is a port (R2, R50, R78, R106, R143). -/
def MayWrite (w : Writer) (owner : Option Port) : Prop := ∀ p q, w = .port p → owner = some q → q = p

/-- Who may make a monitor expire: its layer's owner and the monitor itself (R154, R159). -/
def MayWatch (w : Writer) (l : Fin 8) (owner : Option Port) : Prop :=
  match w with
  | .port p => owner = some p
  | .work k => k = .monitor l
  | .mark | .other => False

/-- FRAME is raised by the blocks that apply commits and open slots (R23, R55). -/
def MayRaise (w : Writer) (f : EventFlag) : Prop := f = .frame → w = .work .scene ∨ w = .work .slots

/-- The writer is no port. -/
def Writer.free (w : Writer) : Prop := ∀ p, w ≠ .port p

theorem Writer.free_work (k : FrameWork) : (Writer.work k).free := fun _ => nofun
theorem Writer.free_mark : Writer.mark.free := fun _ => nofun
theorem Writer.free_other : Writer.other.free := fun _ => nofun

theorem Writer.free.mayWrite {w : Writer} (h : w.free) (owner : Option Port) : MayWrite w owner :=
  fun p _ hw => absurd hw (h p)

theorem MayWrite.unheld (w : Writer) : MayWrite w none := nofun

theorem MayWrite.of_eq {p : Port} {owner : Option Port} (h : owner = some p) : MayWrite (.port p) owner := by
  rintro _ _ ⟨⟩ hq
  exact Option.some.inj (hq.symm.trans h)

/-- What port `q` holds no other port may write. -/
theorem MayWrite.not_held {p q : Port} (hpq : p ≠ q) {owner : Option Port} (h : MayWrite (.port p) owner) :
    owner ≠ some q := fun e => hpq (h p q rfl e).symm

/-! ### Single writes -/

/-- What one write may make of the record of layer `l` (R9 to R14, R17 to R21, R31, R159). -/
inductive LayerEdit (s : State) (l : Fin 8) : Writer → Layer → Prop
  | claim (p : Port) (h : (s.layer l).binding = .unbound) :
    LayerEdit s l (.port p) { s.layer l with binding := .bound, owner := some p }
  | discard (p : Port) (ho : (s.layer l).owner = some p) (hb : (s.layer l).binding ≠ .releasing) :
    LayerEdit s l (.port p) { s.layer l with staged := none }
  | release (p : Port) (ho : (s.layer l).owner = some p) (hb : (s.layer l).binding ≠ .releasing)
    (hs : (s.layer l).staged = none) : LayerEdit s l (.port p) { s.layer l with binding := .releasing }
  | beginFresh (p : Port) (ho : (s.layer l).owner = some p) (hb : (s.layer l).binding ≠ .releasing)
    (hs : (s.layer l).staged = none) : LayerEdit s l (.port p) { s.layer l with staged := stage (s.layer l) [] }
  | beginCopy (p : Port) (ho : (s.layer l).owner = some p) (hb : (s.layer l).binding ≠ .releasing)
    (hs : (s.layer l).staged = none) :
    LayerEdit s l (.port p)
      { s.layer l with staged := stage (s.layer l) (copyEntries s.poolFree (s.layer l).live) }
  | attrs (p : Port) (ho : (s.layer l).owner = some p) (hb : (s.layer l).binding ≠ .releasing) (r : PendingRecord)
    (hs : (s.layer l).staged = some r) (a : Attributes) (ha : a.inRange = true)
    (hv : a.source = .vin → r.list = [] ∧ vinElsewhere s l = false) :
    LayerEdit s l (.port p) { s.layer l with staged := some { r with attrs := a } }
  | place (p : Port) (ho : (s.layer l).owner = some p) (hb : (s.layer l).binding ≠ .releasing) (r : PendingRecord)
    (hs : (s.layer l).staged = some r) (ha : r.attrs.source = .placements) (hl : r.list.length < Config.listMax)
    (e : Placement) (he : e.index ∈ s.poolFree) :
    LayerEdit s l (.port p) { s.layer l with staged := some { r with list := r.list ++ [e] } }
  | commit (p : Port) (ho : (s.layer l).owner = some p) :
    LayerEdit s l (.port p) { s.layer l with
      staged := (s.layer l).staged.map fun r => { r with committed := true, clearsExpiry := true } }
  | expire (w : Writer) (hw : MayWatch w l (s.layer l).owner) (a : MonitorAction) :
    LayerEdit s l w { s.layer l with
      expired := expiredBy a (s.layer l).expired, staged := stagedAfterExpiry a (s.layer l).staged }
  | apply (r : PendingRecord) (hs : (s.layer l).staged = some r) (e : Expired) :
    LayerEdit s l (.work .scene) { s.layer l with attrs := r.attrs, live := r.list, staged := none, expired := e }
  | drop : LayerEdit s l (.work .scene) { s.layer l with staged := none }
  | finish : LayerEdit s l (.work .scene) { Layer.reset with expired := (s.layer l).expired }
  | opacity : LayerEdit s l (.work .scene) { s.layer l with
      current := opacityStep (s.layer l).attrs.target (s.layer l).attrs.step (s.layer l).current }

/-- One write of writer `w`. -/
inductive Write (w : Writer) (s : State) : State → Prop
  | port (p : Port) (hw : w = .port p) (x : PortState) : Write w s (s.setPort p x)
  | raise (q : Port) (f : EventFlag) (hf : MayRaise w f) : Write w s (s.raise q f)
  | reports (q : Port) (rs : List CaptureReport) : Write w s (s.setPort q { s.port q with reports := rs })
  | addRef (i : Fin 64) : Write w s (s.addRef i)
  | dropRef (i : Fin 64) : Write w s (s.dropRef i)
  | flag (i : Fin 64) (b : Bool) : Write w s (s.setCaptureFlag i b)
  | slot (p : Port) (hw : w = .port p) (i : Fin 64) (x : Slot)
    (ho : (s.slot i).state = .free ∨ (s.slot i).owner = some p)
    (hp : ∀ px ∈ x.pixels, px ∈ (s.slot i).pixels ∨ px.inRange = true) : Write w s (s.setSlot i x)
  | openSlot (hw : w = .work .slots) (i : Fin 64) (h : (s.slot i).state = .opening) :
    Write w s (s.setSlot i { s.slot i with state := .opened })
  | takeOver (hw : w.free) (r : CaptureRequest) (width height : Nat) (cs : List Colour) (hp : s.cap.phase = .held)
    (ha : s.cap.active = some r) : Write w s (s.setSlot r.slot (takenOver (s.slot r.slot) width height cs))
  | cap (c : CaptureUnit) (hc : c.phase = .held → w = .mark ∨ (s.cap.phase = .held ∧ c.active = s.cap.active)) :
    Write w s (s.setCap c)
  | vin (x : TrailerInput) (hw : MayWrite w s.vin.holder) (hs : x.shown = s.vin.shown) (hr : x.ready = s.vin.ready) :
    Write w s (s.setVin x)
  | store (hw : w = .mark) (x : TrailerInput) (hs : x.shown = s.vin.shown)
    (hr : ∀ f ∈ x.ready, f ∈ s.vin.ready ∨ f.inRange = true) : Write w s (s.setVin x)
  | promote (hw : w = .work .promotion) (f : VideoFrame) (h : s.vin.ready = some f) :
    Write w s (s.setVin { s.vin with shown := some f, ready := none })
  | slice (p : Port) (hw : w = .port p) (i : Fin 32) (x : Option Port)
    (ho : s.sliceHolder i = none ∨ s.sliceHolder i = some p) : Write w s (s.setSliceHolder i x)
  | entry (p : Port) (hw : w = .port p) (n : Fin 256) (e : PaletteEntry) (hm : mayWrite s p n = true)
    (he : e.inRange = true) : Write w s (s.setPalPending n e)
  | timer (t : Fin 4) (x : FrameTimer) (hw : MayWrite w (s.timer t).holder) : Write w s (s.setTimer t x)
  | monitor (l : Fin 8) (x : Monitor) (hw : MayWatch w l (s.layer l).owner) : Write w s (s.setMonitor l x)
  | refresh (hw : w = .work .promotion) (l : Fin 8) :
    Write w s (s.setMonitor l { s.monitor l with remaining := (s.monitor l).period })
  | lock (p : Port) (hw : w = .port p) (l : Fin 8) (b : Bool) (q : Option Port) :
    Write w s (s.setMonitor l { s.monitor l with locked := b, lockingPort := q })
  | layer (l : Fin 8) (x : Layer) (h : LayerEdit s l w x) : Write w s (s.setLayer l x)
  | zPending (p : Port) (hw : w = .port p) (l k : Fin 8) : Write w s { s with zPending := moveLayer s.zPending l k.val }
  | backdropPending (p : Port) (hw : w = .port p) (c : Colour) (hc : c.inRange = true) :
    Write w s { s with backdropPending := c }
  | copyScene (hw : w = .work .scene) : Write w s s.copyScene
  | palette (hw : w = .work .palette) : Write w s s.paletteWork
  | frameTaken (ws : List FrameWork) : Write w s { s with frameTaken := ws }
  | pinReleased : Write w s { s with resetPin := false }

/-- A chain of writes of one writer. -/
abbrev Writes (w : Writer) : State → State → Prop := Relation.ReflTransGen (Write w)

theorem Write.writes {w : Writer} {s t : State} (h : Write w s t) : Writes w s t := .single h

/-- What each step of a fold is a chain of writes of, the fold is too. -/
theorem Writes.foldl {α : Type} {w : Writer} (f : State → α → State) (h : ∀ s a, Writes w s (f s a)) (as : List α)
    (s : State) : Writes w s (as.foldl f s) := by
  induction as generalizing s with
  | nil => exact .refl
  | cons a rest ih => exact (h s a).trans (ih (f s a))

/-- What each write of a chain keeps, the chain keeps. -/
theorem Writes.keep {w : Writer} {Inv : State → Prop} (h : ∀ s t, Write w s t → Inv s → Inv t) {s t : State}
    (hw : Writes w s t) (hs : Inv s) : Inv t := by
  induction hw with
  | refl => exact hs
  | tail _ hu ih => exact h _ _ hu ih

/-! ### Shared operations as chains of writes -/

section
variable {w : Writer} (s : State)

theorem State.raise_writes (p : Port) (f : EventFlag) (hf : MayRaise w f) : Writes w s (s.raise p f) :=
  (Write.raise p f hf).writes

theorem State.raiseAt_writes (p : Option Port) (f : EventFlag) (hf : MayRaise w f) :
    Writes w s (s.raiseAt p f) := by
  cases p with
  | none => exact .refl
  | some p => exact s.raise_writes p f hf

theorem State.raiseAll_writes (f : EventFlag) (hf : MayRaise w f) : Writes w s (s.raiseAll f) :=
  ((s.raise_writes .cl0 f hf).trans (State.raise_writes _ .cl1 f hf)).trans (State.raise_writes _ .cl2 f hf)

theorem State.pushReport_writes (p : Port) (r : CaptureReport) : Writes w s (s.pushReport p r) := by
  refine (Write.reports p _).writes.trans (State.raise_writes _ p _ ?_)
  split <;> exact nofun

theorem State.dropRefs_writes (ps : List Placement) : Writes w s (s.dropRefs ps) :=
  Writes.foldl _ (fun _ e => (Write.dropRef e.slot).writes) ps s

theorem State.addRefs_writes (ps : List Placement) : Writes w s (s.addRefs ps) :=
  Writes.foldl _ (fun _ e => (Write.addRef e.slot).writes) ps s

theorem State.setPort_writes (p : Port) (x : PortState) : Writes (.port p) s (s.setPort p x) :=
  (Write.port p rfl x).writes

/-- A write of the Capture Unit that leaves it out of HELD, or that keeps phase and active request. -/
theorem State.setCap_writes (c : CaptureUnit) (hc : c.phase = .held → s.cap.phase = .held ∧ c.active = s.cap.active) :
    Writes w s (s.setCap c) := (Write.cap c fun h => .inr (hc h)).writes

theorem State.endRequest_writes (r : CaptureRequest) (o : Option OutcomeCode) : Writes w s (s.endRequest r o) := by
  refine (Write.flag r.slot false).writes.trans ?_
  cases o with
  | none => exact .refl
  | some o => exact State.pushReport_writes _ _ _

theorem State.endRequests_writes (rs : List CaptureRequest) (o : Option OutcomeCode) :
    Writes w s (rs.foldl (fun s r => s.endRequest r o) s) :=
  Writes.foldl _ (fun _ r => State.endRequest_writes _ r o) rs s

theorem State.abortActive_writes (o : Option OutcomeCode) : Writes w s (s.abortActive o) := by
  unfold State.abortActive
  cases s.cap.active with
  | none => exact .refl
  | some r =>
    refine (s.setCap_writes _ fun h => ?_).trans (State.endRequest_writes _ r o)
    dsimp only at h
    split at h <;> cases h

theorem startRequest_phase (c : CaptureUnit) (settle : Nat) (atMark : Bool) (r : CaptureRequest)
    (rest : List CaptureRequest) : (startRequest c settle atMark r rest).phase ≠ .held := by
  unfold startRequest
  split <;> simp

theorem activateFrom_writes (atMark : Bool) (rs : List CaptureRequest) : Writes w s (activateFrom atMark rs s) := by
  induction rs generalizing s with
  | nil => exact s.setCap_writes _ fun h => ⟨h, rfl⟩
  | cons r rest ih =>
    unfold activateFrom
    split
    · exact s.setCap_writes _ fun h => absurd h (startRequest_phase _ _ _ _ _)
    · exact ((s.setCap_writes { s.cap with queue := rest } fun h => ⟨h, rfl⟩).trans (State.endRequest_writes _ r _)).trans
        (ih _)

theorem State.activate_writes (atMark : Bool) : Writes w s (s.activate atMark) := by
  unfold State.activate
  split
  · exact activateFrom_writes s atMark _
  · exact .refl

theorem State.acceptRequest_writes (r : CaptureRequest) (atMark : Bool) : Writes w s (s.acceptRequest r atMark) :=
  ((s.setCap_writes { s.cap with queue := s.cap.queue ++ [r] } fun h => ⟨h, rfl⟩).trans
    (Write.flag r.slot true).writes).trans (State.activate_writes _ atMark)

theorem State.abortAll_writes (o : OutcomeCode) : Writes w s (s.abortAll o) :=
  ((s.abortActive_writes (some o)).trans
    (State.setCap_writes _ { (s.abortActive (some o)).cap with queue := [] } fun h => ⟨h, rfl⟩)).trans
    (State.endRequests_writes _ _ _)

theorem State.abortOf_writes (p : Port) : Writes w s (s.abortOf p) := by
  unfold State.abortOf
  refine Relation.ReflTransGen.trans ?_ (State.endRequests_writes _ _ _)
  refine Relation.ReflTransGen.trans ?_ (State.setCap_writes _ _ ?_)
  · cases s.cap.active with
    | none => exact .refl
    | some r =>
      dsimp only
      split
      · exact s.abortActive_writes _
      · exact .refl
  · exact fun h => ⟨h, rfl⟩

/-- A write of the input that keeps its frames. -/
theorem State.setVin_writes (x : TrailerInput) (hw : MayWrite w s.vin.holder) (hs : x.shown = s.vin.shown)
    (hr : x.ready = s.vin.ready) : Writes w s (s.setVin x) := (Write.vin x hw hs hr).writes

theorem State.moveLock_writes (st : LockState) (hw : MayWrite w s.vin.holder) : Writes w s (s.moveLock st) := by
  have h : Writes w s ((s.setVin { s.vin with lock := st }).raiseAll .vinChange) :=
    (s.setVin_writes { s.vin with lock := st } hw rfl rfl).trans (State.raiseAll_writes _ _ nofun)
  unfold State.moveLock
  split
  · exact .refl
  · dsimp only
    split
    · exact h.trans (State.abortActive_writes _ _)
    · exact h

/-- A move of the lock state after a write of the input that keeps its frames. -/
theorem State.setVin_moveLock_writes (x : TrailerInput) (st : LockState) (hx : MayWrite w x.holder)
    (hw : MayWrite w s.vin.holder) (hs : x.shown = s.vin.shown) (hr : x.ready = s.vin.ready) :
    Writes w s ((s.setVin x).moveLock st) := (s.setVin_writes x hw hs hr).trans (State.moveLock_writes _ st hx)

/-- A move of the lock state changes nothing else of the input. -/
theorem State.vin_moveLock (st : LockState) : (s.moveLock st).vin = { s.vin with lock := st } := by
  rw [State.moveLock_eq]

/-- Aborting requests leaves the input. -/
theorem State.vin_abortAll (o : OutcomeCode) : (s.abortAll o).vin = s.vin := by
  rw [s.abortAll_only o]

theorem State.recoverIfOff_writes : Writes w s s.recoverIfOff := by
  unfold State.recoverIfOff
  split
  · exact s.setCap_writes _ nofun
  · exact .refl

theorem State.vin_recoverIfOff : s.recoverIfOff.vin = s.vin := by
  unfold State.recoverIfOff
  split <;> rfl

theorem State.inputOff_writes (hw : MayWrite w s.vin.holder) : Writes w s s.inputOff :=
  ((s.setVin_moveLock_writes { s.vin with goodCount := 0, badRun := 0, silence := 0, receiving := none } .off hw hw rfl
    rfl).trans (State.abortAll_writes _ _)).trans (State.recoverIfOff_writes _)

theorem State.vin_inputOff :
    s.inputOff.vin = { s.vin with goodCount := 0, badRun := 0, silence := 0, receiving := none, lock := .off } := by
  unfold State.inputOff
  simp only [State.vin_recoverIfOff, State.vin_abortAll, State.vin_moveLock, State.setVin_vin]

theorem State.giveUpInput_writes (hw : MayWrite w s.vin.holder) : Writes w s s.giveUpInput := by
  refine (s.inputOff_writes hw).trans (State.setVin_writes _ _ ?_ rfl rfl)
  rwa [State.vin_inputOff]

theorem State.expireMonitor_writes (l : Fin 8) (hw : MayWatch w l (s.layer l).owner) : Writes w s (s.expireMonitor l) := by
  have h : Writes w s _ := ((Write.layer l _ (.expire w hw (s.monitor l).action)).writes.trans
    (State.raiseAt_writes _ (s.layer l).notified .expired nofun)).trans
    (State.raiseAt_writes _ (s.monitor l).lockingPort .expired nofun)
  refine h.trans (Write.monitor l _ ?_).writes
  rw [State.raiseAt_eq, State.raiseAt_eq]
  show MayWatch w l ((s.setLayer l _).layer l).owner
  rwa [State.layer_setLayer]

theorem State.dropFallback_writes (l : Fin 8) (old : Option (Fin 64)) : Writes w s (s.dropFallback l old) := by
  unfold State.dropFallback
  cases old with
  | none => exact .refl
  | some y =>
    dsimp only
    split
    · exact .refl
    · exact (Write.dropRef y).writes

theorem State.moveFallback_writes (l : Fin 8) (new : Option (Fin 64)) : Writes w s (s.moveFallback l new) := by
  unfold State.moveFallback
  dsimp only
  split
  · exact .refl
  · refine Relation.ReflTransGen.trans ?_ (State.dropFallback_writes _ _ _)
    cases new with
    | none => exact .refl
    | some i =>
      dsimp only
      split
      · exact .refl
      · exact (Write.addRef i).writes

theorem State.layer_moveFallback (l m : Fin 8) (new : Option (Fin 64)) : (s.moveFallback l new).layer m = s.layer m := by
  unfold State.moveFallback
  dsimp only
  split
  · rfl
  · rw [State.dropFallback_eq]
    cases new with
    | none => rfl
    | some i =>
      dsimp only
      split <;> rfl

theorem State.releaseMonitor_writes (l : Fin 8) (hw : MayWatch w l (s.layer l).owner) :
    Writes w s (s.releaseMonitor l) := by
  unfold State.releaseMonitor
  dsimp only
  split
  · exact .refl
  · exact (Write.monitor l _ hw).writes.trans (State.dropFallback_writes _ _ _)

theorem State.discardStaged_writes {p : Port} (l : Fin 8) (ho : (s.layer l).owner = some p)
    (hb : (s.layer l).binding ≠ .releasing) : Writes (.port p) s (s.discardStaged l) :=
  (Write.layer l _ (.discard p ho hb)).writes.trans (State.dropRefs_writes _ _)

theorem State.releaseLayer_writes {p : Port} (l : Fin 8) (ho : (s.layer l).owner = some p)
    (hb : (s.layer l).binding ≠ .releasing) : Writes (.port p) s (s.releaseLayer l) := by
  have hd := s.layer_discardStaged l
  refine ((s.discardStaged_writes l ho hb).trans (Write.layer l _ (.release p ?_ ?_ ?_)).writes).trans
    (State.releaseMonitor_writes _ l ?_)
  · rw [hd]; exact ho
  · rw [hd]; exact hb
  · rw [hd]
  · rw [State.layer_setLayer, hd]; exact ho

end

end Sys2Proof.Machine
end

section
/-! PROOFS. Every command as a chain of writes of its port, each with what the command's checks have established. -/

namespace Sys2Proof.Machine

/-- The effect of a command of port `p` is a chain of writes of that port. -/
def CommandWrites (p : Port) (op : CommandOp) : Prop := ∀ s, Writes (.port p) s (op s).1

/-! ### The shared checks -/

theorem CommandWrites.ownedLayer {p : Port} {l : Byte} {k : Fin 8 → CommandOp}
    (h : ∀ i s, (s.layer i).owner = some p → Writes (.port p) s (k i s).1) : CommandWrites p (ownedLayer p l k) := by
  intro s
  unfold Machine.ownedLayer
  split
  · exact .refl
  · split
    · rename_i i _ ho
      exact h i s ho
    · exact .refl

/-- The owner's commands that a RELEASING layer refuses (R2, R24). -/
theorem CommandWrites.boundLayer {p : Port} {l : Byte} {k : Fin 8 → CommandOp}
    (h : ∀ i s, (s.layer i).owner = some p → (s.layer i).binding ≠ .releasing → Writes (.port p) s (k i s).1) :
    CommandWrites p (Machine.ownedLayer p l fun i s =>
      if (s.layer i).binding = .releasing then (s, refuse .waitFrame) else k i s) := by
  refine CommandWrites.ownedLayer fun i s ho => ?_
  split
  · exact .refl
  · rename_i hb
    exact h i s ho hb

/-- The commands that edit an uncommitted pending record (R3, R12, R31). -/
theorem CommandWrites.editedLayer {p : Port} {l : Byte} {k : Fin 8 → PendingRecord → CommandOp}
    (h : ∀ i r s, (s.layer i).owner = some p → (s.layer i).binding ≠ .releasing → (s.layer i).staged = some r →
      Writes (.port p) s (k i r s).1) :
    CommandWrites p (Machine.ownedLayer p l fun i => editable i (k i)) := by
  refine CommandWrites.boundLayer fun i s ho hb => ?_
  split
  · exact .refl
  · rename_i r hr
    split
    · exact .refl
    · exact h i r s ho hb hr

theorem CommandWrites.ownedSlot {p : Port} {b : Byte} {k : Fin 64 → CommandOp}
    (h : ∀ i s, (s.slot i).owner = some p → Writes (.port p) s (k i s).1) : CommandWrites p (ownedSlot p b k) := by
  intro s
  unfold Machine.ownedSlot
  split
  · exact .refl
  · split
    · rename_i i _ ho
      exact h i s ho
    · exact .refl

theorem CommandWrites.writableSlot {p : Port} {b : Byte} {k : Fin 64 → CommandOp}
    (h : ∀ i s, (s.slot i).owner = some p → Writes (.port p) s (k i s).1) :
    CommandWrites p (Machine.ownedSlot p b fun i => writable i (k i)) := by
  refine CommandWrites.ownedSlot fun i s ho => ?_
  unfold writable
  split
  case h_2 => exact h i s ho
  all_goals exact .refl

theorem CommandWrites.heldTimer {p : Port} {b : Byte} {k : Fin 4 → CommandOp}
    (h : ∀ i s, (s.timer i).holder = some p → Writes (.port p) s (k i s).1) : CommandWrites p (heldTimer p b k) := by
  intro s
  unfold Machine.heldTimer
  split
  · exact .refl
  · split
    · rename_i i _ ho
      exact h i s ho
    · exact .refl

theorem CommandWrites.byHolder {p : Port} {k : CommandOp}
    (h : ∀ s, s.vin.holder = some p → Writes (.port p) s (k s).1) : CommandWrites p (byHolder p k) := by
  intro s
  unfold Machine.byHolder
  split
  · rename_i ho
    exact h s ho
  · exact .refl

/-! ### Layers (file 01) -/

theorem lyrClaim_writes (p : Port) (l : Byte) : CommandWrites p (lyrClaim p l) := by
  intro s
  unfold lyrClaim
  split
  · exact .refl
  · split
    · rename_i i _ hb
      exact (Write.layer i _ (.claim p hb)).writes
    · exact .refl

theorem lyrRelease_writes (p : Port) (l : Byte) : CommandWrites p (lyrRelease p l) :=
  CommandWrites.boundLayer (k := fun i s => (s.releaseLayer i, { outcome := .ok }))
    fun i s ho hb => s.releaseLayer_writes i ho hb

theorem beginFresh_writes {p : Port} (i : Fin 8) (s : State) (ho : (s.layer i).owner = some p)
    (hb : (s.layer i).binding ≠ .releasing) : Writes (.port p) s (beginFresh i s).1 := by
  have hd := s.layer_discardStaged i
  refine (s.discardStaged_writes i ho hb).trans (Write.layer i _ (.beginFresh p ?_ ?_ ?_)).writes <;> rw [hd]
  exacts [ho, hb]

theorem beginCopy_writes {p : Port} (i : Fin 8) (s : State) (ho : (s.layer i).owner = some p)
    (hb : (s.layer i).binding ≠ .releasing) : Writes (.port p) s (beginCopy i s).1 := by
  have hd := s.layer_discardStaged i
  unfold beginCopy
  split
  · exact .refl
  · refine ((s.discardStaged_writes i ho hb).trans (Write.layer i _ (.beginCopy p ?_ ?_ ?_)).writes).trans
      (State.addRefs_writes _ _) <;> rw [hd]
    exacts [ho, hb]

theorem lyrBegin_writes (p : Port) (l mode : Byte) : CommandWrites p (lyrBegin p l mode) := by
  refine CommandWrites.boundLayer fun i s ho hb => ?_
  split
  · exact .refl
  · split
    · exact beginFresh_writes i s ho hb
    · split
      · exact beginCopy_writes i s ho hb
      · exact .refl

theorem clampNat_le (lo hi n : Nat) (h : lo ≤ hi) : clampNat lo hi n ≤ hi := by
  unfold clampNat
  split
  · exact h
  · split <;> omega

theorem le_clampNat (lo hi n : Nat) (h : lo ≤ hi) : lo ≤ clampNat lo hi n := by
  unfold clampNat
  split
  · exact le_rfl
  · split <;> omega

theorem lyrAttr_writes (p : Port) (l visible target fade : Byte) (ox oy : Half) (source : Byte) (x0 y0 x1 y1 : Half) :
    CommandWrites p (lyrAttr p l visible target fade ox oy source x0 y0 x1 y1) := by
  refine CommandWrites.editedLayer fun i r s ho hb hs => ?_
  split
  · split
    · exact .refl
    · rename_i hv
      refine (Write.layer i _ (.attrs p ho hb r hs _ ?_ ?_)).writes
      · simp [Attributes.inRange, clampNat_le]
      · intro hsrc
        dsimp only at hsrc
        simpa [hsrc] using hv
  · exact .refl

theorem State.owner_commitLayer (s : State) (l m : Fin 8) : ((s.commitLayer l).layer m).owner = (s.layer m).owner := by
  unfold State.commitLayer
  by_cases h : m = l
  · subst h; rw [State.layer_setLayer]
  · rw [State.layer_setLayer_ne _ _ _ _ h]

theorem commitLayers_writes {p : Port} (ls : List (Fin 8)) (s : State) (h : ∀ l ∈ ls, (s.layer l).owner = some p) :
    Writes (.port p) s (ls.foldl State.commitLayer s) := by
  induction ls generalizing s with
  | nil => exact .refl
  | cons l rest ih =>
    refine (Write.layer l _ (.commit p (h l (by simp)))).writes.trans (ih (s.commitLayer l) fun m hm => ?_)
    rw [State.owner_commitLayer]
    exact h m (by simp [hm])

theorem lyrCommit_writes (p : Port) (mask : Byte) : CommandWrites p (lyrCommit p mask) := by
  intro s
  unfold lyrCommit
  dsimp only
  split
  · exact .refl
  · split
    · exact .refl
    · rename_i hn
      split
      · exact .refl
      · refine commitLayers_writes _ s fun l hl => ?_
        simpa using List.find?_eq_none.mp hn l hl

theorem lyrZ_writes (p : Port) (l index : Byte) : CommandWrites p (lyrZ p l index) := by
  refine CommandWrites.boundLayer fun i s _ _ => ?_
  split
  · rename_i hi
    exact (Write.zPending p rfl i ⟨index.toNat, hi⟩).writes
  · exact .refl

theorem clampColour_inRange (y cb cr : Nat) : (clampColour y cb cr).inRange = true := by
  simp [clampColour, Colour.inRange, clampNat_le, le_clampNat]

theorem backdrop_writes (p : Port) (y cb cr : Byte) : CommandWrites p (backdrop p y cb cr) := fun _ =>
  (Write.backdropPending p rfl _ (clampColour_inRange _ _ _)).writes

/-! ### Placements, cursors, clips and windows (file 02, R81, R82) -/

theorem place_writes {p : Port} (i : Fin 8) (slot : Fin 64) (x y : Int) (r : PendingRecord) (s : State)
    (ho : (s.layer i).owner = some p) (hb : (s.layer i).binding ≠ .releasing) (hs : (s.layer i).staged = some r) :
    Writes (.port p) s (place p i slot x y r s).1 := by
  unfold place
  split
  · exact .refl
  · rename_i ha
    split
    · exact .refl
    · split
      · exact .refl
      · rename_i hl
        split
        · exact .refl
        · rename_i e rest he
          refine (Write.layer i _ (.place p ho hb r hs (not_not.mp ha) (by omega) _ ?_)).writes.trans (Write.addRef slot).writes
          rw [he]
          exact List.mem_cons_self

theorem plcAdd_writes (p : Port) (l slot : Byte) (x y : Half) : CommandWrites p (plcAdd p l slot x y) := by
  refine CommandWrites.editedLayer fun i r s ho hb hs => ?_
  split
  · exact .refl
  · exact place_writes i _ _ _ r s ho hb hs

theorem plcCursor_writes (p : Port) (l k : Byte) : CommandWrites p (plcCursor p l k) := by
  refine CommandWrites.editedLayer fun i r s ho hb hs => ?_
  split
  · exact .refl
  · rename_i c _
    have h := place_writes i c.slot c.x c.y r s ho hb hs
    dsimp only
    split
    · exact h.trans (State.setPort_writes _ p _)
    · exact .refl

theorem curSet_writes (p : Port) (k : Byte) (x y dx dy : Half) (columns slot step : Byte) :
    CommandWrites p (curSet p k x y dx dy columns slot step) := by
  intro s
  unfold curSet
  split
  · exact s.setPort_writes p _
  · exact .refl

theorem clipPush_writes (p : Port) (x0 y0 x1 y1 : Half) : CommandWrites p (clipPush p x0 y0 x1 y1) := by
  intro s
  unfold clipPush
  dsimp only
  split
  · exact .refl
  · exact s.setPort_writes p _

theorem clipPop_writes (p : Port) : CommandWrites p (clipPop p) := by
  intro s
  unfold clipPop
  dsimp only
  split
  · exact .refl
  · exact s.setPort_writes p _

theorem palWindow_writes (p : Port) (w slice : Byte) : CommandWrites p (palWindow p w slice) := by
  intro s
  unfold palWindow
  split
  · exact .refl
  · split
    · exact s.setPort_writes p _
    · exact .refl

/-! ### Slots (file 03) -/

/-- A write of a slot record that keeps its pixel memory, by the slot's owner. -/
theorem State.setSlot_writes {p : Port} (s : State) (i : Fin 64) (x : Slot) (ho : (s.slot i).owner = some p)
    (hp : x.pixels = (s.slot i).pixels) : Writes (.port p) s (s.setSlot i x) :=
  (Write.slot p rfl i x (.inr ho) fun _ h => .inl (hp ▸ h)).writes

theorem claimSlot_writes {p : Port} (s : State) (i : Fin 64) (h : (s.slot i).state = .free) :
    Writes (.port p) s (s.claimSlot p i) := by
  refine (Write.slot p rfl i _ (.inl h) ?_).writes
  exact fun _ => .inl

theorem sltClaim_writes (p : Port) : CommandWrites p (sltClaim p) := by
  intro s
  unfold sltClaim
  split
  · exact .refl
  · rename_i i hi
    exact claimSlot_writes s i (by simpa using List.find?_some hi)

theorem sltClaimAt_writes (p : Port) (b : Byte) : CommandWrites p (sltClaimAt p b) := by
  intro s
  unfold sltClaimAt
  split
  · exact .refl
  · split
    · exact claimSlot_writes s _ ‹_›
    · exact .refl

theorem sltRelease_writes (p : Port) (b : Byte) : CommandWrites p (sltRelease p b) := by
  refine CommandWrites.ownedSlot fun i s ho => ?_
  dsimp only
  split
  · exact .refl
  · split
    · exact .refl
    · exact s.setSlot_writes i _ ho rfl

theorem sltOpen_writes (p : Port) (b format : Byte) (width height : Half) :
    CommandWrites p (sltOpen p b format width height) := by
  refine CommandWrites.ownedSlot fun i s ho => ?_
  dsimp only
  split
  · exact .refl
  split
  · exact .refl
  split
  · exact .refl
  split
  · exact .refl
  split
  · exact .refl
  · exact s.setSlot_writes i _ ho rfl

theorem directPixel_inRange (y cb cr : Nat) : (directPixel y cb cr).1.inRange = true := clampColour_inRange y cb cr

theorem directPixels_inRange (data : List Byte) : ∀ q ∈ directPixels data, q.1.inRange = true := by
  induction data using directPixels.induct with
  | case1 y cb cr rest ih =>
    intro q hq
    simp only [directPixels, List.mem_cons] at hq
    rcases hq with rfl | hq
    · exact directPixel_inRange _ _ _
    · exact ih q hq
  | case2 data h => simp [directPixels]

theorem indexedPixels_inRange (data : List Byte) : ∀ q ∈ indexedPixels data, q.1.inRange = true := by
  induction data with
  | nil => simp [indexedPixels]
  | cons b rest ih =>
    intro q hq
    simp only [indexedPixels, List.mem_cons] at hq
    rcases hq with rfl | rfl | hq
    exacts [rfl, rfl, ih q hq]

/-- What pixel memory holds after a store was there before, or has come with the payload (R56). -/
theorem mem_storePixels (x : Slot) (ps : List Pixel) : ∀ px ∈ (storePixels x ps).pixels, px ∈ x.pixels ∨ px ∈ ps := by
  intro px h
  simp only [storePixels, List.mem_append] at h
  rcases h with (h | h) | h
  · exact .inl (List.mem_of_mem_take h)
  · exact .inr (List.mem_of_mem_take h)
  · exact .inl (List.mem_of_mem_drop h)

theorem storeAnswer_writes {p : Port} (i : Fin 64) (ps : List PayloadPixel) (tail : Bool) (s : State)
    (ho : (s.slot i).owner = some p) (hp : ∀ q ∈ ps, q.1.inRange = true) :
    Writes (.port p) s (storeAnswer i ps tail s).1 := by
  refine (Write.slot p rfl i _ (.inr ho) fun px hpx => ?_).writes
  rcases mem_storePixels _ _ px hpx with h | h
  · exact .inl h
  · obtain ⟨q, hq, rfl⟩ := List.mem_map.mp h
    exact .inr (hp q hq)

theorem sltData_writes (p : Port) (b : Byte) (data : List Byte) : CommandWrites p (sltData p b data) := by
  refine CommandWrites.writableSlot fun i s ho => ?_
  split
  · exact storeAnswer_writes i _ _ s ho (directPixels_inRange data)
  · exact storeAnswer_writes i _ _ s ho (indexedPixels_inRange data)

theorem sltFill_writes (p : Port) (b y cb cr : Byte) (count : Half) : CommandWrites p (sltFill p b y cb cr count) := by
  refine CommandWrites.writableSlot fun i s ho => ?_
  split
  · refine storeAnswer_writes i _ _ s ho fun q hq => ?_
    rw [List.eq_of_mem_replicate hq]
    exact directPixel_inRange _ _ _
  · split
    · exact .refl
    · refine storeAnswer_writes i _ _ s ho fun q hq => ?_
      rw [List.eq_of_mem_replicate hq]
      rfl

theorem sltClose_writes (p : Port) (b : Byte) : CommandWrites p (sltClose p b) := by
  refine CommandWrites.ownedSlot fun i s ho => ?_
  dsimp only
  split
  · exact .refl
  split
  · exact .refl
  · exact s.setSlot_writes i _ ho rfl

/-- A command that reads alone. -/
theorem sltInfo_writes (p : Port) (b : Byte) : CommandWrites p (sltInfo p b) := by
  intro s
  unfold sltInfo
  split <;> exact .refl

/-! ### The palette (file 04) -/

theorem palClaim_writes (p : Port) (b : Byte) : CommandWrites p (palClaim p b) := by
  intro s
  unfold palClaim
  split
  · exact .refl
  split
  · exact .refl
  split
  · rename_i i _ _ hi
    exact (Write.slice p rfl i _ (.inl hi)).writes
  · exact .refl

theorem palRelease_writes (p : Port) (b : Byte) : CommandWrites p (palRelease p b) := by
  intro s
  unfold palRelease
  split
  · exact .refl
  split
  · exact .refl
  split
  · rename_i i _ _ hi
    exact (Write.slice p rfl i _ (.inr hi)).writes
  · exact .refl

theorem clampEntry_inRange (y cb cr alpha : Nat) : (clampEntry y cb cr alpha).inRange = true := by
  simp [clampEntry, PaletteEntry.inRange, clampColour_inRange, clampNat_le]

theorem writeEntry_writes (p : Port) (n : Fin 256) (y cb cr alpha : Byte) :
    CommandWrites p (writeEntry p n y cb cr alpha) := by
  intro s
  unfold writeEntry
  split
  · rename_i hm
    exact (Write.entry p rfl n _ hm (clampEntry_inRange _ _ _ _)).writes
  · exact .refl

theorem palSetcode_writes (p : Port) (c y cb cr alpha : Byte) : CommandWrites p (palSetcode p c y cb cr alpha) := by
  intro s
  unfold palSetcode
  split
  · exact writeEntry_writes p _ y cb cr alpha s
  · exact .refl

/-! ### The trailer input (file 06) and capture (file 07) -/

theorem vinClaim_writes (p : Port) : CommandWrites p (vinClaim p) := by
  intro s
  unfold vinClaim
  split
  · rename_i h
    exact s.setVin_writes _ (h ▸ MayWrite.unheld _) rfl rfl
  · exact .refl

theorem vinRelease_writes (p : Port) : CommandWrites p (vinRelease p) :=
  CommandWrites.byHolder fun s h => s.giveUpInput_writes (MayWrite.of_eq h)

theorem vinFormat_writes (p : Port) (w h : Half) (settle : Byte) : CommandWrites p (vinFormat p w h settle) := by
  refine CommandWrites.byHolder fun s ho => ?_
  have hw := MayWrite.of_eq ho
  refine (s.setVin_writes { s.vin with
    width := evenWidth (clampNat 64 960 w.toNat), height := clampNat 32 540 h.toNat, settle := clampNat 0 3 settle.toNat }
    hw rfl rfl).trans ?_
  dsimp only
  split
  · exact .refl
  · exact State.setVin_moveLock_writes _ _ _ hw hw rfl rfl

theorem State.inputOn_writes {w : Writer} (s : State) (hw : MayWrite w s.vin.holder) : Writes w s s.inputOn :=
  s.setVin_moveLock_writes { s.vin with goodCount := 0, badRun := 0, silence := 0 } _ hw hw rfl rfl

theorem vinEnable_writes (p : Port) (on : Byte) : CommandWrites p (vinEnable p on) := by
  refine CommandWrites.byHolder fun s ho => ?_
  have hw := MayWrite.of_eq ho
  split
  · exact .refl
  · dsimp only
    split <;> split
    · exact s.inputOn_writes hw
    · exact .refl
    · exact .refl
    · exact s.inputOff_writes hw

theorem capEnable_writes (p : Port) (on : Byte) : CommandWrites p (capEnable p on) := by
  refine CommandWrites.byHolder fun s ho => ?_
  split
  · exact .refl
  · rename_i b _
    have h := s.setVin_writes { s.vin with captureEnabled := b } (MayWrite.of_eq ho) rfl rfl
    dsimp only
    split
    · exact h.trans (State.abortAll_writes _ _)
    · exact h

theorem capRequest_writes (p : Port) (tag b : Byte) (x y w h : Half) (dx dy : Byte) :
    CommandWrites p (capRequest p tag b x y w h dx dy) := by
  refine CommandWrites.ownedSlot fun i s _ => ?_
  dsimp only
  split
  · exact .refl
  · exact s.acceptRequest_writes _ _

theorem State.cancelRequest_writes {w : Writer} (s : State) (r : CaptureRequest) : Writes w s (s.cancelRequest r) := by
  unfold State.cancelRequest
  split
  · exact s.abortActive_writes _
  · exact Relation.ReflTransGen.trans (s.setCap_writes { s.cap with queue := s.cap.queue.filter fun q => q ≠ r }
      fun h => ⟨h, rfl⟩) (State.endRequest_writes _ r _)

theorem capCancel_writes (p : Port) (b : Byte) : CommandWrites p (capCancel p b) := by
  intro s
  unfold capCancel
  split
  · exact .refl
  split
  · exact .refl
  split
  · exact s.cancelRequest_writes _
  · exact .refl

/-! ### Frame timers (file 08) -/

theorem State.setTimer_writes {p : Port} (s : State) (t : Fin 4) (x : FrameTimer) (h : (s.timer t).holder = some p) :
    Writes (.port p) s (s.setTimer t x) := (Write.timer t x (MayWrite.of_eq h)).writes

theorem tmrClaim_writes (p : Port) (b : Byte) : CommandWrites p (tmrClaim p b) := by
  intro s
  unfold tmrClaim
  split
  · exact .refl
  split
  · rename_i h
    exact (Write.timer _ _ (h ▸ MayWrite.unheld _)).writes
  · exact .refl

theorem tmrRelease_writes (p : Port) (b : Byte) : CommandWrites p (tmrRelease p b) :=
  CommandWrites.heldTimer fun i s h => s.setTimer_writes i _ h

theorem tmrSetup_writes (p : Port) (b source prescaler : Byte) (reload : Half) (mode action : Byte) :
    CommandWrites p (tmrSetup p b source prescaler reload mode action) := by
  refine CommandWrites.heldTimer fun i s h => ?_
  split
  · exact .refl
  split
  · split
    · exact .refl
    · exact s.setTimer_writes i _ h
  · exact .refl

theorem tmrTemplate_writes (p : Port) (b : Byte) (x y w h : Half) (dx dy first count : Byte) :
    CommandWrites p (tmrTemplate p b x y w h dx dy first count) := by
  refine CommandWrites.heldTimer fun i s ho => ?_
  dsimp only
  split
  · exact .refl
  split
  · exact .refl
  split
  · exact s.setTimer_writes i _ ho
  · exact .refl

theorem tmrStart_writes (p : Port) (b : Byte) : CommandWrites p (tmrStart p b) := by
  refine CommandWrites.heldTimer fun i s h => ?_
  dsimp only
  split
  · exact .refl
  split
  · exact .refl
  · exact s.setTimer_writes i _ h

theorem tmrStop_writes (p : Port) (b : Byte) : CommandWrites p (tmrStop p b) :=
  CommandWrites.heldTimer fun i s h => s.setTimer_writes i _ h

theorem tmrRead_writes (p : Port) (b : Byte) : CommandWrites p (tmrRead p b) := by
  intro s
  unfold tmrRead
  split <;> exact .refl

/-! ### Layer freshness (file 09) -/

theorem State.setMonitor_writes {p : Port} (s : State) (l : Fin 8) (x : Monitor) (h : (s.layer l).owner = some p) :
    Writes (.port p) s (s.setMonitor l x) := (Write.monitor (w := .port p) l x h).writes

theorem frsSetup_writes (p : Port) (l : Byte) (period : Half) (window action fallback : Byte) :
    CommandWrites p (frsSetup p l period window action fallback) := by
  refine CommandWrites.boundLayer fun i s ho _ => ?_
  dsimp only
  split
  · exact .refl
  split
  · exact .refl
  split
  · split
    · exact .refl
    split
    · exact .refl
    · exact (s.moveFallback_writes i _).trans (State.setMonitor_writes _ i _ (by rw [State.layer_moveFallback]; exact ho))
  · exact .refl

theorem frsStart_writes (p : Port) (l : Byte) : CommandWrites p (frsStart p l) := by
  refine CommandWrites.boundLayer fun i s ho _ => ?_
  dsimp only
  split
  · exact .refl
  · exact s.setMonitor_writes i _ ho

theorem frsStop_writes (p : Port) (l : Byte) : CommandWrites p (frsStop p l) := by
  refine CommandWrites.boundLayer fun i s ho _ => ?_
  dsimp only
  split
  · exact .refl
  · exact s.setMonitor_writes i _ ho

theorem frsTouch_writes (p : Port) (l : Byte) : CommandWrites p (frsTouch p l) := by
  refine CommandWrites.boundLayer fun i s ho _ => ?_
  dsimp only
  split
  · exact .refl
  split
  · exact s.setMonitor_writes i _ ho
  · exact s.expireMonitor_writes i ho

theorem frsLock_writes (p : Port) (l : Byte) : CommandWrites p (frsLock p l) := by
  intro s
  unfold frsLock
  split
  · exact .refl
  · dsimp only
    split
    · exact .refl
    split
    · exact (Write.lock p rfl _ true (some p)).writes
    · exact .refl

/-! ### Repeat blocks (file 10) -/

theorem rptBlock_writes (p : Port) (tag n k : Byte) : CommandWrites p (rptBlock p tag n k) := by
  intro s
  unfold rptBlock
  dsimp only
  split
  · exact .refl
  split
  · exact .refl
  · exact s.setPort_writes p _

theorem rptAgain_writes (p : Port) (tag k : Byte) : CommandWrites p (rptAgain p tag k) := by
  intro s
  unfold rptAgain
  dsimp only
  split
  · exact .refl
  split
  · exact .refl
  · exact s.setPort_writes p _

theorem rptLoop_writes (p : Port) (m : Byte) : CommandWrites p (rptLoop p m) := by
  intro s
  unfold rptLoop
  split
  · exact .refl
  · exact s.setPort_writes p _

/-! ### Every command -/

theorem badFrame_writes (p : Port) : CommandWrites p badFrame := fun _ => .refl

/-- The operation of every command row is a chain of writes of its port. -/
theorem commandOf_writes {i : Instr} {p : Port} {f : Frame} {op : CommandOp} (h : commandOf i = some (p, f, op)) :
    CommandWrites p op := by
  cases i with
  | unknownCommand q tag code operands =>
    simp only [commandOf] at h
    split at h
    · cases h
    · cases h; exact badFrame_writes _
  | sltData q tag b data =>
    cases h
    split
    · exact sltData_writes _ b data
    · exact badFrame_writes _
  | lyrClaim => cases h; exact lyrClaim_writes _ _
  | lyrRelease => cases h; exact lyrRelease_writes _ _
  | lyrBegin => cases h; exact lyrBegin_writes _ _ _
  | lyrAttr => cases h; exact lyrAttr_writes _ _ _ _ _ _ _ _ _ _ _ _
  | lyrCommit => cases h; exact lyrCommit_writes _ _
  | lyrZ => cases h; exact lyrZ_writes _ _ _
  | backdrop => cases h; exact backdrop_writes _ _ _ _
  | plcAdd => cases h; exact plcAdd_writes _ _ _ _ _
  | plcCursor => cases h; exact plcCursor_writes _ _ _
  | curSet => cases h; exact curSet_writes _ _ _ _ _ _ _ _ _
  | clipPush => cases h; exact clipPush_writes _ _ _ _ _
  | clipPop => cases h; exact clipPop_writes _
  | palWindow => cases h; exact palWindow_writes _ _ _
  | sltClaim => cases h; exact sltClaim_writes _
  | sltClaimAt => cases h; exact sltClaimAt_writes _ _
  | sltRelease => cases h; exact sltRelease_writes _ _
  | sltOpen => cases h; exact sltOpen_writes _ _ _ _ _
  | sltFill => cases h; exact sltFill_writes _ _ _ _ _ _
  | sltClose => cases h; exact sltClose_writes _ _
  | sltInfo => cases h; exact sltInfo_writes _ _
  | palClaim => cases h; exact palClaim_writes _ _
  | palRelease => cases h; exact palRelease_writes _ _
  | palSet => cases h; exact writeEntry_writes _ _ _ _ _ _
  | palSetcode => cases h; exact palSetcode_writes _ _ _ _ _ _
  | vinClaim => cases h; exact vinClaim_writes _
  | vinRelease => cases h; exact vinRelease_writes _
  | vinFormat => cases h; exact vinFormat_writes _ _ _ _
  | vinEnable => cases h; exact vinEnable_writes _ _
  | capEnable => cases h; exact capEnable_writes _ _
  | capRequest => cases h; exact capRequest_writes _ _ _ _ _ _ _ _ _
  | capCancel => cases h; exact capCancel_writes _ _
  | tmrClaim => cases h; exact tmrClaim_writes _ _
  | tmrRelease => cases h; exact tmrRelease_writes _ _
  | tmrSetup => cases h; exact tmrSetup_writes _ _ _ _ _ _ _
  | tmrTemplate => cases h; exact tmrTemplate_writes _ _ _ _ _ _ _ _ _ _
  | tmrStart => cases h; exact tmrStart_writes _ _
  | tmrStop => cases h; exact tmrStop_writes _ _
  | tmrRead => cases h; exact tmrRead_writes _ _
  | frsSetup => cases h; exact frsSetup_writes _ _ _ _ _ _
  | frsStart => cases h; exact frsStart_writes _ _
  | frsStop => cases h; exact frsStop_writes _ _
  | frsTouch => cases h; exact frsTouch_writes _ _
  | frsLock => cases h; exact frsLock_writes _ _
  | rptBlock => cases h; exact rptBlock_writes _ _ _ _
  | rptAgain => cases h; exact rptAgain_writes _ _ _
  | rptLoop => cases h; exact rptLoop_writes _ _
  | _ => cases h

theorem State.dropHead_writes (s : State) (p : Port) : Writes (.port p) s (s.dropHead p) := s.setPort_writes p _

/-- Taking a command is a chain of writes of the port that takes it (R177, R169, R170). -/
theorem takeCommand_writes (p : Port) (f : Frame) (op : CommandOp) (h : CommandWrites p op) (s : State) :
    Writes (.port p) s (takeCommand p f op s) := by
  have plain : ∀ u : State, Writes (.port p) u (runPlain u p f op) := by
    intro u
    unfold runPlain
    dsimp only
    split
    · exact h u
    · exact (h u).trans (State.setPort_writes _ p _)
  rcases takeCommand_cases p f op s with ⟨_, e⟩ | ⟨_, _, e⟩ | ⟨_, _, e⟩ | ⟨_, e⟩ <;> rw [e]
  · refine (s.dropHead_writes p).trans ?_
    unfold runCapturing
    split
    · exact (State.setPort_writes _ p _).trans (State.setPort_writes _ p _)
    · exact (plain _).trans (State.setPort_writes _ p _)
  · exact (s.dropHead_writes p).trans (plain _)
  · exact (h s).trans (State.setPort_writes _ p _)

end Sys2Proof.Machine
end

section
/-! PROOFS. The links, the port reset and the events as chains of writes, and so every row of the table; what
that gives for a claim about every step. -/

namespace Sys2Proof.Machine

/-! ### The port reset and the links -/

theorem State.resetLayer_writes (p : Port) (s : State) (l : Fin 8) : Writes (.port p) s (s.resetLayer p l) := by
  unfold State.resetLayer
  split
  · rename_i h
    exact s.releaseLayer_writes l h.1 (by simp [h.2])
  · exact .refl

theorem State.clearLockingPort_writes (p : Port) (s : State) (l : Fin 8) : Writes (.port p) s (s.clearLockingPort p l) := by
  unfold State.clearLockingPort
  split
  · exact (Write.lock p rfl l (s.monitor l).locked none).writes
  · exact .refl

theorem orphaned_pixels (x : Slot) : (orphaned x).pixels = x.pixels := by
  unfold orphaned
  split <;> rfl

theorem State.resetSlot_writes (p : Port) (s : State) (i : Fin 64) : Writes (.port p) s (s.resetSlot p i) := by
  unfold State.resetSlot
  split
  · rename_i h
    exact s.setSlot_writes i _ h (orphaned_pixels _)
  · exact .refl

theorem State.resetSlice_writes (p : Port) (s : State) (i : Fin 32) : Writes (.port p) s (s.resetSlice p i) := by
  unfold State.resetSlice
  split
  · rename_i h
    exact (Write.slice p rfl i none (.inr h)).writes
  · exact .refl

theorem State.resetTimer_writes (p : Port) (s : State) (t : Fin 4) : Writes (.port p) s (s.resetTimer p t) := by
  unfold State.resetTimer
  split
  · rename_i h
    exact s.setTimer_writes t _ h
  · exact .refl

/-- A port reset is a chain of writes of that port (R183). -/
theorem State.portReset_writes (s : State) (p : Port) : Writes (.port p) s (s.portReset p) := by
  unfold State.portReset
  refine (((((((s.abortOf_writes p).trans ?_).trans (Writes.foldl _ (State.resetLayer_writes p) _ _)).trans
    (Writes.foldl _ (State.clearLockingPort_writes p) _ _)).trans (Writes.foldl _ (State.resetSlot_writes p) _ _)).trans
    (Writes.foldl _ (State.resetSlice_writes p) _ _)).trans (Writes.foldl _ (State.resetTimer_writes p) _ _)).trans
    (State.setPort_writes _ p _)
  split
  · rename_i h
    exact State.giveUpInput_writes _ (MayWrite.of_eq h)
  · exact .refl

theorem transactionEffect_writes (s : State) (p : Port) (kind : Kind) (bytes : List Byte) (l : Latch) :
    Writes (.port p) s (transactionEffect s p kind bytes l) := by
  unfold transactionEffect
  cases kind with
  | cmd =>
    dsimp only
    unfold State.joinQueue
    split
    · exact s.raise_writes p _ nofun
    · exact s.setPort_writes p _
  | res | caprep =>
    dsimp only
    split
    · exact s.setPort_writes p _
    · exact .refl
  | evt | stat => exact .refl
  | ack | mask => exact s.setPort_writes p _
  | prst => exact s.portReset_writes p

theorem State.closeLink_writes (s : State) (p : Port) (out : List Byte) : Writes (.port p) s (s.closeLink p out) :=
  s.setPort_writes p _

/-- A link transaction is a chain of writes of its port (R174). -/
theorem linkTransaction_writes (p : Port) (bytes : List Byte) (s : State) :
    Writes (.port p) s (linkTransaction p bytes s) := by
  unfold linkTransaction
  split
  · exact s.setPort_writes p _
  split
  · exact s.setPort_writes p _
  rename_i kind rest
  refine (s.closeLink_writes p (shiftedOut (latchOf (s.port p) kind) (kind :: rest).length)).trans ?_
  dsimp only
  split
  · exact State.raise_writes _ p _ nofun
  split
  · exact transactionEffect_writes _ p _ _ _
  · exact State.raise_writes _ p _ nofun

/-! ### The blocks' own work -/

section
variable {w : Writer} (s : State)

theorem State.silenceWork_writes (hw : w.free) : Writes w s s.silenceWork := by
  have hv := s.setVin_writes { s.vin with silence := min Config.silenceMax (s.vin.silence + 1) } (hw.mayWrite _) rfl rfl
  unfold State.silenceWork
  split
  · exact .refl
  dsimp only
  split
  · exact hv.trans (State.setVin_moveLock_writes _ _ _ (hw.mayWrite _) (hw.mayWrite _) rfl rfl)
  · exact hv

theorem State.takeoverWork_writes (hw : w.free) : Writes w s s.takeoverWork := by
  unfold State.takeoverWork
  split
  · rename_i r width height cs hp ha _
    refine Relation.ReflTransGen.trans ?_ (State.activate_writes _ _)
    refine Relation.ReflTransGen.trans ?_ (State.pushReport_writes _ _ _)
    exact (Write.takeOver hw r width height cs hp ha).writes.trans (State.setCap_writes _ _ nofun)
  · exact .refl

theorem State.monitorWork_writes (l : Fin 8) (hw : MayWatch w l (s.layer l).owner) : Writes w s (s.monitorWork l) := by
  unfold State.monitorWork
  dsimp only
  split
  · exact .refl
  split
  · exact s.expireMonitor_writes l hw
  · exact (Write.monitor l _ hw).writes

theorem State.trigger_writes (hw : w.free) (t : Fin 4) (atMark : Bool) : Writes w s (s.trigger t atMark) := by
  unfold State.trigger
  dsimp only
  split
  · split
    · exact .refl
    split
    · exact s.raise_writes _ _ nofun
    split
    · exact (s.acceptRequest_writes _ _).trans (Write.timer t _ (hw.mayWrite _)).writes
    · exact s.raise_writes _ _ nofun
  · exact .refl

theorem State.expireTimer_writes (hw : w.free) (t : Fin 4) (atMark : Bool) : Writes w s (s.expireTimer t atMark) := by
  unfold State.expireTimer
  refine Relation.ReflTransGen.trans ?_ (Write.timer t _ (hw.mayWrite _)).writes
  refine Relation.ReflTransGen.trans ?_ (State.raiseAt_writes _ _ _ nofun)
  split
  · exact s.trigger_writes hw t atMark
  · exact .refl

theorem State.countTimer_writes (hw : w.free) (t : Fin 4) (atMark : Bool) : Writes w s (s.countTimer t atMark) := by
  have h (x : FrameTimer) : Writes w s (s.setTimer t x) := (Write.timer t x (hw.mayWrite _)).writes
  unfold State.countTimer
  dsimp only
  split
  · split
    · exact (h _).trans (State.expireTimer_writes _ hw t atMark)
    · exact h _
  · exact h _

theorem State.timerFrameWork_writes (hw : w.free) (t : Fin 4) : Writes w s (s.timerFrameWork t) := by
  unfold State.timerFrameWork
  dsimp only
  split
  · split
    · exact (Write.timer t _ (hw.mayWrite _)).writes
    all_goals
      split
      · exact s.countTimer_writes hw t false
      · exact .refl
  · exact .refl

theorem State.timerMarkWork_writes (hw : w.free) (t : Fin 4) : Writes w s (s.timerMarkWork t) := by
  unfold State.timerMarkWork
  dsimp only
  split
  · split
    · exact (Write.timer t _ (hw.mayWrite _)).writes
    all_goals
      split
      · exact s.countTimer_writes hw t true
      · exact .refl
  · exact .refl

theorem State.dropViewFallback_writes (l : Fin 8) : Writes w s (s.dropViewFallback l) := by
  unfold State.dropViewFallback
  split
  · exact .refl
  split
  · exact .refl
  · exact (Write.dropRef _).writes

theorem State.fallbackWork_writes : Writes w s s.fallbackWork := Writes.foldl _ State.dropViewFallback_writes _ s

/-! ### Frame marks -/

theorem State.lockStep_writes (hw : w.free) (good : Bool) : Writes w s (s.lockStep good) := by
  unfold State.lockStep
  refine (s.setVin_writes { s.vin with silence := 0 } (hw.mayWrite _) rfl rfl).trans ?_
  dsimp only
  split
  · exact .refl
  · split
    · exact State.setVin_writes _ _ (hw.mayWrite _) rfl rfl
    · exact State.setVin_moveLock_writes _ _ _ (hw.mayWrite _) (hw.mayWrite _) rfl rfl
  · exact State.setVin_writes _ _ (hw.mayWrite _) rfl rfl
  · exact State.setVin_writes _ _ (hw.mayWrite _) rfl rfl
  · split
    · exact State.setVin_writes _ _ (hw.mayWrite _) rfl rfl
    · exact State.setVin_moveLock_writes _ _ _ (hw.mayWrite _) (hw.mayWrite _) rfl rfl
  · exact State.setVin_moveLock_writes _ _ _ (hw.mayWrite _) (hw.mayWrite _) rfl rfl
  · exact .refl

theorem State.lockAndCapture_writes (good : Bool) (f : VideoFrame) (phase : Phase) (sampled : Sampled) :
    Writes .mark s (s.lockAndCapture good f phase sampled) := by
  have hc (u : State) (c : CaptureUnit) : Writes .mark u (u.setCap c) := (Write.cap c fun _ => .inl rfl).writes
  unfold State.lockAndCapture
  refine (s.lockStep_writes Writer.free_mark good).trans ?_
  dsimp only
  split
  · exact (hc _ _).trans (State.activate_writes _ _)
  split
  · exact hc _ _
  split
  · exact hc _ _
  · exact (hc _ _).trans (State.activate_writes _ _)

theorem beginSampled_keeps (c : CaptureUnit) : (beginSampled c).phase = c.phase ∧ (beginSampled c).active = c.active := by
  unfold beginSampled
  split <;> exact ⟨rfl, rfl⟩

theorem State.firstMark_writes (hw : w.free) : Writes w s s.firstMark := by
  obtain ⟨hp, ha⟩ := beginSampled_keeps s.cap
  unfold State.firstMark
  exact (s.setVin_writes { s.vin with receiving := some (freshFrame s.vin) } (hw.mayWrite _) rfl rfl).trans
    (State.setCap_writes _ _ fun h => ⟨hp ▸ h, ha⟩)

theorem lineColours_inRange (line : List Half) : ∀ c ∈ lineColours line, c.inRange = true := by
  induction line using lineColours.induct with
  | case1 a b rest ih =>
    intro c hc
    simp only [lineColours, List.mem_cons] at hc
    rcases hc with rfl | rfl | hc
    exacts [clampColour_inRange _ _ _, clampColour_inRange _ _ _, ih c hc]
  | case2 a =>
    intro c hc
    obtain rfl := List.mem_singleton.mp hc
    exact clampColour_inRange _ _ _
  | case3 => nofun

/-- What the input store keeps of a frame lies in video range (R110). -/
theorem storedLines_inRange (width height : Nat) (lines : List (List Half)) :
    (VideoFrame.mk width height (storedLines lines)).inRange = true := by
  simp only [VideoFrame.inRange, List.all_eq_true, storedLines, List.mem_map]
  rintro row ⟨line, _, rfl⟩ c hc
  exact lineColours_inRange line c (List.mem_of_mem_take hc)

theorem State.storeFrame_writes (good : Bool) (lines : List (List Half)) :
    Writes .mark s (s.storeFrame good lines) := by
  refine (Write.store rfl { s.vin with receiving := some (freshFrame s.vin), ready := storedReady s.vin good lines }
    rfl fun f hf => ?_).writes
  dsimp only [storedReady] at hf
  split at hf
  · obtain rfl := Option.mem_some.mp hf
    exact .inr (storedLines_inRange _ _ _)
  · exact .inl hf

theorem markWork_writes (c : MarkContext) (k : MarkWork) : Writes .mark s (markWork c k s) := by
  unfold markWork
  cases k with
  | lockAndCapture => exact s.lockAndCapture_writes _ _ _ _
  | timer t =>
    dsimp only
    split
    · exact s.timerMarkWork_writes Writer.free_mark t
    · exact .refl

theorem State.frameEnd_writes (r : ReceivingFrame) (lines : List (List Half)) (order : List MarkWork) :
    Writes .mark s (s.frameEnd r lines order) :=
  (s.storeFrame_writes _ lines).trans (Writes.foldl _ (fun u k => markWork_writes u _ k) _ _)

/-! ### The output frame start -/

theorem State.openSlot_writes (i : Fin 64) : Writes (.work .slots) s (s.openSlot i) := by
  unfold State.openSlot
  split
  · rename_i h
    exact (Write.openSlot rfl i h).writes.trans (State.raiseAt_writes _ _ _ fun _ => .inr rfl)
  · exact .refl

theorem State.refreshMonitor_writes (l : Fin 8) : Writes (.work .promotion) s (s.refreshMonitor l) := by
  unfold State.refreshMonitor
  dsimp only
  split
  · exact (Write.refresh rfl l).writes
  · exact .refl

theorem State.applyCommit_writes (l : Fin 8) : Writes (.work .scene) s (s.applyCommit l) := by
  unfold State.applyCommit
  dsimp only
  split
  · exact .refl
  · rename_i r hr
    split
    · exact ((Write.layer l _ (.apply r hr _)).writes.trans (State.dropRefs_writes _ _)).trans
        (State.raiseAt_writes _ _ _ fun _ => .inl rfl)
    · exact .refl

theorem State.finishRelease_writes (l : Fin 8) : Writes (.work .scene) s (s.finishRelease l) := by
  unfold State.finishRelease
  split
  · exact (((Write.layer l _ .drop).writes.trans (State.dropRefs_writes _ _)).trans
      (Write.layer l _ .finish).writes).trans (State.dropRefs_writes _ _)
  · exact .refl

theorem State.sceneWork_writes : Writes (.work .scene) s s.sceneWork :=
  (((Writes.foldl _ State.applyCommit_writes _ s).trans (Writes.foldl _ State.finishRelease_writes _ _)).trans
    (Write.copyScene rfl).writes).trans (Writes.foldl _ (fun _ l => (Write.layer l _ .opacity).writes) _ _)

theorem State.promotionWork_writes : Writes (.work .promotion) s s.promotionWork := by
  unfold State.promotionWork
  split
  · exact .refl
  · rename_i f hf
    exact (Write.promote rfl f hf).writes.trans (Writes.foldl _ State.refreshMonitor_writes _ _)

/-- A block's work at an output frame start is a chain of its own writes. -/
theorem frameWork_writes (k : FrameWork) : Writes (.work k) s (frameWork k s) := by
  have hfree := Writer.free_work k
  cases k with
  | scene => exact s.sceneWork_writes
  | slots => exact Writes.foldl _ State.openSlot_writes _ s
  | fallback => exact s.fallbackWork_writes
  | palette => exact (Write.palette rfl).writes
  | promotion => exact s.promotionWork_writes
  | silence => exact s.silenceWork_writes hfree
  | takeover => exact s.takeoverWork_writes hfree
  | monitor l => exact s.monitorWork_writes (w := .work (.monitor l)) l rfl
  | timer t => exact s.timerFrameWork_writes hfree t

end

/-! ### Every row -/

/-- A row but the output frame start and the assertion of RESET is a chain of writes of one writer, none of which writes
what is live. -/
theorem exec_writes (c : Instr) (s : State) (hf : ∀ order, c ≠ .outputFrameStart order) (hr : c ≠ .resetAsserted) :
    ∃ w t, ¬ w.bringsLive ∧ exec c s = .next t ∧ Writes w s t := by
  have hport (p : Port) : ¬ (Writer.port p).bringsLive := by simp [Writer.bringsLive]
  cases hc : commandOf c with
  | some q =>
    obtain ⟨p, f, op⟩ := q
    exact ⟨.port p, _, hport p, exec_of_commandOf hc s, takeCommand_writes p f op (commandOf_writes hc) s⟩
  | none =>
    cases c with
    | cmd p | res p | caprep p | evt p | ack p | mask p | stat p | prst p | invalidTransaction p =>
      exact ⟨.port p, _, hport p, rfl, linkTransaction_writes p _ s⟩
    | unknownCommand p tag code operands =>
      have hk : (Frame.mk tag code operands).known = true := by
        by_contra h
        simp [commandOf, h] at hc
      exact ⟨.other, s, by simp [Writer.bringsLive], by simp [exec, execUnknownCommand, hk], .refl⟩
    | summaryRecord p =>
      refine ⟨.port p, _, hport p, rfl, ?_⟩
      split
      · exact .refl
      split
      · exact (s.setPort_writes p _).trans (State.setPort_writes _ p _)
      · exact .refl
    | outputFrameStart order => exact absurd rfl (hf order)
    | resetAsserted => exact absurd rfl hr
    | silenceLimit =>
      refine ⟨.work .silence, _, by simp [Writer.bringsLive], rfl, ?_⟩
      split
      · exact (s.silenceWork_writes (Writer.free_work _)).trans (Write.frameTaken _).writes
      · exact .refl
    | monitorExpiry l =>
      refine ⟨.work (.monitor l), _, by simp [Writer.bringsLive], rfl, ?_⟩
      split
      · exact .refl
      · exact (s.monitorWork_writes (w := .work (.monitor l)) l rfl).trans (Write.frameTaken _).writes
    | timerExpiry t =>
      refine ⟨.work (.timer t), _, by simp [Writer.bringsLive], rfl, ?_⟩
      split
      · exact .refl
      · exact (s.countTimer_writes (Writer.free_work _) t false).trans (Write.frameTaken _).writes
    | captureTakeover =>
      refine ⟨.work .takeover, _, by simp [Writer.bringsLive], rfl, ?_⟩
      split
      · exact (s.takeoverWork_writes (Writer.free_work _)).trans (Write.frameTaken _).writes
      · exact .refl
    | capActivate => exact ⟨.other, _, by simp [Writer.bringsLive], rfl, s.activate_writes false⟩
    | firstFrameMark =>
      refine ⟨.other, _, by simp [Writer.bringsLive], rfl, ?_⟩
      split
      · exact s.firstMark_writes Writer.free_other
      · exact .refl
    | inputFrameEnd bus order =>
      refine ⟨.mark, _, by simp [Writer.bringsLive], rfl, ?_⟩
      split
      · exact .refl
      split
      · exact s.firstMark_writes Writer.free_mark
      · exact s.frameEnd_writes _ _ _
    | resetReleased => exact ⟨.other, _, by simp [Writer.bringsLive], rfl, (Write.pinReleased).writes⟩
    | selectAsserted p kind =>
      refine ⟨.port p, _, hport p, rfl, ?_⟩
      split
      · exact s.setPort_writes p _
      · exact s.setPort_writes p _
      · exact .refl
      · exact .refl
    | _ => cases hc

/-- What every single write keeps, with the taking of the view and the assertion of RESET, every step keeps. -/
theorem keptByStep {Inv : State → Prop} (hq : ∀ s q, Inv s → Inv { s with pending := q })
    (hw : ∀ w s t, Write w s t → Inv s → Inv t)
    (hv : ∀ s, Inv s → Inv { s with frameTaken := [], view := some (takeView s) })
    (hr : ∀ s, Inv s → Inv s.pinReset) : KeptByStep Inv := by
  intro s s' hs he
  unfold step at he
  split at he
  · cases he; exact hs
  rename_i c rest _
  have hu := hq s rest hs
  by_cases ho : ∃ order, c = .outputFrameStart order
  · obtain ⟨order, rfl⟩ := ho
    obtain rfl := Host.Outcome.next.inj he
    split
    · exact hu
    · exact hv _ (List.foldlRecOn _ _ hu fun u h k _ => (frameWork_writes u k).keep (hw _) h)
  by_cases hp : c = .resetAsserted
  · subst hp
    obtain rfl := Host.Outcome.next.inj he
    exact hr _ hu
  · obtain ⟨w, t, _, ht, hwt⟩ := exec_writes c { s with pending := rest } (fun order e => ho ⟨order, e⟩) hp
    obtain rfl := Host.Outcome.next.inj (ht.symm.trans he)
    exact hwt.keep (hw w) hu

end Sys2Proof.Machine
end

section
/-! PROOFS. What no event and no port can change: the screen and the live scene between output frame starts (R3, R20, R72,
R87, R116), and what another port holds (R2, R50, R78, R106, R143). -/

namespace Sys2Proof.Machine

/-! ### The screen -/

/-- `t` shows what `s` shows, and its live scene is that of `s`. -/
structure SameScreen (s t : State) : Prop where
  view : t.view = s.view
  zLive : t.zLive = s.zLive
  backdropLive : t.backdropLive = s.backdropLive
  palLive : t.palLive = s.palLive
  shown : t.vin.shown = s.vin.shown
  layers : ∀ l, (t.layer l).live = (s.layer l).live ∧ (t.layer l).attrs = (s.layer l).attrs
    ∧ (t.layer l).current = (s.layer l).current

theorem SameScreen.refl (s : State) : SameScreen s s := ⟨rfl, rfl, rfl, rfl, rfl, fun _ => ⟨rfl, rfl, rfl⟩⟩

theorem SameScreen.trans {s t u : State} (h : SameScreen s t) (k : SameScreen t u) : SameScreen s u where
  view := k.view.trans h.view
  zLive := k.zLive.trans h.zLive
  backdropLive := k.backdropLive.trans h.backdropLive
  palLive := k.palLive.trans h.palLive
  shown := k.shown.trans h.shown
  layers l :=
    have ⟨a, b, c⟩ := k.layers l
    have ⟨a', b', c'⟩ := h.layers l
    ⟨a.trans a', b.trans b', c.trans c'⟩

/-- An edit before a frame start leaves the live record of its layer (R3). -/
theorem LayerEdit.live {s : State} {l : Fin 8} {w : Writer} {x : Layer} (hw : ¬ w.bringsLive) (h : LayerEdit s l w x) :
    x.live = (s.layer l).live ∧ x.attrs = (s.layer l).attrs ∧ x.current = (s.layer l).current := by
  cases h with
  | apply | drop | finish | opacity => exact absurd (.inl rfl) hw
  | _ => exact ⟨rfl, rfl, rfl⟩

theorem Write.sameScreen {w : Writer} {s t : State} (hw : ¬ w.bringsLive) (h : Write w s t) : SameScreen s t := by
  cases h with
  | layer l x hx =>
    refine { SameScreen.refl s with layers := fun m => ?_ }
    by_cases hm : m = l
    · subst hm; rw [State.layer_setLayer]; exact hx.live hw
    · rw [State.layer_setLayer_ne _ _ _ _ hm]; exact ⟨rfl, rfl, rfl⟩
  | vin x _ hs | store _ x hs => exact { SameScreen.refl s with shown := hs }
  | copyScene h => exact absurd (.inl h) hw
  | palette h => exact absurd (.inr (.inl h)) hw
  | promote h => exact absurd (.inr (.inr h)) hw
  | _ => exact { SameScreen.refl s with }

theorem Writes.sameScreen {w : Writer} {s t : State} (hw : ¬ w.bringsLive) (h : Writes w s t) : SameScreen s t :=
  h.keep (Inv := SameScreen s) (fun _ _ hu hs => hs.trans (hu.sameScreen hw)) (SameScreen.refl s)

/-! ### What another port holds -/

/-- What port `q` holds in `s` it holds in `t`, unchanged but for the reports and flags that reach it, the locks of its
layers' monitors, and the reference counts and capture flags of its slots. -/
structure Spares (q : Port) (s t : State) : Prop where
  port : ∃ reports sticky, t.port q = { s.port q with reports := reports, sticky := sticky }
  layers : ∀ l, (s.layer l).owner = some q → (s.layer l).binding ≠ .unbound → t.layer l = s.layer l
    ∧ ∃ lock port, t.monitor l = { s.monitor l with locked := lock, lockingPort := port }
  slots : ∀ i, (s.slot i).owner = some q → (s.slot i).state ≠ .free → (s.slot i).state ≠ .orphan →
    ∃ refs flag, t.slot i = { s.slot i with refCount := refs, captureFlag := flag }
  slices : ∀ i, s.sliceHolder i = some q → t.sliceHolder i = some q
    ∧ ∀ n : Fin 256, 16 ≤ n.val → n.val / 8 = i.val → t.palPending[n.val] = s.palPending[n.val]
  timers : ∀ m, (s.timer m).holder = some q → t.timer m = s.timer m
  vin : s.vin.holder = some q → t.vin = s.vin

theorem Spares.refl (q : Port) (s : State) : Spares q s s :=
  ⟨⟨_, _, rfl⟩, fun _ _ _ => ⟨rfl, _, _, rfl⟩, fun _ _ _ _ => ⟨_, _, rfl⟩, fun _ h => ⟨h, fun _ _ _ => rfl⟩,
    fun _ _ => rfl, fun _ => rfl⟩

theorem Spares.trans {q : Port} {s t u : State} (h : Spares q s t) (k : Spares q t u) : Spares q s u where
  port := by
    obtain ⟨_, _, e⟩ := h.port
    obtain ⟨r, f, e'⟩ := k.port
    exact ⟨r, f, by rw [e', e]⟩
  layers l ho hb := by
    obtain ⟨e, _, _, em⟩ := h.layers l ho hb
    obtain ⟨e', b, p, em'⟩ := k.layers l (by rw [e]; exact ho) (by rw [e]; exact hb)
    exact ⟨e'.trans e, b, p, by rw [em', em]⟩
  slots i ho hf hn := by
    obtain ⟨_, _, e⟩ := h.slots i ho hf hn
    obtain ⟨r, f, e'⟩ := k.slots i (by rw [e]; exact ho) (by rw [e]; exact hf) (by rw [e]; exact hn)
    exact ⟨r, f, by rw [e', e]⟩
  slices i ho := by
    obtain ⟨e, en⟩ := h.slices i ho
    obtain ⟨e', en'⟩ := k.slices i e
    exact ⟨e', fun n hn hi => (en' n hn hi).trans (en n hn hi)⟩
  timers m ho := by
    have e := h.timers m ho
    exact (k.timers m (by rw [e]; exact ho)).trans e
  vin ho := by
    have e := h.vin ho
    exact (k.vin (by rw [e]; exact ho)).trans e

/-- Who edits a layer, but to claim an unbound one, owns it (R2, R9). -/
theorem LayerEdit.mayWrite {p : Port} {s : State} {l : Fin 8} {x : Layer} (h : LayerEdit s l (.port p) x) :
    (s.layer l).binding = .unbound ∨ MayWrite (.port p) (s.layer l).owner := by
  cases h with
  | claim p hb => exact .inl hb
  | expire _ ho => exact .inr (MayWrite.of_eq ho)
  | discard p ho | release p ho | beginFresh p ho | beginCopy p ho | attrs p ho | place p ho | commit p ho =>
    exact .inr (MayWrite.of_eq ho)

/-- A slot that is no orphan loses a reference and nothing else (R62, R63). -/
theorem slotLessRef_of_ne_orphan (x : Slot) (h : x.state ≠ .orphan) :
    slotLessRef x = { x with refCount := x.refCount - 1 } := by
  simp [slotLessRef, h]

/-- A write of one slot that leaves the slots of `q` but for their counts and flags. -/
theorem Spares.setSlot {q : Port} (s : State) (i : Fin 64) (x : Slot)
    (h : (s.slot i).owner = some q → (s.slot i).state ≠ .free → (s.slot i).state ≠ .orphan →
      ∃ refs flag, x = { s.slot i with refCount := refs, captureFlag := flag }) : Spares q s (s.setSlot i x) := by
  refine { Spares.refl q s with slots := fun j ho hf hn => ?_ }
  by_cases hj : j = i
  · subst hj; rw [State.slot_setSlot]; exact h ho hf hn
  · exact ⟨_, _, by rw [State.slot_setSlot_ne _ _ _ _ hj]⟩

theorem Spares.setMonitor {q : Port} (s : State) (l : Fin 8) (x : Monitor)
    (h : (s.layer l).owner = some q → ∃ lock port, x = { s.monitor l with locked := lock, lockingPort := port }) :
    Spares q s (s.setMonitor l x) := by
  refine { Spares.refl q s with layers := fun m ho _ => ⟨rfl, ?_⟩ }
  by_cases hm : m = l
  · subst hm; rw [State.monitor_setMonitor]; exact h ho
  · exact ⟨_, _, by rw [State.monitor_setMonitor_ne _ _ _ _ hm]⟩

theorem palette_div_eight (n : Fin 256) (i : Fin 32) (h : n.val / 8 = i.val) : sliceOfEntry n = i := Fin.ext h

/-- One write of port `p` spares what every other port holds. -/
theorem Write.spares {p q : Port} (hpq : p ≠ q) {s t : State} (h : Write (.port p) s t) : Spares q s t := by
  cases h with
  | port p' hw x =>
    cases hw
    exact { Spares.refl q s with port := ⟨_, _, by rw [State.port_setPort_ne _ _ _ _ hpq.symm]⟩ }
  | raise r f _ =>
    refine { Spares.refl q s with port := ?_ }
    by_cases hr : q = r
    · subst hr; exact ⟨_, _, State.port_setPort _ _ _⟩
    · exact ⟨_, _, State.port_setPort_ne _ _ _ _ hr⟩
  | reports r rs =>
    refine { Spares.refl q s with port := ?_ }
    by_cases hr : q = r
    · subst hr; exact ⟨_, _, State.port_setPort _ _ _⟩
    · exact ⟨_, _, State.port_setPort_ne _ _ _ _ hr⟩
  | addRef i => exact Spares.setSlot s i _ fun _ _ _ => ⟨_, _, rfl⟩
  | dropRef i => exact Spares.setSlot s i _ fun _ _ hn => ⟨_, _, slotLessRef_of_ne_orphan _ hn⟩
  | flag i b => exact Spares.setSlot s i _ fun _ _ _ => ⟨_, _, rfl⟩
  | slot p' hp i x ho =>
    cases hp
    refine Spares.setSlot s i x fun hq hf _ => ?_
    rcases ho with ho | ho
    · exact absurd ho hf
    · exact absurd hq ((MayWrite.of_eq ho).not_held hpq)
  | vin x hw hs hr => exact { Spares.refl q s with vin := fun ho => absurd ho (hw.not_held hpq) }
  | slice p' hp i x ho =>
    cases hp
    refine { Spares.refl q s with slices := fun j hq => ⟨?_, fun _ _ _ => rfl⟩ }
    by_cases hj : j = i
    · subst hj
      rcases ho with ho | ho
      · exact absurd (ho ▸ hq) nofun
      · exact absurd hq ((MayWrite.of_eq ho).not_held hpq)
    · rw [State.sliceHolder_setSliceHolder_ne _ _ _ _ hj]; exact hq
  | entry p' hp n e hmay he =>
    cases hp
    refine { Spares.refl q s with slices := fun i ho => ⟨ho, fun m hm hi => ?_⟩ }
    have hn : n.val ≠ m.val := by
      intro e
      obtain rfl := Fin.ext e
      simp only [mayWrite, palette_div_eight n i hi, ho, Bool.or_eq_true, decide_eq_true_eq, Option.some.injEq] at hmay
      rcases hmay with hmay | rfl
      · omega
      · exact hpq rfl
    simp [State.setPalPending, hn]
  | timer t x hw =>
    refine { Spares.refl q s with timers := fun m ho => ?_ }
    by_cases hm : m = t
    · subst hm; exact absurd ho (hw.not_held hpq)
    · rw [State.timer_setTimer_ne _ _ _ _ hm]
  | monitor l x hw => exact Spares.setMonitor s l x fun ho => absurd ho ((MayWrite.of_eq hw).not_held hpq)
  | lock _ _ l b r => exact Spares.setMonitor s l _ fun _ => ⟨b, r, rfl⟩
  | layer l x hx =>
    refine { Spares.refl q s with layers := fun m ho hb => ⟨?_, _, _, rfl⟩ }
    by_cases hm : m = l
    · subst hm
      rcases hx.mayWrite with hu | hw
      · exact absurd hu hb
      · exact absurd ho (hw.not_held hpq)
    · rw [State.layer_setLayer_ne _ _ _ _ hm]
  | openSlot h | store h | refresh h | promote h | copyScene h | palette h => cases h
  | takeOver h => exact absurd rfl (h p)
  | cap | zPending | backdropPending | frameTaken | pinReleased => exact { Spares.refl q s with }

theorem Writes.spares {p q : Port} (hpq : p ≠ q) {s t : State} (h : Writes (.port p) s t) : Spares q s t :=
  h.keep (Inv := Spares q s) (fun _ _ hw hs => hs.trans (hw.spares hpq)) (Spares.refl q s)

/-! ### The claims -/

/-- Settles O50: no row but these two writes what is shown. -/
theorem onlyFrameStartsChangeTheScreen : Obligations.OnlyFrameStartsChangeTheScreen := by
  intro c s hf hr
  obtain ⟨w, t, hne, ht, hw⟩ := exec_writes c s hf hr
  obtain ⟨hview, hz, hb, hp, hs, hl⟩ := hw.sameScreen hne
  exact ⟨t, ht, fun x y => by rw [State.outputPixel, State.outputPixel, hview], hz, hb, hp, hs, hl⟩

/-- Settles O51: a command and a port reset are chains of writes of their port, each of which spares the other ports. -/
theorem portsCannotTouchOthersHoldings : Obligations.PortsCannotTouchOthersHoldings := by
  intro c p q s hpq hc
  have hw : ∃ t, exec c s = .next t ∧ Writes (.port p) s t := by
    rcases hc with ⟨f, op, hc⟩ | rfl
    · exact ⟨_, exec_of_commandOf hc s, takeCommand_writes p f op (commandOf_writes hc) s⟩
    · exact ⟨_, rfl, linkTransaction_writes p _ s⟩
  obtain ⟨t, ht, hw⟩ := hw
  obtain ⟨hport, hlayers, hslots, hslices, htimers, hvin⟩ := hw.spares hpq
  exact ⟨t, ht, hport, hlayers, hslots, hslices, htimers, hvin⟩

end Sys2Proof.Machine
end

section
/-! PROOFS. What every step keeps of the Scene Table: the z-orders (R6), the placement pool (R4, R5), the layer records (R1,
R2, R19) and the one layer that names VIN (R13). -/

namespace Sys2Proof.Machine

/-! ### The z-orders -/

/-- A layer moved in a z-order leaves it a z-order (R6, R15). -/
theorem moveLayer_perm {z : List (Fin 8)} (h : z.Perm (List.finRange 8)) (l k : Fin 8) :
    (moveLayer z l k.val).Perm (List.finRange 8) := by
  have hl : l ∈ z := h.mem_iff.mpr (List.mem_finRange l)
  have hlen : (z.erase l).length = 7 := by
    rw [List.length_erase_of_mem hl, h.length_eq, List.length_finRange]
  have hins : (moveLayer z l k.val).Perm (l :: z.erase l) := List.perm_insertIdx l _ (by omega)
  exact (hins.trans (List.perm_cons_erase hl).symm).trans h

theorem zOrdersOk_keptByStep : KeptByStep ZOrdersOk := by
  refine keptByStep (fun _ _ h => h) (fun w s t hw h => ?_) (fun _ h => h) (fun _ _ => ⟨.refl _, .refl _⟩)
  obtain ⟨hlive, hpending⟩ := h
  cases hw with
  | zPending _ _ l k => exact ⟨hlive, moveLayer_perm hpending l k⟩
  | copyScene => exact ⟨hpending, hpending⟩
  | _ => exact ⟨hlive, hpending⟩

/-! ### Claims about the layer records -/

/-- Every layer has its reset values once RESET is asserted (R8). -/
theorem State.layer_pinReset (s : State) (l : Fin 8) : s.pinReset.layer l = Layer.reset := by
  simp [State.pinReset, State.reset, State.layer]

/-- A claim about the layer records alone is kept by every step when the edits of one layer keep it. -/
theorem keptByStep_of_layers {Inv : State → Prop} (hl : ∀ s t : State, t.layers = s.layers → Inv s → Inv t)
    (hedit : ∀ s l w x, LayerEdit s l w x → Inv s → Inv (s.setLayer l x))
    (hreset : ∀ s, (∀ l, s.layer l = Layer.reset) → Inv s) : KeptByStep Inv := by
  refine keptByStep (fun s _ h => hl s _ rfl h) (fun w s t hw h => ?_) (fun s h => hl s _ rfl h)
    (fun s _ => hreset _ s.layer_pinReset)
  cases hw with
  | layer l x hx => exact hedit s l w x hx h
  | _ => exact hl s _ rfl h

theorem State.layer_of_layers_eq {s t : State} (h : t.layers = s.layers) (l : Fin 8) : t.layer l = s.layer l := by
  rw [State.layer, State.layer, h]

/-! ### The placement pool -/

/-- The pool entries that the two lists of a layer hold. -/
def Layer.indices (x : Layer) : List (Fin 128) := x.entries.map (·.index)

theorem Layer.indices_eq (x : Layer) : x.indices = x.live.map (·.index) ++ x.stagedList.map (·.index) := by
  simp [Layer.indices, Layer.entries]

theorem State.poolUsed_eq (s : State) : s.poolUsed = (List.finRange 8).flatMap fun l => (s.layer l).indices := by
  simp [State.poolUsed, State.placements, Layer.indices, List.map_flatMap]

theorem State.mem_poolUsed (s : State) (i : Fin 128) : i ∈ s.poolUsed ↔ ∃ l, i ∈ (s.layer l).indices := by
  simp [State.poolUsed_eq]

theorem State.mem_poolFree (s : State) (i : Fin 128) : i ∈ s.poolFree ↔ ∀ l, i ∉ (s.layer l).indices := by
  simp [State.poolFree, State.mem_poolUsed]

theorem State.poolFree_nodup (s : State) : s.poolFree.Nodup := (List.nodup_finRange 128).filter _

/-- No pool entry is in two places: not within a layer, and not in two layers (R4). -/
theorem State.poolUsed_nodup_iff (s : State) : s.poolUsed.Nodup ↔
    (∀ l, (s.layer l).indices.Nodup) ∧ ∀ l m, l ≠ m → (s.layer l).indices.Disjoint (s.layer m).indices := by
  have hp : (List.finRange 8).Pairwise (fun l m => (s.layer l).indices.Disjoint (s.layer m).indices) ↔
      ∀ l m, l ≠ m → (s.layer l).indices.Disjoint (s.layer m).indices := by
    refine ⟨fun h l m hlm => ?_, fun h => (List.nodup_finRange 8).imp fun hlm => h _ _ hlm⟩
    have : Std.Symm fun l m : Fin 8 => (s.layer l).indices.Disjoint (s.layer m).indices := ⟨fun _ _ hd => hd.symm⟩
    exact h.forall (List.mem_finRange l) (List.mem_finRange m) hlm
  rw [State.poolUsed_eq, List.nodup_flatMap, ← hp]
  simp

/-- A layer that keeps its own pool entries, and takes none but free ones, keeps the pool. -/
theorem PoolOk.setLayer {s : State} (h : PoolOk s) (l : Fin 8) (x : Layer) (hn : x.indices.Nodup)
    (hx : ∀ i ∈ x.indices, i ∈ (s.layer l).indices ∨ i ∈ s.poolFree) (hlive : x.live.length ≤ Config.listMax)
    (hstaged : x.stagedList.length ≤ Config.listMax) : PoolOk (s.setLayer l x) := by
  obtain ⟨hused, hlen⟩ := h
  rw [State.poolUsed_nodup_iff] at hused
  obtain ⟨hnodup, hdisj⟩ := hused
  have hother : ∀ m, m ≠ l → x.indices.Disjoint (s.layer m).indices := by
    intro m hm i hi hi'
    rcases hx i hi with hl | hf
    · exact hdisj l m hm.symm hl hi'
    · exact (s.mem_poolFree i).mp hf m hi'
  refine ⟨(State.poolUsed_nodup_iff _).mpr ⟨fun m => ?_, fun m k hmk => ?_⟩, fun m => ?_⟩
  · by_cases hm : m = l
    · subst hm; rwa [State.layer_setLayer]
    · rw [State.layer_setLayer_ne _ _ _ _ hm]; exact hnodup m
  · by_cases hm : m = l
    · subst hm
      rw [State.layer_setLayer, State.layer_setLayer_ne _ _ _ _ hmk.symm]
      exact hother k hmk.symm
    · rw [State.layer_setLayer_ne _ _ _ _ hm]
      by_cases hk : k = l
      · subst hk
        rw [State.layer_setLayer]
        exact (hother m hm).symm
      · rw [State.layer_setLayer_ne _ _ _ _ hk]
        exact hdisj m k hmk
  · by_cases hm : m = l
    · subst hm; rw [State.layer_setLayer]; exact ⟨hlive, hstaged⟩
    · rw [State.layer_setLayer_ne _ _ _ _ hm]; exact hlen m

theorem PoolOk.indices_nodup {s : State} (h : PoolOk s) (l : Fin 8) : (s.layer l).indices.Nodup :=
  ((State.poolUsed_nodup_iff s).mp h.1).1 l

/-- A layer whose lists are parts of the old lists keeps the pool. -/
theorem PoolOk.setLayer_sublist {s : State} (h : PoolOk s) (l : Fin 8) (x : Layer)
    (hx : x.indices.Sublist (s.layer l).indices) (hlive : x.live.length ≤ Config.listMax)
    (hstaged : x.stagedList.length ≤ Config.listMax) : PoolOk (s.setLayer l x) :=
  h.setLayer l x (hx.nodup (h.indices_nodup l)) (fun _ hi => .inl (hx.subset hi)) hlive hstaged

theorem Layer.stagedList_of_staged {x : Layer} {r : PendingRecord} (h : x.staged = some r) : x.stagedList = r.list := by
  simp [Layer.stagedList, h]

/-- Changing a pending record but for its list leaves the list. -/
theorem Layer.stagedList_map (x : Layer) (f : PendingRecord → PendingRecord) (h : ∀ r, (f r).list = r.list) (e : Expired) :
    Layer.stagedList { x with staged := x.staged.map f, expired := e } = x.stagedList := by
  cases hs : x.staged <;> simp [Layer.stagedList, hs, h]

theorem stagedAfterExpiry_eq_map (a : MonitorAction) (r : Option PendingRecord) : ∃ f : PendingRecord → PendingRecord,
    stagedAfterExpiry a r = r.map f ∧ ∀ r, (f r).list = r.list ∧ (f r).attrs = r.attrs := by
  cases a with
  | hold => exact ⟨id, by simp [stagedAfterExpiry], fun _ => ⟨rfl, rfl⟩⟩
  | hide | fallback => exact ⟨_, rfl, fun r => by split <;> exact ⟨rfl, rfl⟩⟩

/-- A COPY takes the lowest free pool entries, in order (R4, R11). -/
theorem copyEntries_indices (free : List (Fin 128)) (live : List Placement) :
    (copyEntries free live).map (·.index) = free.take live.length := by
  induction live generalizing free with
  | nil => simp [copyEntries]
  | cons e rest ih =>
    cases free with
    | nil => simp [copyEntries]
    | cons i free => simpa [copyEntries] using ih free

theorem LayerEdit.poolOk {s : State} {l : Fin 8} {w : Writer} {x : Layer} (hx : LayerEdit s l w x) (h : PoolOk s) :
    PoolOk (s.setLayer l x) := by
  have ⟨hlive, hstaged⟩ := h.2 l
  cases hx with
  | claim p hb => exact h.setLayer_sublist l _ (.refl _) hlive hstaged
  | release p ho hb hs => exact h.setLayer_sublist l _ (.refl _) hlive hstaged
  | discard p ho hb =>
    refine h.setLayer_sublist l _ ?_ hlive (by simp [Layer.stagedList])
    simp [Layer.indices_eq, Layer.stagedList]
  | beginFresh p ho hb hs =>
    refine h.setLayer_sublist l _ ?_ hlive (by simp [Layer.stagedList, stage])
    simp [Layer.indices_eq, Layer.stagedList, stage]
  | beginCopy p ho hb hs =>
    have hidx : Layer.indices { s.layer l with staged := stage (s.layer l) (copyEntries s.poolFree (s.layer l).live) }
        = (s.layer l).live.map (·.index) ++ s.poolFree.take (s.layer l).live.length := by
      rw [Layer.indices_eq, Layer.stagedList_of_staged rfl, copyEntries_indices]
    have hlen : (copyEntries s.poolFree (s.layer l).live).length ≤ Config.listMax := by
      simp only [copyEntries, List.length_zipWith]
      omega
    have hold : (s.layer l).indices = (s.layer l).live.map (·.index) := by
      simp [Layer.indices_eq, Layer.stagedList, hs]
    refine h.setLayer l _ ?_ (fun i hi => ?_) hlive (by rw [Layer.stagedList_of_staged rfl]; exact hlen)
    · rw [hidx, ← hold]
      refine (h.indices_nodup l).append (s.poolFree_nodup.sublist (List.take_sublist _ _)) fun i hi hf => ?_
      exact (s.mem_poolFree i).mp (List.mem_of_mem_take hf) l hi
    · rw [hidx, ← hold, List.mem_append] at hi
      exact hi.imp_right List.mem_of_mem_take
  | attrs p ho hb r hs a ha hv =>
    have e : Layer.stagedList { s.layer l with staged := some { r with attrs := a } } = (s.layer l).stagedList := by
      rw [Layer.stagedList_of_staged rfl, Layer.stagedList_of_staged hs]
    refine h.setLayer_sublist l _ ?_ hlive (by rw [e]; exact hstaged)
    rw [Layer.indices_eq, Layer.indices_eq, e]
  | place p ho hb r hs ha hl e he =>
    have hold : (s.layer l).indices = (s.layer l).live.map (·.index) ++ r.list.map (·.index) := by
      rw [Layer.indices_eq, Layer.stagedList_of_staged hs]
    have hidx : Layer.indices { s.layer l with staged := some { r with list := r.list ++ [e] } }
        = (s.layer l).indices ++ [e.index] := by
      rw [Layer.indices_eq, Layer.stagedList_of_staged rfl, hold]
      simp
    refine h.setLayer l _ ?_ (fun i hi => ?_) hlive ?_
    · rw [hidx]
      refine (h.indices_nodup l).append (List.nodup_singleton _) fun i hi hie => ?_
      obtain rfl := List.mem_singleton.mp hie
      exact (s.mem_poolFree _).mp he l hi
    · rw [hidx, List.mem_append, List.mem_singleton] at hi
      rcases hi with hi | rfl
      · exact .inl hi
      · exact .inr he
    · rw [Layer.stagedList_of_staged rfl, List.length_append, List.length_singleton]
      exact hl
  | commit p ho =>
    have e := (s.layer l).stagedList_map (fun r => { r with committed := true, clearsExpiry := true }) (fun _ => rfl)
      (s.layer l).expired
    refine h.setLayer_sublist l _ ?_ hlive (by rw [e]; exact hstaged)
    rw [Layer.indices_eq, Layer.indices_eq, e]
  | expire _ hw a =>
    obtain ⟨f, hf, hr⟩ := stagedAfterExpiry_eq_map a (s.layer l).staged
    have e := (s.layer l).stagedList_map f (fun r => (hr r).1) (expiredBy a (s.layer l).expired)
    rw [hf]
    refine h.setLayer_sublist l _ ?_ hlive (by rw [e]; exact hstaged)
    rw [Layer.indices_eq, Layer.indices_eq, e]
  | apply r hs e =>
    rw [Layer.stagedList_of_staged hs] at hstaged
    refine h.setLayer_sublist l _ ?_ hstaged (by simp [Layer.stagedList])
    simp [Layer.indices_eq, Layer.stagedList, hs]
  | drop =>
    refine h.setLayer_sublist l _ ?_ hlive (by simp [Layer.stagedList])
    simp [Layer.indices_eq, Layer.stagedList]
  | finish =>
    refine h.setLayer_sublist l _ ?_ (by simp [Layer.reset]) (by simp [Layer.stagedList, Layer.reset])
    simp [Layer.indices_eq, Layer.stagedList, Layer.reset]
  | opacity => exact h.setLayer_sublist l _ (.refl _) hlive hstaged

theorem poolOk_keptByStep : KeptByStep PoolOk := by
  refine keptByStep_of_layers (fun s t ht h => ?_) (fun s l w x hx => hx.poolOk) (fun s h => ?_)
  · unfold PoolOk at h ⊢
    simpa only [State.poolUsed_eq, State.layer_of_layers_eq ht] using h
  · have hempty : ∀ l, (s.layer l).indices = [] := fun l => by rw [h l]; rfl
    refine ⟨(State.poolUsed_nodup_iff s).mpr ⟨fun l => ?_, fun l m _ => ?_⟩, fun l => ?_⟩
    · rw [hempty l]; exact List.nodup_nil
    · rw [hempty l]; exact List.disjoint_nil_left _
    · rw [h l]; decide

/-- The free entries and those in lists make up the pool (R4). -/
theorem PoolOk.count {s : State} (h : PoolOk s) : s.poolFree.length + s.placements.length = 128 := by
  have hperm : ((List.finRange 128).filter fun i => i ∈ s.poolUsed).Perm s.poolUsed :=
    (List.perm_ext_iff_of_nodup ((List.nodup_finRange 128).filter _) h.1).mpr fun i => by simp
  have hsplit := List.length_eq_length_filter_add (l := List.finRange 128) fun i => decide (i ∈ s.poolUsed)
  have hused : s.poolUsed.length = s.placements.length := List.length_map _
  have hfree : ((List.finRange 128).filter fun i => !decide (i ∈ s.poolUsed)) = s.poolFree := by
    simp [State.poolFree]
  rw [hperm.length_eq, hfree, List.length_finRange] at hsplit
  omega

/-! ### Layer records -/

theorem layerOk_of_bound {x : Layer} (hb : x.binding = .bound) (ho : x.owner ≠ none) : LayerOk x := by
  simpa [LayerOk, hb] using ho

/-- An owned layer that is not RELEASING is BOUND. -/
theorem LayerOk.bound {x : Layer} (h : LayerOk x) {p : Port} (ho : x.owner = some p) (hb : x.binding ≠ .releasing) :
    x.binding = .bound := by
  cases hx : x.binding with
  | bound => rfl
  | releasing => exact absurd hx hb
  | unbound =>
    simp only [LayerOk, hx] at h
    rw [h] at ho
    cases ho

/-- Only a BOUND layer has a pending record (R19). -/
theorem LayerOk.bound_of_staged {x : Layer} (h : LayerOk x) {r : PendingRecord} (hs : x.staged = some r) :
    x.binding = .bound ∧ x.owner ≠ none := by
  cases hx : x.binding with
  | bound => simpa [LayerOk, hx] using h
  | releasing => simp_all [LayerOk]
  | unbound =>
    simp only [LayerOk, hx] at h
    rw [h] at hs
    cases hs

theorem LayersOk.setLayer {s : State} (h : LayersOk s) (l : Fin 8) (x : Layer) (hx : LayerOk x) :
    LayersOk (s.setLayer l x) := by
  intro m
  by_cases hm : m = l
  · subst hm; rwa [State.layer_setLayer]
  · rw [State.layer_setLayer_ne _ _ _ _ hm]; exact h m

/-- A change of the pending record and the expired condition that opens no record. -/
theorem LayerOk.map_staged {x : Layer} (h : LayerOk x) (f : PendingRecord → PendingRecord) (e : Expired) :
    LayerOk { x with staged := x.staged.map f, expired := e } := by
  cases hx : x.binding with
  | bound => simp_all [LayerOk]
  | releasing => simp_all [LayerOk]
  | unbound =>
    simp only [LayerOk, hx] at h ⊢
    rw [h]
    rfl

theorem LayerOk.unstaged {x : Layer} (h : LayerOk x) : LayerOk { x with staged := none } := by
  cases hx : x.binding with
  | bound | releasing => simp_all [LayerOk]
  | unbound =>
    simp only [LayerOk, hx] at h ⊢
    rw [h]
    rfl

/-- The opacity of an UNBOUND layer has reached its target (R1, R21). -/
theorem LayerOk.stepped {x : Layer} (h : LayerOk x) :
    LayerOk { x with current := opacityStep x.attrs.target x.attrs.step x.current } := by
  cases hx : x.binding with
  | bound | releasing => simp_all [LayerOk]
  | unbound =>
    simp only [LayerOk, hx] at h ⊢
    rw [h]
    rfl

theorem LayerEdit.layerOk {s : State} {l : Fin 8} {w : Writer} {x : Layer} (hx : LayerEdit s l w x)
    (h : LayerOk (s.layer l)) : LayerOk x := by
  cases hx with
  | claim p hb => exact layerOk_of_bound rfl nofun
  | release p ho hb hs => exact ⟨by simp [ho], hs⟩
  | discard p ho hb | beginFresh p ho hb | beginCopy p ho hb | attrs p ho hb | place p ho hb =>
    exact layerOk_of_bound (h.bound ho hb) (by simp [ho])
  | commit p ho => exact h.map_staged _ _
  | expire _ hw a =>
    obtain ⟨f, hf, _⟩ := stagedAfterExpiry_eq_map a (s.layer l).staged
    rw [hf]
    exact h.map_staged f _
  | apply r hs e =>
    obtain ⟨hb, ho⟩ := h.bound_of_staged hs
    exact layerOk_of_bound hb ho
  | drop => exact h.unstaged
  | finish => rfl
  | opacity => exact h.stepped

theorem layersOk_keptByStep : KeptByStep LayersOk := by
  refine keptByStep_of_layers (fun s t ht h l => ?_) (fun s l w x hx h => h.setLayer l x (hx.layerOk (h l)))
    (fun s h l => ?_)
  · rw [State.layer_of_layers_eq ht]; exact h l
  · rw [h l]; rfl

/-! ### The layer that names VIN -/

/-- A list beside a source VIN is empty (R13). -/
def Layer.vinAlone (x : Layer) : Prop :=
  (x.attrs.source = .vin → x.live = []) ∧ ∀ r ∈ x.staged, r.attrs.source = .vin → r.list = []

theorem SourceOk.vinAlone {s : State} (h : SourceOk s) (l : Fin 8) : (s.layer l).vinAlone := h.2 l

theorem Layer.namesVin_iff (x : Layer) :
    x.namesVin = true ↔ x.attrs.source = .vin ∨ ∃ r ∈ x.staged, r.attrs.source = .vin := by
  simp [Layer.namesVin, Option.any_eq_true]

theorem vinElsewhere_eq_false (s : State) (l : Fin 8) :
    vinElsewhere s l = false ↔ ∀ m, m ≠ l → (s.layer m).namesVin = false := by
  simp [vinElsewhere]

/-- A layer that names VIN only if it did, or if no other does, keeps VIN to one layer. -/
theorem SourceOk.setLayer {s : State} (h : SourceOk s) (l : Fin 8) (x : Layer) (hx : x.vinAlone)
    (hn : x.namesVin = true → (s.layer l).namesVin = true ∨ vinElsewhere s l = false) : SourceOk (s.setLayer l x) := by
  have hone : ∀ m, m ≠ l → x.namesVin = true → (s.layer m).namesVin = false := by
    intro m hm hv
    rcases hn hv with hl | he
    · by_contra hc
      exact hm (h.1 m l (by simpa using hc) hl)
    · exact (vinElsewhere_eq_false s l).mp he m hm
  refine ⟨fun m k hm hk => ?_, fun m => ?_⟩
  · by_cases em : m = l <;> by_cases ek : k = l
    · rw [em, ek]
    · subst em
      rw [State.layer_setLayer] at hm
      rw [State.layer_setLayer_ne _ _ _ _ ek, hone k ek hm] at hk
      cases hk
    · subst ek
      rw [State.layer_setLayer] at hk
      rw [State.layer_setLayer_ne _ _ _ _ em, hone m em hk] at hm
      cases hm
    · rw [State.layer_setLayer_ne _ _ _ _ em] at hm
      rw [State.layer_setLayer_ne _ _ _ _ ek] at hk
      exact h.1 m k hm hk
  · by_cases em : m = l
    · subst em; rw [State.layer_setLayer]; exact hx
    · rw [State.layer_setLayer_ne _ _ _ _ em]; exact h.2 m

/-- A layer that keeps its sources, and brings no entries beside VIN. -/
theorem SourceOk.setLayer_same {s : State} (h : SourceOk s) (l : Fin 8) (x : Layer) (hx : x.vinAlone)
    (hn : x.namesVin = true → (s.layer l).namesVin = true) : SourceOk (s.setLayer l x) :=
  h.setLayer l x hx fun hv => .inl (hn hv)

/-- Changing a pending record but for its attributes and list leaves the sources. -/
theorem SourceOk.map_staged {s : State} (h : SourceOk s) (l : Fin 8) (f : PendingRecord → PendingRecord)
    (hf : ∀ r, (f r).list = r.list ∧ (f r).attrs = r.attrs) (e : Expired) :
    SourceOk (s.setLayer l { s.layer l with staged := (s.layer l).staged.map f, expired := e }) := by
  obtain ⟨hlive, hstaged⟩ := h.vinAlone l
  refine h.setLayer_same l _ ⟨hlive, fun r hr hv => ?_⟩ fun hv => ?_
  · obtain ⟨r', hr', rfl⟩ := Option.map_eq_some_iff.mp hr
    rw [(hf r').1]
    exact hstaged r' hr' ((hf r').2 ▸ hv)
  · rw [Layer.namesVin_iff] at hv ⊢
    refine hv.imp_right ?_
    rintro ⟨r, hr, hv⟩
    obtain ⟨r', hr', rfl⟩ := Option.map_eq_some_iff.mp hr
    exact ⟨r', hr', (hf r').2 ▸ hv⟩

theorem LayerEdit.sourceOk {s : State} {l : Fin 8} {w : Writer} {x : Layer} (hx : LayerEdit s l w x)
    (h : SourceOk s) : SourceOk (s.setLayer l x) := by
  obtain ⟨hlive, hstaged⟩ := h.vinAlone l
  cases hx with
  | claim p hb => exact h.setLayer_same l _ ⟨hlive, hstaged⟩ id
  | release p ho hb hs => exact h.setLayer_same l _ ⟨hlive, hstaged⟩ id
  | discard p ho hb =>
    refine h.setLayer_same l _ ⟨hlive, nofun⟩ fun hv => ?_
    simp only [Layer.namesVin_iff] at hv ⊢
    exact .inl (hv.resolve_right (by simp))
  | beginFresh p ho hb hs =>
    refine h.setLayer_same l _ ⟨hlive, ?_⟩ fun hv => ?_
    · rintro _ ⟨⟩ _
      rfl
    · simpa [Layer.namesVin_iff, stage, hs] using hv
  | beginCopy p ho hb hs =>
    refine h.setLayer_same l _ ⟨hlive, ?_⟩ fun hv => ?_
    · rintro _ ⟨⟩ hv
      simp [copyEntries, hlive hv]
    · simpa [Layer.namesVin_iff, stage, hs] using hv
  | attrs p ho hb r hs a ha hv =>
    refine h.setLayer l _ ⟨hlive, ?_⟩ fun hn => ?_
    · rintro _ ⟨⟩ ha
      exact (hv ha).1
    · simp only [Layer.namesVin_iff, Option.mem_def, Option.some.injEq, exists_eq_left'] at hn ⊢
      rcases hn with hn | hn
      · exact .inl (.inl hn)
      · exact .inr (hv hn).2
  | place p ho hb r hs ha hl e he =>
    refine h.setLayer_same l _ ⟨hlive, ?_⟩ fun hv => ?_
    · rintro _ ⟨⟩ hv
      rw [ha] at hv
      cases hv
    · simpa [Layer.namesVin_iff, hs] using hv
  | commit p ho => exact h.map_staged l (fun r => { r with committed := true, clearsExpiry := true }) (fun _ => ⟨rfl, rfl⟩) _
  | expire _ hw a =>
    obtain ⟨f, hf, hr⟩ := stagedAfterExpiry_eq_map a (s.layer l).staged
    rw [hf]
    exact h.map_staged l f hr _
  | apply r hr e =>
    refine h.setLayer_same l _ ⟨hstaged r hr, nofun⟩ fun hv => ?_
    simp only [Layer.namesVin_iff] at hv ⊢
    exact .inr ⟨r, hr, hv.resolve_right (by simp)⟩
  | drop =>
    refine h.setLayer_same l _ ⟨hlive, nofun⟩ fun hv => ?_
    simp only [Layer.namesVin_iff] at hv ⊢
    exact .inl (hv.resolve_right (by simp))
  | finish => exact h.setLayer_same l _ ⟨nofun, nofun⟩ (by simp [Layer.namesVin_iff, Layer.reset, Attributes.reset])
  | opacity => exact h.setLayer_same l _ ⟨hlive, hstaged⟩ id

theorem sourceOk_keptByStep : KeptByStep SourceOk := by
  refine keptByStep_of_layers (fun s t ht h => ?_) (fun s l w x hx => hx.sourceOk) (fun s h => ?_)
  · unfold SourceOk at h ⊢
    simpa only [State.layer_of_layers_eq ht] using h
  · have hno : ∀ l, (s.layer l).namesVin = false := fun l => by rw [h l]; rfl
    exact ⟨fun l m hl => by simp [hno l] at hl, fun l => by rw [h l]; exact ⟨nofun, nofun⟩⟩

/-- Settles O53: each part is kept by every single write. -/
theorem sceneTableStaysConsistent : Obligations.SceneTableStaysConsistent :=
  ⟨zOrdersOk_keptByStep, poolOk_keptByStep, layersOk_keptByStep, sourceOk_keptByStep, fun s h =>
    ⟨h.count, fun i => by simp [State.poolFree, State.poolUsed]⟩⟩

end Sys2Proof.Machine
end

section
/-! PROOFS. The ranges of stored colours, alphas and opacities (R1, R16, R48, R70, R96, R110), kept by every step. -/

namespace Sys2Proof.Machine

/-! ### Layers -/

/-- A layer's opacities and steps lie within their ranges (R1). -/
def Layer.inRange (x : Layer) : Prop :=
  x.current ≤ 16 ∧ x.attrs.inRange = true ∧ ∀ r ∈ x.staged, r.attrs.inRange = true

/-- Opacity steps toward the target and never past it (R21). -/
theorem opacityStep_le (target step current : Nat) (ht : target ≤ 16) (hc : current ≤ 16) :
    opacityStep target step current ≤ 16 := by
  unfold opacityStep
  split
  · exact ht
  split
  · omega
  split <;> omega

theorem Layer.inRange_map {x : Layer} (h : x.inRange) (f : PendingRecord → PendingRecord)
    (hf : ∀ r, (f r).attrs = r.attrs) (e : Expired) :
    Layer.inRange { x with staged := x.staged.map f, expired := e } := by
  obtain ⟨hc, ha, hs⟩ := h
  refine ⟨hc, ha, fun r hr => ?_⟩
  obtain ⟨r', hr', rfl⟩ := Option.map_eq_some_iff.mp hr
  rw [hf]
  exact hs r' hr'

theorem Layer.inRange_reset (e : Expired) : Layer.inRange { Layer.reset with expired := e } :=
  ⟨le_rfl, rfl, nofun⟩

theorem LayerEdit.inRange {s : State} {l : Fin 8} {w : Writer} {x : Layer} (hx : LayerEdit s l w x)
    (h : (s.layer l).inRange) : x.inRange := by
  obtain ⟨hc, ha, hs⟩ := h
  cases hx with
  | claim p hb => exact ⟨hc, ha, hs⟩
  | release p ho hb hn => exact ⟨hc, ha, hs⟩
  | discard p ho hb => exact ⟨hc, ha, nofun⟩
  | beginFresh p ho hb hn | beginCopy p ho hb hn =>
    refine ⟨hc, ha, ?_⟩
    rintro _ ⟨⟩
    exact ha
  | attrs p ho hb r hr a hin hv =>
    refine ⟨hc, ha, ?_⟩
    rintro _ ⟨⟩
    exact hin
  | place p ho hb r hr hsrc hl e he =>
    refine ⟨hc, ha, ?_⟩
    rintro _ ⟨⟩
    exact hs r hr
  | commit p ho =>
    exact Layer.inRange_map ⟨hc, ha, hs⟩ (fun r => { r with committed := true, clearsExpiry := true }) (fun _ => rfl) _
  | expire _ hw a =>
    obtain ⟨f, hf, hr⟩ := stagedAfterExpiry_eq_map a (s.layer l).staged
    rw [hf]
    exact Layer.inRange_map ⟨hc, ha, hs⟩ f (fun r => (hr r).2) _
  | apply r hr e => exact ⟨hc, hs r hr, nofun⟩
  | drop => exact ⟨hc, ha, nofun⟩
  | finish => exact Layer.inRange_reset _
  | opacity =>
    have ht : (s.layer l).attrs.target ≤ 16 := by simp_all [Attributes.inRange]
    exact ⟨opacityStep_le _ _ _ ht hc, ha, hs⟩

/-- A write of one layer leaves every layer in range when the layer written is. -/
theorem layers_inRange_setLayer {s : State} (h : ∀ l, (s.layer l).inRange) (l : Fin 8) (x : Layer) (hx : x.inRange) :
    ∀ m, ((s.setLayer l x).layer m).inRange := by
  intro m
  by_cases hm : m = l
  · subst hm; rwa [State.layer_setLayer]
  · rw [State.layer_setLayer_ne _ _ _ _ hm]; exact h m

/-! ### Slots and the palette -/

/-- A write of one slot leaves pixel memory in range when the pixels it brings are. -/
theorem pixels_inRange_setSlot {s : State} (h : ∀ i, ∀ px ∈ (s.slot i).pixels, px.inRange = true) (i : Fin 64) (x : Slot)
    (hx : ∀ px ∈ x.pixels, px ∈ (s.slot i).pixels ∨ px.inRange = true) :
    ∀ j, ∀ px ∈ ((s.setSlot i x).slot j).pixels, px.inRange = true := by
  intro j
  by_cases hj : j = i
  · subst hj
    rw [State.slot_setSlot]
    exact fun px hpx => (hx px hpx).elim (h j px) id
  · rw [State.slot_setSlot_ne _ _ _ _ hj]; exact h j

/-- A slot that loses a reference keeps its pixel memory (R63). -/
theorem slotLessRef_pixels (x : Slot) : (slotLessRef x).pixels = x.pixels := by
  unfold slotLessRef
  split <;> rfl

/-- What a takeover writes into pixel memory lies in video range (R48, R68). -/
theorem takenOver_pixels (x : Slot) (w h : Nat) (cs : List Colour) :
    ∀ px ∈ (takenOver x w h cs).pixels, px ∈ x.pixels ∨ px.inRange = true := by
  intro px hpx
  simp only [takenOver, List.mem_append, List.mem_map] at hpx
  rcases hpx with ⟨c, _, rfl⟩ | hpx
  · exact .inr (clampColour_inRange _ _ _)
  · exact .inl (List.mem_of_mem_drop hpx)

theorem palPending_inRange_set {s : State} (h : ∀ n : Fin 256, s.palPending[n.val].inRange = true) (n : Fin 256)
    (e : PaletteEntry) (he : e.inRange = true) : ∀ m : Fin 256, (s.setPalPending n e).palPending[m.val].inRange = true := by
  intro m
  by_cases hm : n.val = m.val
  · simpa [State.setPalPending, hm] using he
  · simpa [State.setPalPending, hm] using h m

/-! ### Every write -/

theorem Write.coloursOk {w : Writer} {s t : State} (hw : Write w s t) (h : ColoursOk s) : ColoursOk t := by
  obtain ⟨hlive, hpending, hpal, hlayer, hslot, hready, hshown, hview⟩ := h
  cases hw with
  | addRef i =>
    exact ⟨hlive, hpending, hpal, hlayer, pixels_inRange_setSlot hslot i _ fun _ => .inl, hready, hshown, hview⟩
  | dropRef i =>
    exact ⟨hlive, hpending, hpal, hlayer, pixels_inRange_setSlot hslot i _ fun px hpx => .inl (slotLessRef_pixels _ ▸ hpx),
      hready, hshown, hview⟩
  | flag i b =>
    exact ⟨hlive, hpending, hpal, hlayer, pixels_inRange_setSlot hslot i _ fun _ => .inl, hready, hshown, hview⟩
  | slot p _ i x _ hp => exact ⟨hlive, hpending, hpal, hlayer, pixels_inRange_setSlot hslot i x hp, hready, hshown, hview⟩
  | openSlot _ i =>
    exact ⟨hlive, hpending, hpal, hlayer, pixels_inRange_setSlot hslot i _ fun _ => .inl, hready, hshown, hview⟩
  | takeOver _ r width height cs =>
    exact ⟨hlive, hpending, hpal, hlayer, pixels_inRange_setSlot hslot r.slot _ (takenOver_pixels _ width height cs),
      hready, hshown, hview⟩
  | vin x _ hs hr =>
    refine ⟨hlive, hpending, hpal, hlayer, hslot, ?_, ?_, hview⟩
    · rw [State.setVin_vin, hr]
      exact hready
    · rw [State.setVin_vin, hs]
      exact hshown
  | store _ x hs hr =>
    refine ⟨hlive, hpending, hpal, hlayer, hslot, fun f hf => (hr f hf).elim (hready f) id, ?_, hview⟩
    rw [State.setVin_vin, hs]
    exact hshown
  | promote _ f hf =>
    refine ⟨hlive, hpending, hpal, hlayer, hslot, nofun, ?_, hview⟩
    rintro _ ⟨⟩
    exact hready f hf
  | copyScene => exact ⟨hpending, hpending, hpal, hlayer, hslot, hready, hshown, hview⟩
  | palette => exact ⟨hlive, hpending, fun n => ⟨(hpal n).2, (hpal n).2⟩, hlayer, hslot, hready, hshown, hview⟩
  | entry _ _ n e _ he =>
    have hset := palPending_inRange_set (fun n => (hpal n).2) n e he
    exact ⟨hlive, hpending, fun m => ⟨(hpal m).1, hset m⟩, hlayer, hslot, hready, hshown, hview⟩
  | layer l x hx =>
    exact ⟨hlive, hpending, hpal, layers_inRange_setLayer hlayer l x (hx.inRange (hlayer l)), hslot, hready, hshown, hview⟩
  | backdropPending _ _ c hc => exact ⟨hlive, hc, hpal, hlayer, hslot, hready, hshown, hview⟩
  | port | raise | reports | cap | slice | timer | monitor | refresh | lock | zPending | frameTaken | pinReleased =>
    exact ⟨hlive, hpending, hpal, hlayer, hslot, hready, hshown, hview⟩

/-! ### The view -/

theorem takeView_layer (s : State) (l : Fin 8) : (takeView s).layer l = layerView s l := by
  simp [takeView, View.layer]

theorem takeView_image (s : State) (i : Fin 64) : (takeView s).image i = slotImage (s.slot i) := by
  simp [takeView, View.image]

/-- A slot's image is its pixel memory (R61). -/
theorem slotImage_pixels {x : Slot} {img : Image} (h : slotImage x = some img) : img.pixels = x.pixels := by
  unfold slotImage at h
  split at h
  · cases h; rfl
  · cases h

/-- The view of a state in range is in range (R87, R96). -/
theorem ColoursOk.takeView {s : State} (h : ColoursOk s) : (takeView s).InRange := by
  obtain ⟨hlive, _, hpal, hlayer, hslot, _, hshown, _⟩ := h
  refine ⟨hlive, fun l => ?_, fun n => (hpal n).1, fun i img himg => ?_, hshown⟩
  · rw [takeView_layer]
    exact (hlayer l).1
  · rw [takeView_image] at himg
    rw [slotImage_pixels himg]
    exact hslot i

/-! ### The RESET pin -/

theorem State.slot_pinReset (s : State) (i : Fin 64) : s.pinReset.slot i = Slot.freed (s.slot i).pixels := by
  simp [State.pinReset, State.slot]

theorem PaletteEntry.reset_inRange : PaletteEntry.reset.inRange = true := by decide

theorem State.coloursOk_pinReset {s : State} (h : ColoursOk s) : ColoursOk s.pinReset := by
  obtain ⟨_, _, _, _, hslot, _⟩ := h
  refine ⟨rfl, rfl, fun n => ?_, fun l => ?_, fun i => ?_, nofun, nofun, nofun⟩
  · simp [State.pinReset, State.reset, PaletteEntry.reset_inRange]
  · rw [State.layer_pinReset]
    exact Layer.inRange_reset .none
  · rw [State.slot_pinReset]
    exact hslot i

/-- Settles O59: each single write brings in colours in range alone, and the view is taken from what is stored. -/
theorem coloursStayInRange : Obligations.ColoursStayInRange := by
  refine keptByStep (fun _ _ h => h) (fun _ _ _ hw => hw.coloursOk) (fun s h => ?_)
    (fun _ => State.coloursOk_pinReset)
  have hview := h.takeView
  obtain ⟨hlive, hpending, hpal, hlayer, hslot, hready, hshown, _⟩ := h
  refine ⟨hlive, hpending, hpal, hlayer, hslot, hready, hshown, ?_⟩
  rintro _ ⟨⟩
  exact hview

end Sys2Proof.Machine
end

section
/-! PROOFS. The checks that commands make of the holding they name (R2, R24, R50, R106, R123, R143, R154). -/

namespace Sys2Proof.Machine

/-! ### Numbers named by an operand byte -/

theorem layerOf_of_le {b : Byte} (h : 8 ≤ b.toNat) : layerOf b = none := by simp [layerOf, h]

theorem layerOf_of_eq {b : Byte} {n : Fin 8} (h : b.toNat = n.val) : layerOf b = some n := by simp [layerOf, h]

theorem slotOf_of_le {b : Byte} (h : 64 ≤ b.toNat) : slotOf b = none := by simp [slotOf, h]

theorem slotOf_of_eq {b : Byte} {n : Fin 64} (h : b.toNat = n.val) : slotOf b = some n := by simp [slotOf, h]

theorem timerOf_of_le {b : Byte} (h : 4 ≤ b.toNat) : timerOf b = none := by simp [timerOf, h]

theorem timerOf_of_eq {b : Byte} {n : Fin 4} (h : b.toNat = n.val) : timerOf b = some n := by simp [timerOf, h]

/-! ### The checks -/

section
variable {p : Port} {b : Byte} {s : State}

theorem ownedLayer_of_le {k : Fin 8 → CommandOp} (h : 8 ≤ b.toNat) : ownedLayer p b k s = (s, refuse .badArg) := by
  simp [ownedLayer, layerOf_of_le h]

theorem ownedLayer_of_ne {k : Fin 8 → CommandOp} {n : Fin 8} (h : b.toNat = n.val) (ho : (s.layer n).owner ≠ some p) :
    ownedLayer p b k s = (s, refuse .notOwner) := by
  simp [ownedLayer, layerOf_of_eq h, ho]

theorem ownedLayer_of_owner {k : Fin 8 → CommandOp} {n : Fin 8} (h : b.toNat = n.val) (ho : (s.layer n).owner = some p) :
    ownedLayer p b k s = k n s := by
  simp [ownedLayer, layerOf_of_eq h, ho]

theorem ownedSlot_of_le {k : Fin 64 → CommandOp} (h : 64 ≤ b.toNat) : ownedSlot p b k s = (s, refuse .badArg) := by
  simp [ownedSlot, slotOf_of_le h]

theorem ownedSlot_of_ne {k : Fin 64 → CommandOp} {n : Fin 64} (h : b.toNat = n.val) (ho : (s.slot n).owner ≠ some p) :
    ownedSlot p b k s = (s, refuse .notOwner) := by
  simp [ownedSlot, slotOf_of_eq h, ho]

theorem heldTimer_of_le {k : Fin 4 → CommandOp} (h : 4 ≤ b.toNat) : heldTimer p b k s = (s, refuse .badArg) := by
  simp [heldTimer, timerOf_of_le h]

theorem heldTimer_of_ne {k : Fin 4 → CommandOp} {n : Fin 4} (h : b.toNat = n.val) (ho : (s.timer n).holder ≠ some p) :
    heldTimer p b k s = (s, refuse .notOwner) := by
  simp [heldTimer, timerOf_of_eq h, ho]

theorem byHolder_of_ne {k : CommandOp} (h : s.vin.holder ≠ some p) : byHolder p k s = (s, refuse .notOwner) := by
  simp [byHolder, h]

theorem editable_of_releasing {i : Fin 8} {k : PendingRecord → CommandOp} (h : (s.layer i).binding = .releasing) :
    editable i k s = (s, refuse .waitFrame) := by
  simp [editable, h]

end

/-! ### Which check a command row makes -/

/-- A command on a layer asks for its owner, and refuses WAIT_FRAME on a RELEASING layer (R2, R24). -/
theorem layerOperand_ownedLayer {i : Instr} {p : Port} {f : Frame} {op : CommandOp} {l : Byte}
    (hc : commandOf i = some (p, f, op)) (hl : layerOperand i = some l) :
    ∃ k, op = ownedLayer p l k ∧ ∀ n s, (s.layer n).binding = .releasing → k n s = (s, refuse .waitFrame) := by
  cases i with
  | lyrRelease | lyrBegin | lyrZ | frsSetup | frsStart | frsStop | frsTouch =>
    cases hc; cases hl
    exact ⟨_, rfl, fun n s hb => by rw [if_pos hb]⟩
  | lyrAttr | plcAdd | plcCursor =>
    cases hc; cases hl
    exact ⟨_, rfl, fun n s hb => editable_of_releasing hb⟩
  | _ => cases hl

/-- A command on a slot asks for its owner (R50, R123). -/
theorem slotOperand_ownedSlot {i : Instr} {p : Port} {f : Frame} {op : CommandOp} {b : Byte}
    (hc : commandOf i = some (p, f, op)) (hw : i.wellFormed = true) (hb : slotOperand i = some b) :
    ∃ k, op = ownedSlot p b k := by
  cases i with
  | sltData q tag i data =>
    cases hc; cases hb
    rw [if_pos (of_decide_eq_true hw)]
    exact ⟨_, rfl⟩
  | sltRelease | sltOpen | sltFill | sltClose | capRequest =>
    cases hc; cases hb
    exact ⟨_, rfl⟩
  | _ => cases hb

/-- A command on a timer asks for its holder (R143). -/
theorem timerOperand_heldTimer {i : Instr} {p : Port} {f : Frame} {op : CommandOp} {b : Byte}
    (hc : commandOf i = some (p, f, op)) (hb : timerOperand i = some b) : ∃ k, op = heldTimer p b k := by
  cases i with
  | tmrRelease | tmrSetup | tmrTemplate | tmrStart | tmrStop =>
    cases hc; cases hb
    exact ⟨_, rfl⟩
  | _ => cases hb

/-- A command of the trailer input's holder asks for it (R106). -/
theorem asksInput_byHolder {i : Instr} {p : Port} {f : Frame} {op : CommandOp} (hc : commandOf i = some (p, f, op))
    (hb : asksInput i = true) : ∃ k, op = byHolder p k := by
  cases i with
  | vinRelease | vinFormat | vinEnable | capEnable =>
    cases hc
    exact ⟨_, rfl⟩
  | _ => cases hb

/-- A command row whose operation refuses answers so and changes nothing else (R177). -/
theorem exec_refused {i : Instr} {p : Port} {f : Frame} {op : CommandOp} {s : State} {o : OutcomeCode}
    (hc : commandOf i = some (p, f, op)) (ht : Takes s p f) (hop : op (s.dropHead p) = (s.dropHead p, refuse o)) :
    exec i s = .next (s.answered p f o 0 []) := by
  rw [exec_of_commandOf hc, takeCommand_refused p f op s o ht hop]

/-- Settles O9: each such command is `ownedLayer`, `ownedSlot`, `heldTimer` or `byHolder` of what follows its checks. -/
theorem holdingsAskForTheirOwner : Obligations.HoldingsAskForTheirOwner := by
  refine ⟨fun i p f op l s hc hl ht => ?_, fun i p f op s hc hw ht => ⟨?_, ?_, ?_, ?_, ?_⟩⟩
  · obtain ⟨k, rfl, hk⟩ := layerOperand_ownedLayer hc hl
    refine ⟨fun h => exec_refused hc ht (ownedLayer_of_le h), fun n hn => ⟨fun ho => ?_, fun ho hb => ?_⟩⟩
    · exact exec_refused hc ht (ownedLayer_of_ne hn ho)
    · exact exec_refused hc ht ((ownedLayer_of_owner (s := s.dropHead p) hn ho).trans (hk n _ hb))
  · intro b hb h
    obtain ⟨k, rfl⟩ := slotOperand_ownedSlot hc hw hb
    exact exec_refused hc ht (ownedSlot_of_le h)
  · intro b n hb hn ho
    obtain ⟨k, rfl⟩ := slotOperand_ownedSlot hc hw hb
    exact exec_refused hc ht (ownedSlot_of_ne hn ho)
  · intro b hb h
    obtain ⟨k, rfl⟩ := timerOperand_heldTimer hc hb
    exact exec_refused hc ht (heldTimer_of_le h)
  · intro b n hb hn ho
    obtain ⟨k, rfl⟩ := timerOperand_heldTimer hc hb
    exact exec_refused hc ht (heldTimer_of_ne hn ho)
  · intro ha ho
    obtain ⟨k, rfl⟩ := asksInput_byHolder hc ha
    exact exec_refused hc ht (byHolder_of_ne ho)

end Sys2Proof.Machine
end

section
/-! PROOFS. The layer commands (file 01): LYR_CLAIM, LYR_RELEASE, LYR_BEGIN, LYR_ATTR, LYR_COMMIT, LYR_Z and BACKDROP. -/

namespace Sys2Proof.Machine

/-! ### Answers -/

/-- A command row whose operation answers leaves the block's state and its record (R177). -/
theorem exec_answered {i : Instr} {p : Port} {f : Frame} {op : CommandOp} {s : State} (t : State) (o : OutcomeCode) (v : Nat)
    (x : List Byte) (hc : commandOf i = some (p, f, op)) (ht : Takes s p f)
    (hop : op (s.dropHead p) = (t, { outcome := o, value := v, extra := x })) :
    exec i s = .next (t.pushRecord p ⟨f.tag, f.code, o, v, x⟩) := by
  rw [exec_of_commandOf hc, takeCommand_answered p f op s t o v x ht hop]

/-- The owner's command on a layer that is not RELEASING runs on past the shared checks (R2). -/
theorem boundLayer_of_owner {p : Port} {b : Byte} {n : Fin 8} {s : State} {k : Fin 8 → CommandOp} (h : b.toNat = n.val)
    (ho : (s.layer n).owner = some p) (hb : (s.layer n).binding ≠ .releasing) :
    (ownedLayer p b fun i s => if (s.layer i).binding = .releasing then (s, refuse .waitFrame) else k i s) s = k n s := by
  rw [ownedLayer_of_owner h ho, if_neg hb]

/-! ### LYR_CLAIM -/

/-- Settles O10. -/
theorem layerClaimTakesAnUnboundLayer : Obligations.LayerClaimTakesAnUnboundLayer := by
  intro p tag l s ht
  refine ⟨fun h => exec_refused rfl ht (by simp [lyrClaim, layerOf_of_le h]), fun n hn => ⟨fun hb => ?_, fun hb => ?_⟩⟩
  · exact exec_answered ((s.dropHead p).setLayer n { s.layer n with binding := .bound, owner := some p }) .ok n.val [] rfl
      ht (by simp [lyrClaim, layerOf_of_eq hn, hb])
  · exact exec_refused rfl ht (by simp [lyrClaim, layerOf_of_eq hn, hb])

/-! ### Discarding a record and releasing a layer -/

/-- A discard costs each slot the references of the discarded list (R3, R62). -/
theorem State.slot_discardStaged (s : State) (l : Fin 8) (j : Fin 64) : (s.discardStaged l).slot j =
    slotLessRef^[(s.layer l).stagedList.countP (fun e => e.slot = j)] (s.slot j) := by
  unfold State.discardStaged
  rw [State.slot_dropRefs]
  rfl

theorem State.monitor_discardStaged (s : State) (l m : Fin 8) : (s.discardStaged l).monitor m = s.monitor m := by
  rw [State.discardStaged_eq]
  rfl

theorem State.viewFallback_discardStaged (s : State) (l m : Fin 8) :
    (s.discardStaged l).viewFallback m = s.viewFallback m := by
  rw [State.discardStaged_eq]
  rfl

/-- A fallback given up costs its slot a reference, unless the view of the frame in progress took it (R156). -/
theorem State.slot_dropFallback (s : State) (l : Fin 8) (old : Option (Fin 64)) (j : Fin 64) : (s.dropFallback l old).slot j =
    if old = some j ∧ s.viewFallback l ≠ some j then slotLessRef (s.slot j) else s.slot j := by
  unfold State.dropFallback
  cases old with
  | none => simp
  | some y =>
    by_cases hv : s.viewFallback l = some y <;> by_cases hy : y = j
    · subst hy; simp [hv]
    · simp [hv, hy]
    · subst hy; simp [hv, State.dropRef]
    · simp [hv, hy, State.dropRef, State.slot_setSlot_ne _ _ _ _ (Ne.symm hy)]

theorem State.monitor_releaseMonitor_ne (s : State) (l m : Fin 8) (h : m ≠ l) :
    (s.releaseMonitor l).monitor m = s.monitor m := by
  unfold State.releaseMonitor
  dsimp only
  split
  · rfl
  · rw [State.dropFallback_eq]
    exact State.monitor_setMonitor_ne _ _ _ _ h

/-- A locked monitor outlives the release of its layer (R163). -/
theorem State.releaseMonitor_of_locked (s : State) (l : Fin 8) (h : (s.monitor l).locked = true) :
    s.releaseMonitor l = s := by
  simp [State.releaseMonitor, h]

/-- An unlocked monitor is returned to its reset values (R163). -/
theorem State.monitor_releaseMonitor (s : State) (l : Fin 8) (h : (s.monitor l).locked = false) :
    (s.releaseMonitor l).monitor l = { Monitor.reset with lockingPort := (s.monitor l).lockingPort } := by
  simp only [State.releaseMonitor, h]
  rw [if_neg Bool.false_ne_true, State.dropFallback_eq]
  exact State.monitor_setMonitor _ _ _

theorem State.slot_releaseMonitor (s : State) (l : Fin 8) (j : Fin 64) : (s.releaseMonitor l).slot j =
    if (s.monitor l).locked = false ∧ (s.monitor l).fallback = some j ∧ s.viewFallback l ≠ some j
    then slotLessRef (s.slot j) else s.slot j := by
  cases h : (s.monitor l).locked with
  | true => simp [State.releaseMonitor_of_locked s l h]
  | false =>
    simp only [State.releaseMonitor, h, Bool.false_eq_true, if_false, State.slot_dropFallback, State.setMonitor_get_slot,
      State.setMonitor_get_viewFallback]
    exact if_congr (by simp) rfl rfl

theorem State.releaseLayer_eq (s : State) (l : Fin 8) : s.releaseLayer l = { s with
    layers := (s.releaseLayer l).layers, slots := (s.releaseLayer l).slots, monitors := (s.releaseLayer l).monitors } := by
  unfold State.releaseLayer
  dsimp only
  rw [State.releaseMonitor_eq, State.discardStaged_eq]
  rfl

theorem State.layer_releaseMonitor (s : State) (l m : Fin 8) : (s.releaseMonitor l).layer m = s.layer m := by
  rw [State.releaseMonitor_eq]
  rfl

theorem State.layer_releaseLayer_ne (s : State) (l m : Fin 8) (h : m ≠ l) : (s.releaseLayer l).layer m = s.layer m := by
  unfold State.releaseLayer
  dsimp only
  rw [State.layer_releaseMonitor, State.layer_setLayer_ne _ _ _ _ h, State.layer_discardStaged_ne _ _ _ h]

theorem State.monitor_releaseLayer_ne (s : State) (l m : Fin 8) (h : m ≠ l) :
    (s.releaseLayer l).monitor m = s.monitor m := by
  unfold State.releaseLayer
  dsimp only
  rw [State.monitor_releaseMonitor_ne _ _ _ h, State.setLayer_get_monitor, State.monitor_discardStaged]

theorem State.monitor_releaseLayer_of_locked (s : State) (l : Fin 8) (h : (s.monitor l).locked = true) :
    (s.releaseLayer l).monitor l = s.monitor l := by
  unfold State.releaseLayer
  dsimp only
  rw [State.releaseMonitor_of_locked _ _ (by rwa [State.setLayer_get_monitor, State.monitor_discardStaged]),
    State.setLayer_get_monitor, State.monitor_discardStaged]

theorem State.monitor_releaseLayer (s : State) (l : Fin 8) (h : (s.monitor l).locked = false) :
    (s.releaseLayer l).monitor l = { Monitor.reset with lockingPort := (s.monitor l).lockingPort } := by
  unfold State.releaseLayer
  dsimp only
  rw [State.monitor_releaseMonitor _ _ (by rwa [State.setLayer_get_monitor, State.monitor_discardStaged]),
    State.setLayer_get_monitor, State.monitor_discardStaged]

theorem State.slot_releaseLayer (s : State) (l : Fin 8) (j : Fin 64) : (s.releaseLayer l).slot j =
    slotLessRef^[(s.layer l).stagedList.countP (fun e => e.slot = j)
      + (if (s.monitor l).locked = false ∧ (s.monitor l).fallback = some j ∧ s.viewFallback l ≠ some j then 1 else 0)]
      (s.slot j) := by
  unfold State.releaseLayer
  dsimp only
  rw [State.slot_releaseMonitor, State.setLayer_get_monitor, State.monitor_discardStaged, State.setLayer_get_viewFallback,
    State.viewFallback_discardStaged, State.setLayer_get_slot, State.slot_discardStaged]
  split
  · rw [← Function.iterate_succ_apply' slotLessRef]
  · rfl

/-- Settles O11. -/
theorem layerReleaseKeepsTheLiveRecord : Obligations.LayerReleaseKeepsTheLiveRecord := by
  intro p tag l n s ht hn ho hb
  have hop : lyrRelease p l (s.dropHead p) = ((s.dropHead p).releaseLayer n, { outcome := .ok }) :=
    boundLayer_of_owner (k := fun i s => (s.releaseLayer i, { outcome := .ok })) hn ho hb
  refine ⟨_, exec_answered _ .ok 0 [] rfl ht hop, ?_, (s.dropHead p).layer_releaseLayer n, fun m hm => ⟨?_, ?_⟩, fun h => ?_,
    fun h => ?_, fun j => (s.dropHead p).slot_releaseLayer n j⟩
  · exact congrArg (fun u => u.pushRecord p ⟨tag, 0x11, .ok, 0, []⟩) ((s.dropHead p).releaseLayer_eq n)
  · exact (s.dropHead p).layer_releaseLayer_ne n m hm
  · exact (s.dropHead p).monitor_releaseLayer_ne n m hm
  · exact (s.dropHead p).monitor_releaseLayer_of_locked n h
  · exact (s.dropHead p).monitor_releaseLayer n h

end Sys2Proof.Machine
end

section
/-! PROOFS. The layer commands that stage an edit and commit it (R11 to R14), and those of the stacking order and the
backdrop (R15, R16). -/

namespace Sys2Proof.Machine

/-! ### LYR_BEGIN -/

theorem lyrBegin_of_owner {p : Port} {b mode : Byte} {n : Fin 8} {s : State} (h : b.toNat = n.val)
    (ho : (s.layer n).owner = some p) (hb : (s.layer n).binding ≠ .releasing) : lyrBegin p b mode s =
      if ((s.layer n).staged.any fun r => r.committed) then (s, refuse .waitFrame)
      else if mode = 0 then beginFresh n s
      else if mode = 1 then beginCopy n s
      else (s, refuse .badArg) :=
  boundLayer_of_owner (k := fun i s =>
    if ((s.layer i).staged.any fun r : PendingRecord => r.committed) then (s, refuse .waitFrame)
    else if mode = 0 then beginFresh i s
    else if mode = 1 then beginCopy i s
    else (s, refuse .badArg)) h ho hb

/-- A discard gives the entries of the discarded list back to the pool (R3, R4). -/
theorem PoolOk.poolFree_discardStaged {s : State} (h : PoolOk s) (l : Fin 8) :
    s.poolFree.length + (s.layer l).stagedList.length ≤ (s.discardStaged l).poolFree.length := by
  obtain ⟨hnodup, hdisj⟩ := (State.poolUsed_nodup_iff s).mp h.1
  have hl := hnodup l
  rw [Layer.indices_eq, List.nodup_append'] at hl
  obtain ⟨_, hstaged, hlive⟩ := hl
  have hmem : ∀ i ∈ (s.layer l).stagedList.map (·.index), i ∈ (s.layer l).indices := fun i hi => by
    rw [Layer.indices_eq]; exact List.mem_append_right _ hi
  have hleft : ∀ m i, i ∈ ((s.discardStaged l).layer m).indices → i ∈ (s.layer m).indices
      ∧ i ∉ (s.layer l).stagedList.map (·.index) := by
    intro m i hi
    by_cases hm : m = l
    · subst hm
      rw [State.layer_discardStaged, Layer.indices_eq] at hi
      have hi : i ∈ (s.layer m).live.map (·.index) := by simpa [Layer.stagedList] using hi
      exact ⟨by rw [Layer.indices_eq]; exact List.mem_append_left _ hi, fun k => hlive hi k⟩
    · rw [State.layer_discardStaged_ne _ _ _ hm] at hi
      exact ⟨hi, fun k => hdisj m l hm hi (hmem i k)⟩
  have hsub : s.poolFree ++ (s.layer l).stagedList.map (·.index) ⊆ (s.discardStaged l).poolFree := by
    intro i hi
    rw [State.mem_poolFree]
    intro m hm
    obtain ⟨hold, hnew⟩ := hleft m i hm
    rcases List.mem_append.mp hi with hi | hi
    · exact (s.mem_poolFree i).mp hi m hold
    · exact hnew hi
  have hnd : (s.poolFree ++ (s.layer l).stagedList.map (·.index)).Nodup :=
    s.poolFree_nodup.append hstaged fun i hi hk => (s.mem_poolFree i).mp hi l (hmem i hk)
  have hle := (hnd.subperm hsub).length_le
  simpa using hle

theorem copyEntries_length {free : List (Fin 128)} {live : List Placement} (h : live.length ≤ free.length) :
    (copyEntries free live).length = live.length := by
  simpa [copyEntries] using h

/-- A COPY changes no field of an entry but its pool index (R11). -/
theorem copyEntries_fields {free : List (Fin 128)} {live : List Placement} (h : live.length ≤ free.length) :
    (copyEntries free live).map (fun e => { e with index := 0 }) = live.map fun e => { e with index := 0 } := by
  induction live generalizing free with
  | nil => simp [copyEntries]
  | cons e rest ih =>
    cases free with
    | nil => simp at h
    | cons i free => simpa [copyEntries] using ih (free := free) (by simpa using h)

/-- Lists that agree but for pool indices refer to the same slots. -/
theorem countP_slot_of_fields {as bs : List Placement}
    (h : as.map (fun e => { e with index := 0 }) = bs.map fun e => { e with index := 0 }) (j : Fin 64) :
    as.countP (fun e => e.slot = j) = bs.countP (fun e => e.slot = j) := by
  have hc (cs : List Placement) : (cs.map fun e => { e with index := 0 }).countP (fun e => e.slot = j)
      = cs.countP (fun e => e.slot = j) := by
    rw [List.countP_map]
    rfl
  rw [← hc as, h, hc bs]

theorem State.poolFree_of_layers_eq {s t : State} (h : t.layers = s.layers) : t.poolFree = s.poolFree := by
  simp only [State.poolFree, State.poolUsed_eq, State.layer_of_layers_eq h]

theorem State.layers_discardStaged (s : State) (l : Fin 8) :
    (s.discardStaged l).layers = (s.setLayer l { s.layer l with staged := none }).layers := by
  unfold State.discardStaged
  rw [State.dropRefs_eq]

/-- The entries that a COPY on layer `l` takes, once the old record is discarded (R11). -/
def State.copied (s : State) (l : Fin 8) : List Placement := copyEntries (s.discardStaged l).poolFree (s.layer l).live

theorem beginCopy_of_le {l : Fin 8} {s : State}
    (h : (s.layer l).live.length ≤ s.poolFree.length + (s.layer l).stagedList.length) : beginCopy l s =
      (((s.discardStaged l).setLayer l { s.layer l with staged := stage (s.layer l) (s.copied l) }).addRefs (s.copied l),
        { outcome := .ok, value := (s.copied l).length }) := by
  rw [beginCopy, if_neg (not_lt.mpr h)]
  dsimp only
  rw [State.layer_discardStaged]
  rfl

theorem State.copied_dropHead (s : State) (p : Port) (l : Fin 8) : (s.dropHead p).copied l = s.copied l := by
  unfold State.copied
  rw [State.poolFree_of_layers_eq (s := s.discardStaged l), State.dropHead_layer]
  rw [State.layers_discardStaged, State.layers_discardStaged]
  rfl

/-- Settles O12. -/
theorem layerBeginOpensARecord : Obligations.LayerBeginOpensARecord := by
  intro p tag l mode n s ht hn ho hb f x lost
  have hop := lyrBegin_of_owner (mode := mode) (s := s.dropHead p) hn ho hb
  refine ⟨?_, fun hr => ?_⟩
  · rintro ⟨r, hr, hc⟩
    exact exec_refused rfl ht (by rw [hop, if_pos (by simpa [x, hr] using hc)])
  rw [if_neg (by simpa [Option.any_eq_true] using hr)] at hop
  have hd := (s.dropHead p).layer_discardStaged n
  refine ⟨fun hm => ?_, ?_, ?_, ?_⟩
  · have h0 : mode ≠ 0 := by rintro rfl; simp at hm
    have h1 : mode ≠ 1 := by rintro rfl; simp at hm
    exact exec_refused rfl ht (by rw [hop, if_neg h0, if_neg h1])
  · rintro rfl
    refine ⟨_, exec_answered _ .ok 0 [] rfl ht (hop.trans (if_pos rfl)), ?_, ?_, fun m hm => ?_, fun j => ?_⟩
    · rw [State.discardStaged_eq]
      rfl
    · refine (State.layer_setLayer _ n _).trans ?_
      rw [hd]
      rfl
    · exact (State.layer_setLayer_ne _ n m _ hm).trans ((s.dropHead p).layer_discardStaged_ne n m hm)
    · exact (s.dropHead p).slot_discardStaged n j
  · rintro rfl hp
    refine exec_refused rfl ht (hop.trans ?_)
    rw [if_neg (by decide), if_pos rfl, beginCopy]
    exact if_pos hp
  · rintro rfl hpool hp
    have hfree : x.live.length ≤ (s.discardStaged n).poolFree.length := hp.trans (hpool.poolFree_discardStaged n)
    have hval : (s.copied n).length = x.live.length := copyEntries_length hfree
    have hfields : (s.copied n).map _ = _ := copyEntries_fields hfree
    have hcopy := beginCopy_of_le (s := s.dropHead p) (l := n) hp
    rw [State.copied_dropHead, hval] at hcopy
    refine ⟨_, s.copied n, exec_answered _ .ok x.live.length [] rfl ht
      ((hop.trans (by rw [if_neg (by decide), if_pos rfl])).trans hcopy), ?_, ?_, copyEntries_indices _ _, hfields,
      fun m hm => ?_, fun j => ?_⟩
    · rw [State.addRefs_eq, State.discardStaged_eq]
      rfl
    · rw [State.addRefs_eq]
      exact State.layer_setLayer _ n _
    · rw [State.addRefs_eq]
      exact (State.layer_setLayer_ne _ n m _ hm).trans ((s.dropHead p).layer_discardStaged_ne n m hm)
    · refine (State.slot_addRefs _ _ j).trans ?_
      rw [State.setLayer_get_slot, State.slot_discardStaged, countP_slot_of_fields hfields]
      rfl

end Sys2Proof.Machine
end

section
/-! PROOFS. LYR_ATTR, LYR_COMMIT, LYR_Z and BACKDROP (R12 to R16). -/

namespace Sys2Proof.Machine

/-! ### Clamping -/

theorem clampInt_eq_into (lo hi x : Int) (_ : lo ≤ hi) : clampInt lo hi x = into lo hi x := by
  unfold clampInt into
  split
  · omega
  · split <;> omega

theorem clampInt_eq_self_iff (lo hi x : Int) (_ : lo ≤ hi) : clampInt lo hi x = x ↔ lo ≤ x ∧ x ≤ hi := by
  unfold clampInt
  split
  · omega
  · split <;> omega

theorem clampNat_eq (lo hi n : Nat) (h : lo ≤ hi) : clampNat lo hi n = max lo (min hi n) := by
  unfold clampNat
  split
  · omega
  · split <;> omega

theorem clampNat_eq_self_iff (lo hi n : Nat) (h : lo ≤ hi) : clampNat lo hi n = n ↔ lo ≤ n ∧ n ≤ hi := by
  rw [clampNat_eq lo hi n h]
  omega

theorem clampOutcome_eq_okIf {b : Bool} {P : Prop} [Decidable P] (h : b = true ↔ P) : clampOutcome b = okIf P :=
  if_congr h rfl rfl

theorem rectUnclamped_iff (x0 y0 x1 y1 : Int) : rectUnclamped x0 y0 x1 y1 = true ↔
    (0 ≤ x0 ∧ x0 ≤ 959) ∧ (0 ≤ y0 ∧ y0 ≤ 539) ∧ (0 ≤ x1 ∧ x1 ≤ 959) ∧ (0 ≤ y1 ∧ y1 ≤ 539) := by
  simp only [rectUnclamped, Bool.and_eq_true, decide_eq_true_eq, eq_comm (b := clampInt _ _ _),
    clampInt_eq_self_iff 0 959 _ (by decide), clampInt_eq_self_iff 0 539 _ (by decide), and_assoc]

/-! ### LYR_ATTR -/

theorem boolOf_of_lt {b : Byte} (h : b.toNat < 2) : boolOf b = some (decide (b = 1)) := by
  have : b = 0 ∨ b = 1 := by bv_omega
  rcases this with rfl | rfl <;> rfl

theorem boolOf_of_le {b : Byte} (h : 2 ≤ b.toNat) : boolOf b = none := by
  have h0 : b ≠ 0 := by rintro rfl; simp at h
  have h1 : b ≠ 1 := by rintro rfl; simp at h
  rw [boolOf, if_neg h0, if_neg h1]

theorem sourceOf_of_le {b : Byte} (h : 2 ≤ b.toNat) : sourceOf b = none := by
  have h0 : b ≠ 0 := by rintro rfl; simp at h
  have h1 : b ≠ 1 := by rintro rfl; simp at h
  rw [sourceOf, if_neg h0, if_neg h1]

theorem editable_of_none {i : Fin 8} {k : PendingRecord → CommandOp} {s : State} (hb : (s.layer i).binding ≠ .releasing)
    (h : (s.layer i).staged = none) : editable i k s = (s, refuse .noEdit) := by
  simp [editable, hb, h]

theorem editable_of_committed {i : Fin 8} {k : PendingRecord → CommandOp} {s : State} {r : PendingRecord}
    (hb : (s.layer i).binding ≠ .releasing) (h : (s.layer i).staged = some r) (hc : r.committed = true) :
    editable i k s = (s, refuse .waitFrame) := by
  simp [editable, hb, h, hc]

theorem editable_of_open {i : Fin 8} {k : PendingRecord → CommandOp} {s : State} {r : PendingRecord}
    (hb : (s.layer i).binding ≠ .releasing) (h : (s.layer i).staged = some r) (hc : r.committed = false) :
    editable i k s = k r s := by
  simp [editable, hb, h, hc]

/-- Another layer that names VIN is what R13 asks for. -/
theorem vinElsewhere_eq_true (s : State) (l : Fin 8) :
    vinElsewhere s l = true ↔ ∃ m, m ≠ l ∧ (s.layer m).namesVin = true := by
  simp [vinElsewhere]

/-- The attributes that the operands of LYR_ATTR give, each brought into its range (R12). -/
def attrOperands (visible target fade : Byte) (ox oy : Half) (source : Byte) (x0 y0 x1 y1 : Half) : Attributes where
  visible := visible = 1
  target := min 16 target.toNat
  step := min 16 fade.toNat
  ox := into (-2048) 2047 ox.toInt
  oy := into (-2048) 2047 oy.toInt
  source := if source = 0 then .placements else .vin
  clip := ⟨(into 0 959 x0.toInt).toNat, (into 0 539 y0.toInt).toNat, (into 0 959 x1.toInt).toNat,
    (into 0 539 y1.toInt).toNat⟩

theorem clampNat_zero (n : Nat) : clampNat 0 16 n = min 16 n := by
  rw [clampNat_eq 0 16 n (by decide)]
  omega

/-- A source that R13 admits. -/
theorem sourceOf_admitted {source : Byte} {A : Prop} (h : source = 0 ∨ (source = 1 ∧ ¬ A)) :
    sourceOf source = some (if source = 0 then .placements else .vin)
      ∧ ¬ ((if source = 0 then Source.placements else .vin) = .vin ∧ A) := by
  rcases h with rfl | ⟨rfl, ha⟩
  · exact ⟨rfl, by simp⟩
  · exact ⟨rfl, fun h => ha h.2⟩

/-- LYR_ATTR on an open record, with operands that it admits (R12, R13). -/
theorem lyrAttr_of_open {p : Port} {l visible target fade : Byte} {ox oy : Half} {source : Byte} {x0 y0 x1 y1 : Half}
    {n : Fin 8} {s : State} {r : PendingRecord} (hn : l.toNat = n.val) (ho : (s.layer n).owner = some p)
    (hb : (s.layer n).binding ≠ .releasing) (hs : (s.layer n).staged = some r) (hc : r.committed = false)
    (hvis : visible.toNat < 2)
    (hsrc : source = 0 ∨ (source = 1 ∧ ¬ (r.list ≠ [] ∨ vinElsewhere s n = true))) :
    lyrAttr p l visible target fade ox oy source x0 y0 x1 y1 s =
      (s.setLayer n { s.layer n with
          staged := some { r with attrs := attrOperands visible target fade ox oy source x0 y0 x1 y1 } },
        { outcome := okIf (target.toNat ≤ 16 ∧ fade.toNat ≤ 16
            ∧ -2048 ≤ ox.toInt ∧ ox.toInt ≤ 2047 ∧ -2048 ≤ oy.toInt ∧ oy.toInt ≤ 2047
            ∧ 0 ≤ x0.toInt ∧ x0.toInt ≤ 959 ∧ 0 ≤ y0.toInt ∧ y0.toInt ≤ 539
            ∧ 0 ≤ x1.toInt ∧ x1.toInt ≤ 959 ∧ 0 ≤ y1.toInt ∧ y1.toInt ≤ 539) }) := by
  obtain ⟨hsource, hv⟩ := sourceOf_admitted hsrc
  rw [lyrAttr, ownedLayer_of_owner hn ho, editable_of_open hb hs hc, boolOf_of_lt hvis, hsource]
  dsimp only
  rw [if_neg hv]
  refine Prod.ext ?_ (congrArg (fun o => ({ outcome := o } : Answer)) (clampOutcome_eq_okIf ?_))
  · simp only [attrOperands, clampRect, clampCoord, clampPos, clampNat_zero, Nat.cast_ofNat,
      clampInt_eq_into _ _ _ (show (-2048 : Int) ≤ 2047 by decide), clampInt_eq_into _ _ _ (show (0 : Int) ≤ 959 by decide),
      clampInt_eq_into _ _ _ (show (0 : Int) ≤ 539 by decide)]
  · simp only [Bool.and_eq_true, decide_eq_true_eq, clampPos, rectUnclamped_iff,
      clampInt_eq_self_iff (-2048) 2047 _ (by decide)]
    tauto

/-- Settles O13. -/
theorem layerAttrReplacesTheAttributes : Obligations.LayerAttrReplacesTheAttributes := by
  intro p tag l visible target fade ox oy source x0 y0 x1 y1 n s ht hn ho hb f i
  have hown {k : Fin 8 → CommandOp} : ownedLayer p l k (s.dropHead p) = k n (s.dropHead p) := ownedLayer_of_owner hn ho
  refine ⟨fun hs => exec_refused rfl ht ?_, fun r hs => ⟨fun hc => exec_refused rfl ht ?_,
    fun hc hbad => exec_refused rfl ht ?_, fun hc hsrc hvin => exec_refused rfl ht ?_, fun hc hvis hsrc => ?_⟩⟩
  · rw [lyrAttr, hown, editable_of_none (s := s.dropHead p) hb hs]
  · rw [lyrAttr, hown, editable_of_committed (s := s.dropHead p) hb hs hc]
  · rw [lyrAttr, hown, editable_of_open (s := s.dropHead p) hb hs hc]
    rcases hbad with h | h
    · rw [boolOf_of_le h]
    · rw [sourceOf_of_le h]
      cases boolOf visible <;> rfl
  · rw [lyrAttr, hown, editable_of_open (s := s.dropHead p) hb hs hc, hsrc]
    have hv : r.list ≠ [] ∨ vinElsewhere (s.dropHead p) n = true := hvin.imp_right (vinElsewhere_eq_true s n).mpr
    cases boolOf visible with
    | none => rfl
    | some vis => exact if_pos ⟨rfl, hv⟩
  · refine exec_answered _ _ 0 [] rfl ht (lyrAttr_of_open (s := s.dropHead p) hn ho hb hs hc hvis ?_)
    refine hsrc.imp_right fun ⟨h1, hl, hv⟩ => ⟨h1, ?_⟩
    have hv : vinElsewhere (s.dropHead p) n = false := (vinElsewhere_eq_false s n).mpr hv
    simp [hl, hv]

/-! ### LYR_COMMIT -/

theorem mem_maskLayers (mask : Byte) (l : Fin 8) : l ∈ maskLayers mask ↔ mask.getLsbD l.val = true := by
  simp [maskLayers]

/-- The lowest layer of a mask with a property is the one that `find?` finds. -/
theorem find?_maskLayers {mask : Byte} {q : Fin 8 → Bool} {l : Fin 8} (hm : mask.getLsbD l.val = true) (hq : q l = true)
    (hlt : ∀ m : Fin 8, m < l → mask.getLsbD m.val = true → q m = false) : (maskLayers mask).find? q = some l := by
  rw [maskLayers, List.find?_filter, List.find?_eq_some_iff_getElem]
  refine ⟨by simp [hm, hq], l.val, by simp, by simp, fun j hj => ?_⟩
  have hlow := hlt ⟨j, hj.trans l.isLt⟩ hj
  cases hb : mask.getLsbD j with
  | false => simp [hb]
  | true => simpa [hb] using hlow hb

theorem maskLayers_ne_nil {mask : Byte} (h : mask ≠ 0) : maskLayers mask ≠ [] := by
  intro hnil
  refine h (BitVec.eq_of_getLsbD_eq fun i hi => ?_)
  have hno : (⟨i, hi⟩ : Fin 8) ∉ maskLayers mask := by simp [hnil]
  simpa [mem_maskLayers] using hno

theorem commitFault_isSome_iff (x : Layer) : (commitFault x).isSome = true ↔
    x.binding = .releasing ∨ ∀ r, x.staged = some r → r.committed = true := by
  unfold commitFault
  split
  · simp [*]
  · cases hs : x.staged with
    | none => simp
    | some r => cases hc : r.committed <;> simp [*]

/-- The outcome that a failing layer gives (R14). -/
theorem commitFault_getD (x : Layer) :
    (commitFault x).getD .noEdit = if x.binding = .releasing then .waitFrame else .noEdit := by
  unfold commitFault
  split
  · rfl
  · cases x.staged with
    | none => rfl
    | some r => cases hc : r.committed <;> simp [hc]

/-- A layer with its pending record committed (R14, R22). -/
def Layer.committed (x : Layer) : Layer :=
  { x with staged := x.staged.map fun r => { r with committed := true, clearsExpiry := true } }

theorem Layer.committed_committed (x : Layer) : x.committed.committed = x.committed := by
  cases hs : x.staged <;> simp [Layer.committed, hs]

theorem State.layer_commitLayer (s : State) (l m : Fin 8) :
    (s.commitLayer l).layer m = if m = l then (s.layer m).committed else s.layer m := by
  by_cases h : m = l
  · subst h
    rw [if_pos rfl]
    exact State.layer_setLayer _ _ _
  · rw [if_neg h]
    exact State.layer_setLayer_ne _ _ _ _ h

theorem State.layer_commitLayers (s : State) (ls : List (Fin 8)) (m : Fin 8) :
    (ls.foldl State.commitLayer s).layer m = if m ∈ ls then (s.layer m).committed else s.layer m := by
  induction ls generalizing s with
  | nil => simp
  | cons l rest ih =>
    rw [List.foldl_cons, ih, State.layer_commitLayer]
    by_cases hl : m = l <;> by_cases hr : m ∈ rest <;> simp [hl, hr, Layer.committed_committed]

theorem State.commitLayers_eq (s : State) (ls : List (Fin 8)) :
    ls.foldl State.commitLayer s = { s with layers := (ls.foldl State.commitLayer s).layers } := by
  induction ls generalizing s with
  | nil => rfl
  | cons l rest ih =>
    rw [List.foldl_cons, ih]
    rfl

/-- Settles O14. -/
theorem layerCommitTakesTheWholeMask : Obligations.LayerCommitTakesTheWholeMask := by
  intro p tag mask s ht f fails
  have hunowned : ∀ l : Fin 8, decide (((s.dropHead p).layer l).owner ≠ some p) = true ↔ (s.layer l).owner ≠ some p :=
    fun l => decide_eq_true_iff
  have hne : ∀ l : Fin 8, mask.getLsbD l.val = true → maskLayers mask ≠ [] := fun l hl =>
    List.ne_nil_of_mem ((mem_maskLayers mask l).mpr hl)
  have howned (h : ∀ m : Fin 8, mask.getLsbD m.val = true → (s.layer m).owner = some p) :
      (maskLayers mask).find? (fun l => decide (((s.dropHead p).layer l).owner ≠ some p)) = none :=
    List.find?_eq_none.mpr fun m hm => by simp [h m ((mem_maskLayers mask m).mp hm)]
  refine ⟨?_, fun l hl ho hlow => ?_, fun l ho hl hf hlow => ?_, fun hmask h => ?_⟩
  · rintro rfl
    exact exec_refused rfl ht (by simp [lyrCommit, maskLayers])
  · refine exec_answered (s.dropHead p) .notOwner l.val [] rfl ht ?_
    have hfind := find?_maskLayers (q := fun l => decide (((s.dropHead p).layer l).owner ≠ some p)) hl
      ((hunowned l).mpr ho) fun m hm hb => by simp [hlow m hm hb]
    rw [lyrCommit, if_neg (hne l hl), hfind]
  · have hfail : (commitFault (s.layer l)).isSome = true := (commitFault_isSome_iff _).mpr hf
    refine exec_answered (s.dropHead p) (if (s.layer l).binding = .releasing then .waitFrame else .noEdit) l.val [] rfl ht ?_
    have hfind := find?_maskLayers (q := fun l => (commitFault ((s.dropHead p).layer l)).isSome) hl hfail fun m hm hb =>
      Bool.eq_false_iff.mpr fun hs => hlow m hm hb ((commitFault_isSome_iff _).mp hs)
    rw [lyrCommit, if_neg (hne l hl), howned ho]
    dsimp only
    rw [hfind]
    dsimp only
    rw [State.dropHead_layer, commitFault_getD]
  · have hnone : (maskLayers mask).find? (fun l => (commitFault ((s.dropHead p).layer l)).isSome) = none :=
      List.find?_eq_none.mpr fun m hm hs =>
        (h m ((mem_maskLayers mask m).mp hm)).2 ((commitFault_isSome_iff _).mp hs)
    have hop : lyrCommit p mask (s.dropHead p) = ((maskLayers mask).foldl State.commitLayer (s.dropHead p),
        { outcome := .ok, value := (maskLayers mask).length }) := by
      rw [lyrCommit, if_neg (maskLayers_ne_nil hmask), howned fun m hm => (h m hm).1]
      dsimp only
      rw [hnone]
    refine ⟨_, exec_answered _ .ok _ [] rfl ht hop, ?_, fun l => ?_⟩
    · rw [State.commitLayers_eq, maskLayers, ← List.countP_eq_length_filter]
      rfl
    · refine (State.layer_commitLayers _ _ l).trans (if_congr (mem_maskLayers mask l) rfl rfl)

/-! ### LYR_Z and BACKDROP -/

/-- An element put into a list without it, and taken out again. -/
theorem erase_insertIdx {α : Type} [DecidableEq α] (as : List α) (a : α) (h : a ∉ as) (i : Nat) (hi : i ≤ as.length) :
    (as.insertIdx i a).erase a = as := by
  induction as generalizing i with
  | nil => simp_all
  | cons b rest ih =>
    cases i with
    | zero => simp
    | succ i =>
      obtain ⟨hb, hr⟩ : a ≠ b ∧ a ∉ rest := by simpa using h
      rw [List.insertIdx_succ_cons, List.erase_cons_tail (by simpa using Ne.symm hb), ih hr i (by simpa using hi)]

/-- A layer moved to an index stands there, and the others keep their order (R15). -/
theorem moveLayer_spec {z : List (Fin 8)} (h : z.Perm (List.finRange 8)) (n : Fin 8) {i : Nat} (hi : i < 8) :
    (moveLayer z n i)[i]? = some n ∧ (moveLayer z n i).erase n = z.erase n := by
  have hn : n ∈ z := h.mem_iff.mpr (List.mem_finRange n)
  have hnd : z.Nodup := h.nodup_iff.mpr (List.nodup_finRange 8)
  have hlen : (z.erase n).length = 7 := by
    rw [List.length_erase_of_mem hn, h.length_eq, List.length_finRange]
  unfold moveLayer
  refine ⟨?_, ?_⟩
  · rw [List.getElem?_insertIdx_self]
    simp
    omega
  · exact erase_insertIdx _ n hnd.not_mem_erase i (by omega)

theorem clampColour_eq (y cb cr : Nat) :
    clampColour y cb cr = ⟨max 16 (min 235 y), max 16 (min 240 cb), max 16 (min 240 cr)⟩ := by
  simp [clampColour, clampNat_eq]

theorem clampColour_eq_self_iff (y cb cr : Nat) : clampColour y cb cr = ⟨y, cb, cr⟩ ↔
    16 ≤ y ∧ y ≤ 235 ∧ 16 ≤ cb ∧ cb ≤ 240 ∧ 16 ≤ cr ∧ cr ≤ 240 := by
  simp [clampColour, clampNat_eq_self_iff, and_assoc]

/-- Settles O15. -/
theorem zOrderAndBackdropArePending : Obligations.ZOrderAndBackdropArePending := by
  refine ⟨?_, ?_⟩
  · intro p tag l index n s ht hn ho hb f
    have hop : lyrZ p l index (s.dropHead p) = _ := boundLayer_of_owner (k := fun i s =>
      if index.toNat < 8 then
        ({ s with zPending := moveLayer s.zPending i index.toNat }, { outcome := .ok, value := index.toNat })
      else (s, refuse .badArg)) hn ho hb
    refine ⟨fun hi => exec_refused rfl ht (hop.trans (if_neg (not_lt.mpr hi))), fun hi hz => ?_⟩
    exact ⟨moveLayer s.zPending n index.toNat, exec_answered _ .ok index.toNat [] rfl ht (hop.trans (if_pos hi)),
      moveLayer_spec hz.2 n hi⟩
  · intro p tag y cb cr s ht
    refine exec_answered { s.dropHead p with
      backdropPending := ⟨max 16 (min 235 y.toNat), max 16 (min 240 cb.toNat), max 16 (min 240 cr.toNat)⟩ } _ 0 [] rfl ht ?_
    rw [← clampColour_eq]
    refine Prod.ext rfl (congrArg (fun o => ({ outcome := o } : Answer)) (clampOutcome_eq_okIf ?_))
    rw [decide_eq_true_iff]
    exact clampColour_eq_self_iff _ _ _

end Sys2Proof.Machine
end

section
/-! PROOFS. The RESET pin (R8, R66, R86, R103, R119, R141, R144, R165, R183, R184) and the state right after reset. -/

namespace Sys2Proof.Machine

/-! ### The RESET pin -/

/-- A port at the assertion of RESET keeps its link's select line alone (R184). -/
theorem State.port_pinReset (s : State) (p : Port) :
    s.pinReset.port p = { PortState.reset with link := abandonedLink (s.port p).link } := by
  simp [State.pinReset, State.port]

/-- Settles O46. -/
theorem resetPinReturnsEverything : Obligations.ResetPinReturnsEverything := by
  refine fun s => ⟨⟨s.pinReset, rfl, rfl, s.slot_pinReset, fun p => ⟨_, s.port_pinReset p, fun h => ?_, fun h => ?_⟩, rfl⟩, rfl⟩
  · rw [h]
    rfl
  · cases hl : (s.port p).link with
    | idle => exact absurd hl h
    | selected | ignored => rfl

/-! ### The state right after reset -/

theorem State.layer_reset (l : Fin 8) : State.reset.layer l = Layer.reset := by simp [State.reset, State.layer]

theorem State.monitor_reset (l : Fin 8) : State.reset.monitor l = Monitor.reset := by simp [State.reset, State.monitor]

theorem State.slot_reset (i : Fin 64) : State.reset.slot i = Slot.freed [] := by simp [State.reset, State.slot]

theorem State.timer_reset (i : Fin 4) : State.reset.timer i = FrameTimer.reset := by simp [State.reset, State.timer]

theorem State.port_reset (p : Port) : State.reset.port p = PortState.reset := by simp [State.reset, State.port]

theorem State.sliceHolder_reset (i : Fin 32) : State.reset.sliceHolder i = none := by
  simp [State.reset, State.sliceHolder]

theorem State.palLive_reset (n : Fin 256) : State.reset.palLive[n.val] = PaletteEntry.reset := by simp [State.reset]

theorem State.palPending_reset (n : Fin 256) : State.reset.palPending[n.val] = PaletteEntry.reset := by
  simp [State.reset]

theorem State.viewFallback_reset (l : Fin 8) : State.reset.viewFallback l = none := rfl

theorem State.placements_reset : State.reset.placements = [] := by
  simp [State.placements, State.layer_reset, Layer.reset, Layer.entries, Layer.stagedList]

theorem poolOk_reset : PoolOk State.reset := by
  refine ⟨by simp [State.poolUsed, State.placements_reset], fun l => ?_⟩
  rw [State.layer_reset]
  decide

theorem layersOk_reset : LayersOk State.reset := fun l => by
  rw [State.layer_reset]
  rfl

theorem sourceOk_reset : SourceOk State.reset := by
  have hno (l : Fin 8) : (State.reset.layer l).namesVin = false := by rw [State.layer_reset]; rfl
  exact ⟨fun l m hl => by simp [hno l] at hl, fun l => by rw [State.layer_reset]; exact ⟨nofun, nofun⟩⟩

theorem refsOk_reset : RefsOk State.reset := by
  refine ⟨fun i => ?_, nofun⟩
  have hm (l : Fin 8) : monitorHolds State.reset i l = false := by
    simp [monitorHolds, State.monitor_reset, State.viewFallback_reset, Monitor.reset]
  rw [State.slot_reset, referencesTo, State.placements_reset, funext hm, List.countP_false]
  rfl

theorem captureOk_reset : CaptureOk State.reset := by
  refine ⟨by decide, fun p => ?_, rfl, rfl, List.nodup_nil, fun i => ?_, nofun, fun h => absurd rfl h, nofun, fun _ => rfl⟩
  · rw [State.outstanding, State.port_reset]
    exact Nat.zero_le 5
  · rw [State.slot_reset]
    simp [Slot.freed, CaptureUnit.requests, State.reset, CaptureUnit.reset]

theorem slotsOk_reset : SlotsOk State.reset := fun i => by
  rw [State.slot_reset]
  exact ⟨.inl ⟨rfl, rfl⟩, le_rfl, le_rfl, nofun, nofun, rfl⟩

theorem trailerOk_reset : TrailerOk State.reset := by
  unfold TrailerOk
  refine ⟨by decide, by decide, by decide, by decide, by decide, by decide, by decide, ⟨rfl, rfl, rfl, rfl⟩,
    fun _ => ⟨rfl, rfl⟩, nofun, nofun, nofun⟩

theorem timersOk_reset : TimersOk State.reset := fun i => by
  rw [State.timer_reset]
  exact ⟨fun _ => rfl, .inl rfl, by decide, by decide, by decide, by decide, by decide,
    fun _ => ⟨by decide, le_rfl, fun _ => ⟨rfl, rfl⟩⟩, nofun, fun _ => rfl, nofun⟩

theorem monitorsOk_reset : MonitorsOk State.reset := fun l => by
  rw [State.monitor_reset]
  exact ⟨by decide, by decide, by decide, by decide, by decide, nofun, nofun, fun h => absurd rfl h, nofun⟩

theorem cursorOk_reset : CursorOk Cursor.reset := by
  unfold CursorOk
  decide

theorem repeatOk_reset : RepeatOk RepeatRecord.reset :=
  ⟨by decide, nofun, by decide, by decide, by decide, by decide, rfl, rfl⟩

theorem portsOk_reset : PortsOk State.reset := fun p => by
  rw [State.port_reset]
  exact ⟨by decide, trivial, by decide, by decide, trivial, nofun, cursorOk_reset, cursorOk_reset, repeatOk_reset⟩

theorem recordsOk_reset : RecordsOk State.reset := fun p => by
  rw [State.port_reset]
  exact ⟨nofun, nofun⟩

theorem coloursOk_reset : ColoursOk State.reset := by
  refine ⟨rfl, rfl, fun n => ?_, fun l => ?_, fun i => ?_, nofun, nofun, nofun⟩
  · rw [State.palLive_reset, State.palPending_reset]
    exact ⟨PaletteEntry.reset_inRange, PaletteEntry.reset_inRange⟩
  · rw [State.layer_reset]
    exact Layer.inRange_reset .none
  · rw [State.slot_reset]
    nofun

/-- Settles O60. -/
theorem resetMeetsTheInvariants : Obligations.ResetMeetsTheInvariants :=
  ⟨⟨fun l => ⟨State.layer_reset l, State.monitor_reset l⟩, rfl, rfl, rfl, rfl, State.slot_reset,
      fun n => ⟨State.palLive_reset n, State.palPending_reset n⟩, State.sliceHolder_reset, rfl, rfl, State.timer_reset,
      State.port_reset, rfl, rfl, rfl, rfl⟩,
    ⟨.refl _, .refl _⟩, poolOk_reset, layersOk_reset, sourceOk_reset, ⟨refsOk_reset, captureOk_reset, slotsOk_reset⟩,
    trailerOk_reset, timersOk_reset, monitorsOk_reset, portsOk_reset, recordsOk_reset, coloursOk_reset⟩

end Sys2Proof.Machine
end

section
/-! PROOFS. What a block's work at an output frame start leaves to the other blocks, and what it makes of what is its own
(R17 to R25, R55, R73, R116, R158). -/

namespace Sys2Proof.Machine

/-! ### FRAME at a port -/

/-- FRAME stands in its sticky bit (R180). -/
theorem PortState.hasFlag_frame (x : PortState) : x.hasFlag .frame = (x.sticky &&& 0x002 != 0) := by
  have hring : (if x.ring = [] then 0 else flagBit .result) &&& flagBit .frame = 0#9 := by split <;> decide
  have hmask : (0x1FE : BitVec 9) &&& flagBit .frame = 0x002 := by decide
  rw [PortState.hasFlag, eventWord, BitVec.and_or_distrib_right, hring, BitVec.and_assoc, hmask, BitVec.or_zero]

/-- Raising another flag leaves FRAME. -/
theorem State.hasFlag_frame_raise (s : State) (p q : Port) (f : EventFlag) (hf : f ≠ .frame) :
    ((s.raise p f).port q).hasFlag .frame = (s.port q).hasFlag .frame := by
  by_cases hq : q = p
  · subst hq
    have hbit : flagBit f &&& 0x002 = 0#9 := by
      cases f with
      | frame => exact absurd rfl hf
      | _ => decide
    rw [State.port_raise, PortState.hasFlag_frame, PortState.hasFlag_frame, BitVec.and_or_distrib_right, hbit,
      BitVec.or_zero]
  · rw [State.port_raise_ne _ _ _ _ hq]

/-- FRAME stands at a port once it is raised there. -/
theorem State.hasFlag_frame_raiseAt (s : State) (o : Option Port) (q : Port) :
    ((s.raiseAt o .frame).port q).hasFlag .frame = true ↔ (s.port q).hasFlag .frame = true ∨ o = some q := by
  cases o with
  | none => simp [State.raiseAt]
  | some p =>
    by_cases hq : q = p
    · subst hq
      have hset (x : BitVec 9) : (x ||| 2#9) &&& 2#9 = 2#9 := by
        ext i
        simp only [BitVec.getElem_and, BitVec.getElem_or]
        cases x[i] <;> simp
      simp [State.raiseAt, State.port_raise, PortState.hasFlag_frame, flagBit, hset]
    · simp [State.raiseAt, State.port_raise_ne _ _ _ _ hq, Ne.symm hq]

/-! ### What a work leaves -/

/-- A takeover would write slot `i`: a held result is the active request's, and that names the slot (R68). -/
def State.captures (s : State) (i : Fin 64) : Prop := s.cap.phase = .held ∧ ∃ a ∈ s.cap.active, a.slot = i

/-- State and owner of a slot that is neither FREE nor an orphan. -/
def Slot.standing (x : Slot) : Option (SlotState × Option Port) :=
  if x.state = .free ∨ x.state = .orphan then none else some (x.state, x.owner)

theorem Slot.standing_eq_some (x : Slot) (st : SlotState) (o : Option Port) :
    x.standing = some (st, o) ↔ (st ≠ .free ∧ st ≠ .orphan) ∧ x.state = st ∧ x.owner = o := by
  unfold Slot.standing
  split
  · simp only [reduceCtorEq, false_iff]
    rintro ⟨⟨hf, ho⟩, rfl, _⟩
    simp_all
  · simp only [Option.some.injEq, Prod.mk.injEq]
    refine ⟨fun ⟨hs, ho⟩ => ⟨?_, hs, ho⟩, fun h => h.2⟩
    subst hs
    simp_all

/-- A slot that loses a reference is still what it was, or was an orphan and is FREE (R63). -/
theorem standing_slotLessRef (x : Slot) : (slotLessRef x).standing = x.standing := by
  unfold slotLessRef
  split
  · rename_i h
    simp [Slot.standing, h.1, Slot.freed]
  · rfl

theorem slotLessRef_opening (x : Slot) (h : (slotLessRef x).state = .opening) : x.state = .opening := by
  unfold slotLessRef at h
  split at h
  · cases h
  · exact h

/-- What the work of block `k` leaves to the others. -/
structure Leaves (k : FrameWork) (s t : State) : Prop where
  zPending : t.zPending = s.zPending
  backdropPending : t.backdropPending = s.backdropPending
  palPending : t.palPending = s.palPending
  sliceOwner : t.sliceOwner = s.sliceOwner
  zLive : k ≠ .scene → t.zLive = s.zLive
  backdropLive : k ≠ .scene → t.backdropLive = s.backdropLive
  palLive : k ≠ .palette → t.palLive = s.palLive
  ready : k ≠ .promotion → t.vin.ready = s.vin.ready
  shown : k ≠ .promotion → t.vin.shown = s.vin.shown
  flags : k ≠ .scene → k ≠ .slots → ∀ q, (t.port q).hasFlag .frame = (s.port q).hasFlag .frame
  layers : k ≠ .scene → ∀ l, k ≠ .monitor l → t.layer l = s.layer l
  monitors : k ≠ .promotion → ∀ l, k ≠ .monitor l → t.monitor l = s.monitor l
  captures : ∀ i, t.captures i → s.captures i
  slots : k ≠ .slots → ∀ i, ¬ s.captures i → (t.slot i).standing = (s.slot i).standing
  opening : ∀ i, (t.slot i).state = .opening → (s.slot i).state = .opening

theorem Leaves.refl (k : FrameWork) (s : State) : Leaves k s s :=
  ⟨rfl, rfl, rfl, rfl, fun _ => rfl, fun _ => rfl, fun _ => rfl, fun _ => rfl, fun _ => rfl, fun _ _ _ => rfl,
    fun _ _ _ => rfl, fun _ _ _ => rfl, fun _ => id, fun _ _ _ => rfl, fun _ => id⟩

theorem Leaves.trans {k : FrameWork} {s t u : State} (h : Leaves k s t) (g : Leaves k t u) : Leaves k s u where
  zPending := g.zPending.trans h.zPending
  backdropPending := g.backdropPending.trans h.backdropPending
  palPending := g.palPending.trans h.palPending
  sliceOwner := g.sliceOwner.trans h.sliceOwner
  zLive hk := (g.zLive hk).trans (h.zLive hk)
  backdropLive hk := (g.backdropLive hk).trans (h.backdropLive hk)
  palLive hk := (g.palLive hk).trans (h.palLive hk)
  ready hk := (g.ready hk).trans (h.ready hk)
  shown hk := (g.shown hk).trans (h.shown hk)
  flags hk hs q := (g.flags hk hs q).trans (h.flags hk hs q)
  layers hk l hl := (g.layers hk l hl).trans (h.layers hk l hl)
  monitors hk l hl := (g.monitors hk l hl).trans (h.monitors hk l hl)
  captures i hi := h.captures i (g.captures i hi)
  slots hk i hi := (g.slots hk i fun hc => hi (h.captures i hc)).trans (h.slots hk i hi)
  opening i hi := h.opening i (g.opening i hi)

/-- A write of one slot that keeps its standing, unless a takeover may write it or the slots' own work does. -/
theorem Leaves.setSlot {k : FrameWork} (s : State) (i : Fin 64) (x : Slot)
    (h : k ≠ .slots → ¬ s.captures i → x.standing = (s.slot i).standing)
    (ho : x.state = .opening → (s.slot i).state = .opening) : Leaves k s (s.setSlot i x) := by
  refine { Leaves.refl k s with slots := fun hk j hj => ?_, opening := fun j hj => ?_ }
  all_goals by_cases e : j = i
  · subst e; rw [State.slot_setSlot]; exact h hk hj
  · rw [State.slot_setSlot_ne _ _ _ _ e]
  · subst e; rw [State.slot_setSlot] at hj; exact ho hj
  · rwa [State.slot_setSlot_ne _ _ _ _ e] at hj

theorem Leaves.setMonitor {k : FrameWork} (s : State) (l : Fin 8) (x : Monitor) (h : k = .promotion ∨ k = .monitor l) :
    Leaves k s (s.setMonitor l x) := by
  refine { Leaves.refl k s with monitors := fun hk m hm => State.monitor_setMonitor_ne _ _ _ _ ?_ }
  rintro rfl
  exact h.elim hk hm

theorem Write.leaves {k : FrameWork} {s t : State} (h : Write (.work k) s t) : Leaves k s t := by
  cases h with
  | raise q f hf =>
    refine { Leaves.refl k s with flags := fun hk hs r => State.hasFlag_frame_raise _ _ _ _ fun e => ?_ }
    exact (hf e).elim (fun e => hk (Writer.work.inj e)) fun e => hs (Writer.work.inj e)
  | reports q rs =>
    refine { Leaves.refl k s with flags := fun _ _ r => ?_ }
    by_cases hr : r = q
    · subst hr
      rw [PortState.hasFlag_frame, PortState.hasFlag_frame, State.port_setPort]
    · rw [State.port_setPort_ne _ _ _ _ hr]
  | addRef i => exact Leaves.setSlot s i _ (fun _ _ => rfl) id
  | dropRef i => exact Leaves.setSlot s i _ (fun _ _ => standing_slotLessRef _) (slotLessRef_opening _)
  | flag i b => exact Leaves.setSlot s i _ (fun _ _ => rfl) id
  | openSlot hw i hi => exact Leaves.setSlot s i _ (fun hk => absurd (Writer.work.inj hw) hk) nofun
  | takeOver _ r width height cs hp ha =>
    exact Leaves.setSlot s r.slot _ (fun _ hn => absurd ⟨hp, r, ha, rfl⟩ hn) nofun
  | cap c hc =>
    refine { Leaves.refl k s with captures := fun i hi => ?_ }
    obtain ⟨hp, a, ha, hs⟩ := hi
    rcases hc hp with hm | ⟨hph, hac⟩
    · cases hm
    · exact ⟨hph, a, by rw [← hac]; exact ha, hs⟩
  | vin x _ hs hr => exact { Leaves.refl k s with ready := fun _ => hr, shown := fun _ => hs }
  | promote hw =>
    have hk := Writer.work.inj hw
    exact { Leaves.refl k s with ready := fun h => absurd hk h, shown := fun h => absurd hk h }
  | monitor l x hw => exact Leaves.setMonitor s l x (.inr hw)
  | refresh hw l => exact Leaves.setMonitor s l _ (.inl (Writer.work.inj hw))
  | layer l x hx =>
    refine { Leaves.refl k s with layers := fun hk m hm => State.layer_setLayer_ne _ _ _ _ fun e => ?_ }
    subst e
    cases hx with
    | expire _ hw => exact hm hw
    | apply | drop | finish | opacity => exact hk rfl
  | copyScene hw =>
    have hk := Writer.work.inj hw
    exact { Leaves.refl k s with zLive := fun h => absurd hk h, backdropLive := fun h => absurd hk h }
  | palette hw => exact { Leaves.refl k s with palLive := fun h => absurd (Writer.work.inj hw) h }
  | port _ hw | slot _ hw | store hw | slice _ hw | entry _ hw | lock _ hw | zPending _ hw | backdropPending _ hw =>
    cases hw
  | timer | frameTaken | pinReleased => exact { Leaves.refl k s with }

theorem Writes.leaves {k : FrameWork} {s t : State} (h : Writes (.work k) s t) : Leaves k s t :=
  h.keep (Inv := Leaves k s) (fun _ _ hw hs => hs.trans hw.leaves) (Leaves.refl k s)

theorem frameWork_leaves (s : State) (k : FrameWork) : Leaves k s (frameWork k s) := (frameWork_writes s k).leaves

/-! ### Works over every layer or slot -/

section
variable {ι α : Type} (get : State → ι → α) (f : State → ι → State)

/-- A fold whose step rewrites one record by `g` rewrites every record of its list by `g`. -/
theorem foldl_get [DecidableEq ι] (g : α → α) (hsame : ∀ s i, get (f s i) i = g (get s i))
    (hother : ∀ s i j, j ≠ i → get (f s i) j = get s j) (is : List ι) (hn : is.Nodup) (s : State) (j : ι) :
    get (is.foldl f s) j = if j ∈ is then g (get s j) else get s j := by
  induction is generalizing s with
  | nil => simp
  | cons i rest ih =>
    obtain ⟨hi, hrest⟩ := List.nodup_cons.mp hn
    rw [List.foldl_cons, ih hrest]
    by_cases hj : j = i
    · subst hj; simp [hi, hsame]
    · simp [hj, hother _ _ _ hj]

/-- A fold whose step raises FRAME at the ports that its record names raises it at those that any record names. -/
theorem foldl_frame [DecidableEq ι] (P : α → Port → Prop)
    (hflag : ∀ s i q, ((f s i).port q).hasFlag .frame = true ↔ (s.port q).hasFlag .frame = true ∨ P (get s i) q)
    (hother : ∀ s i j, j ≠ i → get (f s i) j = get s j) (is : List ι) (hn : is.Nodup) (s : State) (q : Port) :
    ((is.foldl f s).port q).hasFlag .frame = true
      ↔ (s.port q).hasFlag .frame = true ∨ ∃ i ∈ is, P (get s i) q := by
  induction is generalizing s with
  | nil => simp
  | cons i rest ih =>
    obtain ⟨hi, hrest⟩ := List.nodup_cons.mp hn
    have hsame : (∃ j ∈ rest, P (get (f s i) j) q) ↔ ∃ j ∈ rest, P (get s j) q := by
      refine exists_congr fun j => and_congr_right fun hj => ?_
      rw [hother s i j fun e => hi (e ▸ hj)]
    rw [List.foldl_cons, ih hrest, hflag, hsame]
    simp [or_assoc]

/-- What a step leaves a fold leaves. -/
theorem foldl_keeps {β : Type} (view : State → β) (h : ∀ s i, view (f s i) = view s) (is : List ι) (s : State) :
    view (is.foldl f s) = view s := by
  induction is generalizing s with
  | nil => rfl
  | cons i rest ih => rw [List.foldl_cons, ih, h]

end

end Sys2Proof.Machine
end

section
/-! PROOFS. What each block's work at an output frame start makes of what is its own: layers, slots, the shown frame and
the monitors (R17 to R22, R55, R116, R118, R158, R159). -/

namespace Sys2Proof.Machine

/-! ### Layers at a frame start -/

/-- A layer after its commit, if it has one, is applied (R17). -/
def Layer.applied (x : Layer) : Layer :=
  match x.staged with
  | none => x
  | some r =>
    if r.committed then
      { x with
        attrs := r.attrs, live := r.list, staged := none, expired := if r.clearsExpiry then .none else x.expired }
    else x

/-- A layer after its release, if it is RELEASING, is finished (R19). -/
def Layer.finished (x : Layer) : Layer :=
  if x.binding = .releasing then { Layer.reset with expired := x.expired } else x

/-- A layer after its opacity step (R21). -/
def Layer.stepped (x : Layer) : Layer := { x with current := opacityStep x.attrs.target x.attrs.step x.current }

/-- What the Scene Table's work makes of a layer (R17 to R21). -/
def Layer.started (x : Layer) : Layer := x.applied.finished.stepped

/-- What an expiry makes of a layer (R159, R22). -/
def Layer.expire (x : Layer) (a : MonitorAction) : Layer :=
  { x with expired := expiredBy a x.expired, staged := stagedAfterExpiry a x.staged }

/-- A committed record waits in the layer. -/
def Layer.commits (x : Layer) : Prop := ∃ r, x.staged = some r ∧ r.committed = true

theorem Layer.applied_of_committed {x : Layer} {r : PendingRecord} (hs : x.staged = some r) (hc : r.committed = true) :
    x.applied = { x with
      attrs := r.attrs, live := r.list, staged := none, expired := if r.clearsExpiry then .none else x.expired } := by
  simp [Layer.applied, hs, hc]

theorem Layer.applied_of_not_commits {x : Layer} (h : ¬ x.commits) : x.applied = x := by
  unfold Layer.applied
  split
  · rfl
  · rename_i r hr
    exact if_neg fun hc => h ⟨r, hr, hc⟩

theorem Layer.applied_binding (x : Layer) : x.applied.binding = x.binding := by
  unfold Layer.applied
  split
  · rfl
  · split <;> rfl

theorem Layer.not_commits_applied (x : Layer) : ¬ x.applied.commits := by
  by_cases h : x.commits
  · obtain ⟨r, hr, hc⟩ := h
    rw [Layer.applied_of_committed hr hc]
    rintro ⟨_, ⟨⟩, _⟩
  · rwa [Layer.applied_of_not_commits h]

/-- A RELEASING layer has the values of R1 after the frame start, but for its expired condition (R19). -/
theorem Layer.started_of_releasing {x : Layer} (h : x.binding = .releasing) :
    x.started = { Layer.reset with expired := x.applied.expired } := by
  rw [Layer.started, Layer.finished, if_pos (x.applied_binding.trans h)]
  rfl

theorem Layer.started_of_not_releasing {x : Layer} (h : x.binding ≠ .releasing) : x.started = x.applied.stepped := by
  rw [Layer.started, Layer.finished, if_neg (x.applied_binding ▸ h)]

theorem Layer.started_expired (x : Layer) : x.started.expired = x.applied.expired := by
  by_cases h : x.binding = .releasing
  · rw [Layer.started_of_releasing h]
  · rw [Layer.started_of_not_releasing h]; rfl

theorem Layer.not_commits_started (x : Layer) : ¬ x.started.commits := by
  by_cases h : x.binding = .releasing
  · rw [Layer.started_of_releasing h]
    rintro ⟨_, ⟨⟩, _⟩
  · rw [Layer.started_of_not_releasing h]
    exact x.not_commits_applied

/-- After a frame start a layer's source is VIN only where one of its records named VIN (R13). -/
theorem Layer.namesVin_of_started {x : Layer} (h : x.started.attrs.source = .vin) : x.namesVin = true := by
  rw [Layer.namesVin_iff]
  by_cases hb : x.binding = .releasing
  · rw [Layer.started_of_releasing hb] at h
    cases h
  rw [Layer.started_of_not_releasing hb] at h
  by_cases hx : x.commits
  · obtain ⟨r, hr, hc⟩ := hx
    rw [Layer.applied_of_committed hr hc] at h
    exact .inr ⟨r, hr, h⟩
  · rw [Layer.applied_of_not_commits hx] at h
    exact .inl h

/-! ### An expiry before or after the Scene Table's work -/

/-- An expiry leaves a record that is not committed. -/
theorem Layer.expire_of_not_commits {x : Layer} (h : ¬ x.commits) (a : MonitorAction) :
    x.expire a = { x with expired := expiredBy a x.expired } := by
  have hs : stagedAfterExpiry a x.staged = x.staged := by
    cases hx : x.staged with
    | none => cases a <;> rfl
    | some r =>
      have hr : r.committed = false := by simpa using fun hc => h ⟨r, hx, hc⟩
      cases a <;> simp [stagedAfterExpiry, hr]
  rw [Layer.expire, hs]

theorem Layer.commits_expire (x : Layer) (a : MonitorAction) : (x.expire a).commits ↔ x.commits := by
  cases hx : x.staged with
  | none => cases a <;> simp [Layer.commits, Layer.expire, stagedAfterExpiry, hx]
  | some r => cases a <;> cases hr : r.committed <;> simp [Layer.commits, Layer.expire, stagedAfterExpiry, hx, hr]

/-- An expiry and the application of a commit, in either order: HIDE and FALLBACK keep the commit from clearing the
condition, and HOLD changes nothing (R22). -/
theorem Layer.applied_expire (x : Layer) (a : MonitorAction) :
    (x.expire a).applied = { x.applied with expired := expiredBy a x.applied.expired } := by
  by_cases h : x.commits
  · obtain ⟨r, hr, hc⟩ := h
    cases a <;> simp [Layer.expire, stagedAfterExpiry, expiredBy, Layer.applied, hr, hc]
  · rw [Layer.applied_of_not_commits h, Layer.applied_of_not_commits (by rwa [Layer.commits_expire]),
      Layer.expire_of_not_commits h]

/-- The Scene Table's work and an expiry commute. -/
theorem Layer.started_expire (x : Layer) (a : MonitorAction) : (x.expire a).started = x.started.expire a := by
  rw [Layer.expire_of_not_commits x.not_commits_started]
  by_cases h : x.binding = .releasing
  · rw [Layer.started_of_releasing h, Layer.started_of_releasing (x := x.expire a) h, Layer.applied_expire]
  · rw [Layer.started_of_not_releasing h, Layer.started_of_not_releasing (x := x.expire a) h, Layer.applied_expire]
    rfl

/-! ### The Scene Table's work -/

theorem State.applyCommit_of_commits {s : State} {l : Fin 8} (h : (s.layer l).commits) : s.applyCommit l =
    ((s.setLayer l (s.layer l).applied).dropRefs (s.layer l).live).raiseAt (s.layer l).owner .frame := by
  obtain ⟨r, hr, hc⟩ := h
  simp [State.applyCommit, Layer.applied, hr, hc]

theorem State.applyCommit_of_not_commits {s : State} {l : Fin 8} (h : ¬ (s.layer l).commits) : s.applyCommit l = s := by
  unfold State.applyCommit
  dsimp only
  split
  · rfl
  · rename_i r hr
    exact if_neg fun hc => h ⟨r, hr, hc⟩

theorem State.layer_raiseAt (s : State) (p : Option Port) (f : EventFlag) (l : Fin 8) :
    (s.raiseAt p f).layer l = s.layer l := by
  rw [State.raiseAt_eq]; rfl

theorem State.layer_dropRefs (s : State) (ps : List Placement) (l : Fin 8) : (s.dropRefs ps).layer l = s.layer l := by
  rw [State.dropRefs_eq]; rfl

theorem State.ports_dropRefs (s : State) (ps : List Placement) : (s.dropRefs ps).ports = s.ports := by
  rw [State.dropRefs_eq]

theorem State.layer_applyCommit (s : State) (l : Fin 8) : (s.applyCommit l).layer l = (s.layer l).applied := by
  by_cases h : (s.layer l).commits
  · rw [State.applyCommit_of_commits h, State.layer_raiseAt, State.layer_dropRefs, State.layer_setLayer]
  · rw [State.applyCommit_of_not_commits h, Layer.applied_of_not_commits h]

theorem State.layer_applyCommit_ne (s : State) (l m : Fin 8) (h : m ≠ l) : (s.applyCommit l).layer m = s.layer m := by
  by_cases hc : (s.layer l).commits
  · rw [State.applyCommit_of_commits hc, State.layer_raiseAt, State.layer_dropRefs, State.layer_setLayer_ne _ _ _ _ h]
  · rw [State.applyCommit_of_not_commits hc]

/-- An applied commit raises FRAME at its layer's owner (R23). -/
theorem State.frame_applyCommit (s : State) (l : Fin 8) (q : Port) :
    ((s.applyCommit l).port q).hasFlag .frame = true
      ↔ (s.port q).hasFlag .frame = true ∨ (s.layer l).commits ∧ (s.layer l).owner = some q := by
  by_cases h : (s.layer l).commits
  · rw [State.applyCommit_of_commits h, State.hasFlag_frame_raiseAt, State.port, State.ports_dropRefs]
    simp [h, State.port]
  · rw [State.applyCommit_of_not_commits h]
    simp [h]

theorem State.layer_finishRelease (s : State) (l : Fin 8) : (s.finishRelease l).layer l = (s.layer l).finished := by
  unfold State.finishRelease Layer.finished
  split
  · dsimp only
    rw [State.layer_dropRefs, State.layer_setLayer, State.layer_discardStaged]
  · rfl

theorem State.layer_finishRelease_ne (s : State) (l m : Fin 8) (h : m ≠ l) :
    (s.finishRelease l).layer m = s.layer m := by
  unfold State.finishRelease
  split
  · dsimp only
    rw [State.layer_dropRefs, State.layer_setLayer_ne _ _ _ _ h, State.layer_discardStaged_ne _ _ _ h]
  · rfl

theorem State.ports_finishRelease (s : State) (l : Fin 8) : (s.finishRelease l).ports = s.ports := by
  unfold State.finishRelease
  split
  · dsimp only
    rw [State.ports_dropRefs, State.discardStaged_eq]
    rfl
  · rfl

theorem foldl_layers (f : State → Fin 8 → State) (g : Layer → Layer) (hsame : ∀ s l, (f s l).layer l = g (s.layer l))
    (hother : ∀ s l m, m ≠ l → (f s l).layer m = s.layer m) (s : State) (l : Fin 8) :
    ((List.finRange 8).foldl f s).layer l = g (s.layer l) := by
  rw [foldl_get State.layer f g hsame hother _ (List.nodup_finRange 8), if_pos (List.mem_finRange l)]

/-- The Scene Table's work brings every layer over its frame start (R17 to R21). -/
theorem State.layer_sceneWork (s : State) (l : Fin 8) : s.sceneWork.layer l = (s.layer l).started := by
  have hcopy (s : State) : s.copyScene.layer l = s.layer l := rfl
  unfold State.sceneWork
  rw [foldl_layers State.stepOpacity Layer.stepped (fun _ _ => State.layer_setLayer _ _ _)
    (fun _ _ _ h => State.layer_setLayer_ne _ _ _ _ h), hcopy,
    foldl_layers _ _ State.layer_finishRelease State.layer_finishRelease_ne,
    foldl_layers _ _ State.layer_applyCommit State.layer_applyCommit_ne, Layer.started]

/-- The Scene Table's work raises FRAME at the owners of applied commits alone (R23). -/
theorem State.frame_sceneWork (s : State) (q : Port) : (s.sceneWork.port q).hasFlag .frame = true
    ↔ (s.port q).hasFlag .frame = true ∨ ∃ l, (s.layer l).commits ∧ (s.layer l).owner = some q := by
  have hcopy (s : State) : s.copyScene.ports = s.ports := rfl
  have hports : s.sceneWork.ports = ((List.finRange 8).foldl State.applyCommit s).ports := by
    unfold State.sceneWork
    rw [foldl_keeps State.stepOpacity State.ports (fun _ _ => rfl), hcopy,
      foldl_keeps State.finishRelease State.ports State.ports_finishRelease]
  have hfold := foldl_frame State.layer State.applyCommit (fun x q => x.commits ∧ x.owner = some q)
    State.frame_applyCommit State.layer_applyCommit_ne _ (List.nodup_finRange 8) s q
  simp only [List.mem_finRange, true_and] at hfold
  rw [State.port, hports]
  exact hfold

/-- The Scene Table's work takes the pending z-order and backdrop (R20). -/
theorem State.sceneWork_live (s : State) :
    s.sceneWork.zLive = s.zPending ∧ s.sceneWork.backdropLive = s.backdropPending := by
  have hcopy (s : State) : s.copyScene.zLive = s.zPending ∧ s.copyScene.backdropLive = s.backdropPending := ⟨rfl, rfl⟩
  have hbefore : Writes (.work .scene) s
      ((List.finRange 8).foldl State.finishRelease ((List.finRange 8).foldl State.applyCommit s)) :=
    (Writes.foldl _ State.applyCommit_writes _ s).trans (Writes.foldl _ State.finishRelease_writes _ _)
  unfold State.sceneWork
  rw [foldl_keeps State.stepOpacity State.zLive (fun _ _ => rfl),
    foldl_keeps State.stepOpacity State.backdropLive (fun _ _ => rfl), (hcopy _).1, (hcopy _).2]
  exact ⟨hbefore.leaves.zPending, hbefore.leaves.backdropPending⟩

/-! ### The slots' work -/

/-- A slot after the frame start's work on it (R55). -/
def Slot.opened (x : Slot) : Slot := if x.state = .opening then { x with state := .opened } else x

/-- What a slot's opening makes of its standing depends on that alone. -/
theorem Slot.standing_opened (x : Slot) : x.opened.standing =
    x.standing.map fun p => (if p.1 = .opening then .opened else p.1, p.2) := by
  unfold Slot.opened
  split
  · rename_i h
    simp [Slot.standing, h]
  · rename_i h
    unfold Slot.standing
    split
    · rfl
    · simp [h]

theorem State.slot_openSlot (s : State) (i : Fin 64) : (s.openSlot i).slot i = (s.slot i).opened := by
  unfold State.openSlot Slot.opened
  split
  · rw [State.raiseAt_eq]
    exact State.slot_setSlot _ _ _
  · rfl

theorem State.slot_openSlot_ne (s : State) (i j : Fin 64) (h : j ≠ i) : (s.openSlot i).slot j = s.slot j := by
  unfold State.openSlot
  split
  · rw [State.raiseAt_eq]
    exact State.slot_setSlot_ne _ _ _ _ h
  · rfl

/-- An opened slot raises FRAME at its owner (R55). -/
theorem State.frame_openSlot (s : State) (i : Fin 64) (q : Port) :
    ((s.openSlot i).port q).hasFlag .frame = true
      ↔ (s.port q).hasFlag .frame = true ∨ (s.slot i).state = .opening ∧ (s.slot i).owner = some q := by
  unfold State.openSlot
  split
  · rename_i h
    rw [State.hasFlag_frame_raiseAt]
    simp [h]
  · rename_i h
    simp [h]

theorem State.slot_slotWork (s : State) (i : Fin 64) : s.slotWork.slot i = (s.slot i).opened := by
  rw [State.slotWork, foldl_get State.slot State.openSlot Slot.opened State.slot_openSlot State.slot_openSlot_ne _
    (List.nodup_finRange 64) s i, if_pos (List.mem_finRange i)]

theorem State.frame_slotWork (s : State) (q : Port) : (s.slotWork.port q).hasFlag .frame = true
    ↔ (s.port q).hasFlag .frame = true ∨ ∃ i, (s.slot i).state = .opening ∧ (s.slot i).owner = some q := by
  have hfold := foldl_frame State.slot State.openSlot (fun x q => x.state = .opening ∧ x.owner = some q)
    State.frame_openSlot State.slot_openSlot_ne _ (List.nodup_finRange 64) s q
  simp only [List.mem_finRange, true_and] at hfold
  rw [State.slotWork]
  exact hfold

/-! ### The promotion -/

/-- A promotion leaves a monitor, or, with its layer's live source VIN, refreshes it (R118). -/
theorem State.monitor_promotionWork (s : State) (l : Fin 8) : s.promotionWork.monitor l = s.monitor l
    ∨ (s.vin.ready ≠ none ∧ (s.layer l).attrs.source = .vin)
      ∧ s.promotionWork.monitor l = { s.monitor l with remaining := (s.monitor l).period } := by
  unfold State.promotionWork
  cases hf : s.vin.ready with
  | none => exact .inl rfl
  | some f =>
    dsimp only
    rw [foldl_get State.monitor State.refreshMonitor
      (fun m => if m.running then { m with remaining := m.period } else m) ?_ ?_ _ ((List.nodup_finRange 8).filter _) _ l]
    · by_cases hv : (s.layer l).attrs.source = .vin
      · by_cases hr : (s.monitor l).running = true
        · exact .inr ⟨⟨nofun, hv⟩, by simp [hv, hr]⟩
        · exact .inl (by simp [hv, hr])
      · exact .inl (by simp [hv])
    · intro s i
      unfold State.refreshMonitor
      dsimp only
      split
      · exact State.monitor_setMonitor _ _ _
      · rfl
    · intro s i j hj
      unfold State.refreshMonitor
      dsimp only
      split
      · exact State.monitor_setMonitor_ne _ _ _ _ hj
      · rfl

/-- A promotion shows the ready frame, if there is one (R116). -/
theorem State.promotionWork_vin (s : State) :
    s.promotionWork.vin.ready = none ∧ s.promotionWork.vin.shown = s.vin.ready.or s.vin.shown := by
  unfold State.promotionWork
  cases hf : s.vin.ready with
  | none => exact ⟨hf, rfl⟩
  | some f =>
    have hkeep : ∀ (s : State) (l : Fin 8), (s.refreshMonitor l).vin = s.vin := by
      intro s l
      unfold State.refreshMonitor
      dsimp only
      split <;> rfl
    dsimp only
    rw [foldl_keeps State.refreshMonitor State.vin hkeep]
    exact ⟨rfl, rfl⟩

/-! ### A monitor's work -/

/-- A running monitor at its last count makes its layer expire (R158, R159). -/
theorem State.layer_monitorWork (s : State) (l : Fin 8) : (s.monitorWork l).layer l =
    if (s.monitor l).running = true ∧ (s.monitor l).remaining ≤ 1 then (s.layer l).expire (s.monitor l).action
    else s.layer l := by
  unfold State.monitorWork
  dsimp only
  split
  · rename_i hr
    simp [hr]
  rename_i hr
  split
  · rename_i hle
    rw [if_pos ⟨by simpa using hr, hle⟩]
    unfold State.expireMonitor
    dsimp only
    rw [State.setMonitor_get_layer, State.raiseAt_eq, State.raiseAt_eq]
    exact State.layer_setLayer _ _ _
  · rename_i hle
    simp [hle]

end Sys2Proof.Machine
end

section
/-! PROOFS. The output frame start as a whole (R87): in whatever order the blocks take their work, what they have made of
the state depends on which of them have taken it alone. -/

namespace Sys2Proof.Machine

/-! ### The order of the work -/

theorem mem_firsts {α : Type} [DecidableEq α] (as : List α) (a : α) : a ∈ firsts as ↔ a ∈ as := by
  induction as with
  | nil => rfl
  | cons b rest ih => by_cases h : a = b <;> simp [firsts, ih, h]

theorem firsts_nodup {α : Type} [DecidableEq α] (as : List α) : (firsts as).Nodup := by
  induction as with
  | nil => exact List.nodup_nil
  | cons b rest ih => exact List.nodup_cons.mpr ⟨by simp, ih.filter _⟩

theorem mem_allFrameWork (k : FrameWork) : k ∈ allFrameWork := by cases k <;> simp [allFrameWork]

theorem frameOrder_nil (order : List FrameWork) : frameOrder order [] = firsts (order ++ allFrameWork) := by
  simp [frameOrder]

/-- What every block's work carries on, from the works taken before it to those and its own. -/
theorem foldl_frameWork {P : List FrameWork → State → Prop}
    (hstep : ∀ done u k, k ∉ done → P done u → P (k :: done) (frameWork k u)) (ks : List FrameWork) :
    ∀ done u, (ks.reverse ++ done).Nodup → P done u → P (ks.reverse ++ done) (ks.foldl (fun u k => frameWork k u) u) := by
  induction ks with
  | nil => exact fun _ _ _ h => h
  | cons k rest ih =>
    intro done u hn h
    rw [List.reverse_cons, List.append_assoc, List.singleton_append] at hn ⊢
    have hk := (List.nodup_cons.mp (List.nodup_append.mp hn).2.1).1
    exact ih _ _ hn (hstep done u k hk h)

/-- What holds before the first work and is carried on by every work holds when each has been taken once. -/
theorem State.frameStart_of_steps {P : List FrameWork → State → Prop}
    (hstep : ∀ done u k, k ∉ done → P done u → P (k :: done) (frameWork k u)) (s : State) (order : List FrameWork)
    (hs : s.frameTaken = []) (h : P [] s) : ∃ done t, (∀ k, k ∈ done) ∧ P done t
      ∧ s.frameStart order = { t with frameTaken := [], view := some (takeView t) } := by
  refine ⟨(frameOrder order s.frameTaken).reverse ++ [], _, fun k => ?_,
    foldl_frameWork hstep (frameOrder order s.frameTaken) [] s ?_ h, rfl⟩
  · simp [hs, frameOrder_nil, mem_firsts, mem_allFrameWork]
  · simpa [hs, frameOrder_nil] using firsts_nodup _

theorem mem_cons_of_ne {k m : FrameWork} (h : k ≠ m) (done : List FrameWork) : m ∈ k :: done ↔ m ∈ done := by
  simp [h.symm]

/-! ### Live copies and the shown frame -/

/-- What stands of the copies and of the input's frames once the works `done` have been taken from `s` (R20, R73, R116). -/
structure CopiesTaken (s : State) (done : List FrameWork) (u : State) : Prop where
  zPending : u.zPending = s.zPending
  backdropPending : u.backdropPending = s.backdropPending
  palPending : u.palPending = s.palPending
  sliceOwner : u.sliceOwner = s.sliceOwner
  scene : .scene ∈ done → u.zLive = s.zPending ∧ u.backdropLive = s.backdropPending
  palette : .palette ∈ done → u.palLive = s.palPending
  waiting : .promotion ∉ done → u.vin.ready = s.vin.ready ∧ u.vin.shown = s.vin.shown
  promoted : .promotion ∈ done → u.vin.ready = none ∧ u.vin.shown = s.vin.ready.or s.vin.shown

theorem CopiesTaken.step {s u : State} {done : List FrameWork} {k : FrameWork} (hk : k ∉ done)
    (h : CopiesTaken s done u) : CopiesTaken s (k :: done) (frameWork k u) := by
  have hl := frameWork_leaves u k
  constructor
  case zPending => exact hl.zPending.trans h.zPending
  case backdropPending => exact hl.backdropPending.trans h.backdropPending
  case palPending => exact hl.palPending.trans h.palPending
  case sliceOwner => exact hl.sliceOwner.trans h.sliceOwner
  case scene =>
    intro hm
    by_cases e : k = .scene
    · subst e
      obtain ⟨hz, hb⟩ := u.sceneWork_live
      exact ⟨hz.trans h.zPending, hb.trans h.backdropPending⟩
    · obtain ⟨hz, hb⟩ := h.scene ((mem_cons_of_ne e done).mp hm)
      exact ⟨(hl.zLive e).trans hz, (hl.backdropLive e).trans hb⟩
  case palette =>
    intro hm
    by_cases e : k = .palette
    · subst e
      exact h.palPending
    · exact (hl.palLive e).trans (h.palette ((mem_cons_of_ne e done).mp hm))
  case waiting =>
    intro hm
    obtain ⟨e, hd⟩ := not_or.mp (mt List.mem_cons.mpr hm)
    obtain ⟨hr, hs⟩ := h.waiting hd
    exact ⟨(hl.ready (Ne.symm e)).trans hr, (hl.shown (Ne.symm e)).trans hs⟩
  case promoted =>
    intro hm
    by_cases e : k = .promotion
    · subst e
      obtain ⟨hr, hs⟩ := h.waiting hk
      have hp := u.promotionWork_vin
      rwa [hr, hs] at hp
    · obtain ⟨hr, hs⟩ := h.promoted ((mem_cons_of_ne e done).mp hm)
      exact ⟨(hl.ready e).trans hr, (hl.shown e).trans hs⟩

/-! ### Layers and their monitors -/

/-- No promotion can refresh the monitor of layer `l` (R118). -/
def State.unrefreshed (s : State) (l : Fin 8) : Prop := s.vin.ready = none ∨ (s.layer l).namesVin = false

/-- The monitor of layer `l` does not expire at this frame start, whatever the order (R158). -/
def State.outlasts (s : State) (l : Fin 8) : Prop :=
  (s.monitor l).running = false
    ∨ 2 ≤ (s.monitor l).remaining ∧ (2 ≤ (s.monitor l).period ∨ s.unrefreshed l)

/-- The monitor of layer `l` expires at this frame start, whatever the order (R158). -/
def State.mustExpire (s : State) (l : Fin 8) : Prop :=
  (s.monitor l).running = true ∧ (s.monitor l).remaining ≤ 1 ∧ s.unrefreshed l

/-- The monitor of layer `l` before its work: as it was, or refreshed. -/
def Uncounted (s : State) (l : Fin 8) (m : Monitor) : Prop :=
  m = s.monitor l ∨ ¬ s.unrefreshed l ∧ m = { s.monitor l with remaining := (s.monitor l).period }

/-- Layer `l` after its monitor's work, the Scene Table's left aside: as it was, or expired. -/
def Counted (s : State) (l : Fin 8) (x : Layer) : Prop :=
  x = s.layer l ∧ ¬ s.mustExpire l ∨ x = (s.layer l).expire (s.monitor l).action ∧ ¬ s.outlasts l

/-- What stands of layer `l` and its monitor once the works `done` have been taken from `s`. -/
structure LayerTaken (s : State) (l : Fin 8) (done : List FrameWork) (u : State) : Prop where
  monitor : .monitor l ∉ done → Uncounted s l (u.monitor l)
  layer : ∃ x, u.layer l = (if .scene ∈ done then x.started else x)
    ∧ (.monitor l ∉ done → x = s.layer l) ∧ (.monitor l ∈ done → Counted s l x)

/-- A monitor not yet counted expires only where it may, and passes on only where it may (R158). -/
theorem Uncounted.counted {s : State} {l : Fin 8} {m : Monitor} (h : Uncounted s l m) :
    Counted s l (if m.running = true ∧ m.remaining ≤ 1 then (s.layer l).expire m.action else s.layer l) := by
  rcases h with rfl | ⟨hu, rfl⟩
  · split
    · rename_i hm
      refine .inr ⟨rfl, ?_⟩
      rintro (hr | ⟨hr, _⟩)
      · simp [hr] at hm
      · omega
    · rename_i hm
      exact .inl ⟨rfl, fun ⟨hr, hle, _⟩ => hm ⟨hr, hle⟩⟩
  · split
    · rename_i hm
      refine .inr ⟨rfl, ?_⟩
      rintro (hr | ⟨_, hp | hn⟩)
      · simp [hr] at hm
      · have := hm.2
        dsimp only at this
        omega
      · exact hu hn
    · exact .inl ⟨rfl, fun ⟨_, _, hn⟩ => hu hn⟩

theorem LayerTaken.step {s u : State} {l : Fin 8} {done : List FrameWork} {k : FrameWork} (hk : k ∉ done)
    (hc : CopiesTaken s done u) (h : LayerTaken s l done u) : LayerTaken s l (k :: done) (frameWork k u) := by
  have hl := frameWork_leaves u k
  obtain ⟨hmon, x, hx, hbefore, hafter⟩ := h
  constructor
  case monitor =>
    intro hm
    obtain ⟨e, hd⟩ := not_or.mp (mt List.mem_cons.mpr hm)
    by_cases ep : k = .promotion
    · subst ep
      rcases u.monitor_promotionWork l with hsame | ⟨⟨hready, hvin⟩, hnew⟩
      · exact hsame ▸ hmon hd
      · have hn : ¬ s.unrefreshed l := by
          rintro (hr | hr)
          · exact hready ((hc.waiting hk).1.trans hr)
          · rw [hx, hbefore hd] at hvin
            have hv : (s.layer l).namesVin = true := by
              split at hvin
              · exact Layer.namesVin_of_started hvin
              · exact (s.layer l).namesVin_iff.mpr (.inl hvin)
            simp [hv] at hr
        refine .inr ⟨hn, hnew.trans ?_⟩
        rcases hmon hd with hm | ⟨_, hm⟩ <;> rw [hm]
    · rw [hl.monitors ep l (Ne.symm e)]
      exact hmon hd
  case layer =>
    by_cases es : k = .scene
    · subst es
      have hd : FrameWork.monitor l ∈ FrameWork.scene :: done ↔ .monitor l ∈ done := by simp
      rw [if_neg hk] at hx
      refine ⟨x, ?_, fun hn => hbefore fun hm => hn (hd.mpr hm), fun hm => hafter (hd.mp hm)⟩
      rw [if_pos List.mem_cons_self]
      exact (u.layer_sceneWork l).trans (by rw [hx])
    by_cases em : k = .monitor l
    · subst em
      have hsc : FrameWork.scene ∈ FrameWork.monitor l :: done ↔ .scene ∈ done := by simp
      obtain rfl := hbefore hk
      have hm := hmon hk
      refine ⟨if (u.monitor l).running = true ∧ (u.monitor l).remaining ≤ 1
        then (s.layer l).expire (u.monitor l).action else s.layer l, ?_, fun hn => absurd List.mem_cons_self hn,
        fun _ => hm.counted⟩
      refine (u.layer_monitorWork l).trans ?_
      rw [hx]
      by_cases hd : .scene ∈ done
      · rw [if_pos (hsc.mpr hd), if_pos hd]
        split
        · rw [Layer.started_expire]
        · rfl
      · rw [if_neg fun hs => hd (hsc.mp hs), if_neg hd]
    · have hd := mem_cons_of_ne em done
      refine ⟨x, ?_, fun hn => hbefore fun hm => hn (hd.mpr hm), fun hm => hafter (hd.mp hm)⟩
      rw [hl.layers es l em, hx]
      simp [Ne.symm es]

/-! ### Slots and FRAME -/

/-- What stands of the slots once the works `done` have been taken from `s`, where no takeover may write (R55, R68). -/
structure SlotsTaken (s : State) (done : List FrameWork) (u : State) : Prop where
  captures : ∀ i, u.captures i → s.captures i
  opening : ∀ i, (u.slot i).state = .opening → (s.slot i).state = .opening
  before : .slots ∉ done → ∀ i, ¬ s.captures i → (u.slot i).standing = (s.slot i).standing
  after : .slots ∈ done → ∀ i, ¬ s.captures i → (u.slot i).standing = (s.slot i).opened.standing

theorem SlotsTaken.step {s u : State} {done : List FrameWork} {k : FrameWork} (hk : k ∉ done)
    (h : SlotsTaken s done u) : SlotsTaken s (k :: done) (frameWork k u) := by
  have hl := frameWork_leaves u k
  constructor
  case captures => exact fun i hi => h.captures i (hl.captures i hi)
  case opening => exact fun i hi => h.opening i (hl.opening i hi)
  case before =>
    intro hm i hi
    obtain ⟨e, hd⟩ := not_or.mp (mt List.mem_cons.mpr hm)
    exact (hl.slots (Ne.symm e) i fun hc => hi (h.captures i hc)).trans (h.before hd i hi)
  case after =>
    intro hm i hi
    by_cases e : k = .slots
    · subst e
      show (u.slotWork.slot i).standing = _
      rw [u.slot_slotWork, Slot.standing_opened, Slot.standing_opened, h.before hk i hi]
    · exact (hl.slots e i fun hc => hi (h.captures i hc)).trans (h.after ((mem_cons_of_ne e done).mp hm) i hi)

/-- Layer `l` has a committed record, and port `q` owns it. -/
def State.commitsOf (s : State) (l : Fin 8) (q : Port) : Prop := (s.layer l).commits ∧ (s.layer l).owner = some q

/-- Slot `i` is OPENING, and port `q` holds it. -/
def State.opensOf (s : State) (i : Fin 64) (q : Port) : Prop := (s.slot i).state = .opening ∧ (s.slot i).owner = some q

/-- Which ports have FRAME once the works `done` have been taken from `s` (R23, R55). -/
structure FramesTold (s : State) (done : List FrameWork) (u : State) : Prop where
  commits : .scene ∈ done → ∀ l q, s.commitsOf l q → (u.port q).hasFlag .frame = true
  told : (∀ i, (s.slot i).state = .opening → ¬ s.captures i) → ∀ q, (u.port q).hasFlag .frame = true ↔
    (s.port q).hasFlag .frame = true ∨ (.scene ∈ done ∧ ∃ l, s.commitsOf l q) ∨ (.slots ∈ done ∧ ∃ i, s.opensOf i q)

theorem Layer.commits_of_counted {s : State} {l : Fin 8} {x : Layer} (h : Counted s l x) :
    (x.commits ↔ (s.layer l).commits) ∧ x.owner = (s.layer l).owner := by
  rcases h with ⟨rfl, _⟩ | ⟨rfl, _⟩
  · exact ⟨.rfl, rfl⟩
  · exact ⟨Layer.commits_expire _ _, rfl⟩

/-- Until the Scene Table's work, its commits are those of the start. -/
theorem LayerTaken.commitsOf {s u : State} {l : Fin 8} {done : List FrameWork} (hd : .scene ∉ done)
    (h : LayerTaken s l done u) (q : Port) : u.commitsOf l q ↔ s.commitsOf l q := by
  obtain ⟨_, x, hx, hbefore, hafter⟩ := h
  rw [if_neg hd] at hx
  rw [State.commitsOf, State.commitsOf, hx]
  by_cases hm : .monitor l ∈ done
  · obtain ⟨hc, ho⟩ := Layer.commits_of_counted (hafter hm)
    rw [hc, ho]
  · rw [hbefore hm]

/-- Until the slots' work, the slots to open are those of the start, where no takeover may write one of these. -/
theorem SlotsTaken.opensOf {s u : State} {done : List FrameWork} (hd : .slots ∉ done) (h : SlotsTaken s done u)
    (hn : ∀ i, (s.slot i).state = .opening → ¬ s.captures i) (i : Fin 64) (q : Port) : u.opensOf i q ↔ s.opensOf i q := by
  have hiff (x : Slot) : (x.state = .opening ∧ x.owner = some q) ↔ x.standing = some (.opening, some q) := by
    simp [Slot.standing_eq_some]
  have hsame : (s.slot i).state = .opening → (u.opensOf i q ↔ s.opensOf i q) := fun ho => by
    rw [State.opensOf, State.opensOf, hiff, hiff, h.before hd i (hn i ho)]
  exact ⟨fun hu => (hsame (h.opening i hu.1)).mp hu, fun hs => (hsame hs.1).mpr hs⟩

theorem FramesTold.step {s u : State} {done : List FrameWork} {k : FrameWork} (hk : k ∉ done)
    (hlayers : ∀ l, LayerTaken s l done u) (hslots : SlotsTaken s done u) (h : FramesTold s done u) :
    FramesTold s (k :: done) (frameWork k u) := by
  have hl := frameWork_leaves u k
  by_cases es : k = .scene
  · subst es
    have hflag (q : Port) : ((frameWork .scene u).port q).hasFlag .frame = true ↔
        (u.port q).hasFlag .frame = true ∨ ∃ l, s.commitsOf l q :=
      (u.frame_sceneWork q).trans (or_congr_right (exists_congr fun l => (hlayers l).commitsOf hk q))
    refine ⟨fun _ l q hc => (hflag q).mpr (.inr ⟨l, hc⟩), fun hn q => ?_⟩
    rw [hflag, h.told hn q]
    simp [hk, or_comm, or_left_comm]
  by_cases eo : k = .slots
  · subst eo
    have hflag (q : Port) : ((frameWork .slots u).port q).hasFlag .frame = true ↔
        (u.port q).hasFlag .frame = true ∨ ∃ i, u.opensOf i q := u.frame_slotWork q
    refine ⟨fun hm l q hc => (hflag q).mpr (.inl (h.commits (by simpa using hm) l q hc)), fun hn q => ?_⟩
    rw [hflag, h.told hn q, exists_congr fun i => hslots.opensOf hk hn i q]
    simp [hk, or_assoc]
  · have hsc := mem_cons_of_ne es done
    have hso := mem_cons_of_ne eo done
    refine ⟨fun hm l q hc => ?_, fun hn q => ?_⟩
    · rw [hl.flags es eo]
      exact h.commits (hsc.mp hm) l q hc
    · rw [hl.flags es eo, h.told hn q, hsc, hso]

/-! ### The frame start -/

/-- What stands once the works `done` have been taken from `s`. -/
structure Taken (s : State) (done : List FrameWork) (u : State) : Prop where
  copies : CopiesTaken s done u
  layers : ∀ l, LayerTaken s l done u
  slots : SlotsTaken s done u
  frames : FramesTold s done u

theorem Taken.start (s : State) : Taken s [] s where
  copies := ⟨rfl, rfl, rfl, rfl, nofun, nofun, fun _ => ⟨rfl, rfl⟩, nofun⟩
  layers _ := ⟨fun _ => .inl rfl, _, rfl, fun _ => rfl, nofun⟩
  slots := ⟨fun _ => id, fun _ => id, fun _ _ _ => rfl, nofun⟩
  frames := ⟨nofun, fun _ q => by simp⟩

theorem Taken.step {s u : State} {done : List FrameWork} {k : FrameWork} (hk : k ∉ done) (h : Taken s done u) :
    Taken s (k :: done) (frameWork k u) where
  copies := h.copies.step hk
  layers l := (h.layers l).step hk h.copies
  slots := h.slots.step hk
  frames := h.frames.step hk h.layers h.slots

/-- A layer after the whole frame start is what the Scene Table makes of it, but for its expired condition (R17 to R22). -/
theorem Counted.started {s : State} {l : Fin 8} {x : Layer} (h : Counted s l x) :
    x.started = { (s.layer l).started with expired := x.started.expired } := by
  rcases h with ⟨rfl, _⟩ | ⟨rfl, _⟩
  · rfl
  · rw [Layer.started_expire, Layer.expire_of_not_commits (Layer.not_commits_started _)]

theorem Counted.expired_of_outlasts {s : State} {l : Fin 8} {x : Layer} (h : Counted s l x) (ho : s.outlasts l) :
    x.started.expired = (s.layer l).applied.expired := by
  rcases h with ⟨rfl, _⟩ | ⟨_, hn⟩
  · exact Layer.started_expired _
  · exact absurd ho hn

theorem Counted.expired_of_mustExpire {s : State} {l : Fin 8} {x : Layer} (h : Counted s l x) (he : s.mustExpire l) :
    x.started.expired = expiredBy (s.monitor l).action (s.layer l).applied.expired := by
  rcases h with ⟨_, hn⟩ | ⟨rfl, _⟩
  · exact absurd he hn
  · rw [Layer.started_expired, Layer.applied_expire]

/-- The expired condition of a layer whose monitor does not expire (R17, R22). -/
theorem Layer.applied_expired (x : Layer) : x.applied.expired = match x.staged with
    | none => x.expired
    | some r => if r.committed && r.clearsExpiry then .none else x.expired := by
  cases hx : x.staged with
  | none => simp [Layer.applied, hx]
  | some r => cases hc : r.committed <;> simp [Layer.applied, hx, hc]

/-- Settles O41: each block's work carries on what the works before it have made of the state. -/
theorem frameStartBringsPendingToLive : Obligations.FrameStartBringsPendingToLive := by
  intro order s
  refine ⟨fun hp => ?_, fun hp hs => ?_⟩
  · show Host.Outcome.next _ = _
    rw [if_pos hp]
  obtain ⟨done, u, hall, h, e⟩ := State.frameStart_of_steps (P := Taken s) (fun _ _ _ => Taken.step) s order hs
    (Taken.start s)
  refine ⟨{ u with frameTaken := [], view := some (takeView u) }, ?_, ?_⟩
  · show Host.Outcome.next _ = _
    rw [if_neg (by simp [hp]), e]
  obtain ⟨hcopies, hlayers, hslots, hframes⟩ := h
  have hlayer (l : Fin 8) : ∃ x, u.layer l = x.started ∧ Counted s l x := by
    obtain ⟨_, x, hx, _, hc⟩ := hlayers l
    exact ⟨x, hx.trans (if_pos (hall _)), hc (hall _)⟩
  have hstarted (l : Fin 8) : u.layer l = { (s.layer l).started with expired := (u.layer l).expired } := by
    obtain ⟨x, hx, hc⟩ := hlayer l
    rw [hx]
    exact hc.started
  obtain ⟨hz, hb⟩ := hcopies.scene (hall _)
  obtain ⟨hready, hshown⟩ := hcopies.promoted (hall _)
  refine ⟨hz, hcopies.zPending, hb, hcopies.backdropPending, hcopies.palette (hall _), hcopies.palPending,
    hcopies.sliceOwner, rfl, fun l hr => ?_, fun l r hr hst hc => ⟨?_, fun q ho => ?_⟩, fun l hr hno => ?_, fun l => ?_,
    fun hn => ?_, fun f hf => ⟨hshown.trans (by rw [hf]; rfl), hready⟩, fun hf => ⟨hshown.trans (by rw [hf]; rfl), hready⟩,
    rfl⟩
  · have hx := hstarted l
    rwa [Layer.started_of_releasing hr] at hx
  · have hx := hstarted l
    rwa [Layer.started_of_not_releasing hr, Layer.applied_of_committed hst hc] at hx
  · exact hframes.commits (hall _) l q ⟨⟨r, hst, hc⟩, ho⟩
  · have hx := hstarted l
    have hn : ¬ (s.layer l).commits := fun ⟨r, hst, hc⟩ => by simp [hno r hst] at hc
    rwa [Layer.started_of_not_releasing hr, Layer.applied_of_not_commits hn] at hx
  · obtain ⟨x, hx, hc⟩ := hlayer l
    have hexp : (u.layer l).expired = x.started.expired := by rw [hx]
    have hbase := (s.layer l).applied_expired
    refine ⟨fun ho => (hexp.trans (hc.expired_of_outlasts ho)).trans hbase, fun hrun hle hu => ?_⟩
    refine (hexp.trans (hc.expired_of_mustExpire ⟨hrun, hle, hu⟩)).trans ?_
    rw [hbase]
    rfl
  · have hfree (i : Fin 64) (hi : (s.slot i).state = .opening) : ¬ s.captures i := by
      rintro ⟨hp, a, ha, rfl⟩
      exact hn hp a ha hi
    refine ⟨fun i hi => ?_, fun q => ?_⟩
    · have hst := hslots.after (hall _) i (hfree i hi)
      have ho : (s.slot i).opened.standing = some (.opened, (s.slot i).owner) := by
        simp [Slot.opened, Slot.standing, hi]
      exact ((Slot.standing_eq_some _ _ _).mp (hst.trans ho)).2.1
    · refine (hframes.told hfree q).trans ?_
      simp only [hall, true_and, State.commitsOf, State.opensOf, Layer.commits, exists_and_right, ← and_assoc]

end Sys2Proof.Machine
end

section
/-! PROOFS. What the limits of a port speak of (R35, R40, R166, R176, R178), and what a block's work, a command and a link
transaction may make of it. -/

namespace Sys2Proof.Machine

/-! ### The fields that have limits -/

/-- A port's record with the fields blanked that no limit speaks of. -/
def PortState.limited (x : PortState) : PortState :=
  { x with reports := [], sticky := 0, mask := 0, wp0 := 0, wp1 := 0, sdo := [] }

/-- R178 at one port: the records of its ring and the summary record that waits. -/
def PortState.RecordsFit (x : PortState) : Prop := (∀ r ∈ x.ring, r.fits) ∧ ∀ r ∈ x.rpt.summary, r.fits

/-- A port within its limits, with the limits of its records where `B` holds: `B` stands for the bounds that the values of
records have from the state's counts. -/
def Limits (B : Prop) (x : PortState) : Prop := PortOk x ∧ (B → x.RecordsFit)

/-- A clip stack within the limits of R40. -/
def ClipsOk (rs : List Rect) : Prop :=
  rs.length ≤ Config.clipMax ∧ nestedClips rs ∧ ∀ r ∈ rs, r.x0 ≤ 959 ∧ r.y0 ≤ 539

section
variable {B : Prop} {x y : PortState}

theorem PortState.lists_eq_of_limited (h : y.limited = x.limited) : y.queue = x.queue ∧ y.ring = x.ring :=
  ⟨show y.limited.queue = _ from h ▸ rfl, show y.limited.ring = _ from h ▸ rfl⟩

theorem PortState.rpt_eq_of_limited (h : y.limited = x.limited) : y.rpt = x.rpt := show y.limited.rpt = _ from h ▸ rfl

theorem Limits.of_limited_eq (h : y.limited = x.limited) (hx : Limits B x) : Limits B y := by
  have hiff (z : PortState) : Limits B z.limited ↔ Limits B z := Iff.rfl
  rwa [← hiff, h, hiff]

theorem linkFits_of_length_le (hl : y.link = x.link) (hq : y.queue.length ≤ x.queue.length) (h : linkFits x) :
    linkFits y := by
  unfold linkFits at *
  rw [hl]
  split at h
  · exact hq.trans_lt h
  all_goals trivial

theorem PortOk.dropHead (h : PortOk x) : PortOk { x with queue := x.queue.tail } := by
  obtain ⟨hq, hl, hrest⟩ := h
  have hle : x.queue.tail.length ≤ x.queue.length := by simp
  exact ⟨hle.trans hq, linkFits_of_length_le (x := x) rfl hle hl, hrest⟩

theorem PortOk.repeatOk (h : PortOk x) : RepeatOk x.rpt := by
  obtain ⟨_, _, _, _, _, _, _, _, hr⟩ := h
  exact hr

theorem Limits.dropHead (h : Limits B x) : Limits B { x with queue := x.queue.tail } := ⟨h.1.dropHead, h.2⟩

/-- A record joins a ring that has room (R177, R178). -/
theorem Limits.push (h : Limits B x) (hr : x.ring.length < Config.ringMax) (r : ResultRecord) (hf : B → r.fits) :
    Limits B { x with ring := x.ring ++ [r] } := by
  obtain ⟨⟨hq, hl, _, hrest⟩, hrec⟩ := h
  refine ⟨⟨hq, hl, by simpa using hr, hrest⟩, fun hb => ?_⟩
  obtain ⟨hring, hsum⟩ := hrec hb
  refine ⟨fun r' hr' => ?_, hsum⟩
  rcases List.mem_append.mp hr' with hr' | hr'
  · exact hring r' hr'
  · obtain rfl := List.mem_singleton.mp hr'
    exact hf hb

theorem Limits.setRepeat (h : Limits B x) (r : RepeatRecord) (hr : RepeatOk r) (hf : B → ∀ y ∈ r.summary, y.fits) :
    Limits B { x with rpt := r } := by
  obtain ⟨⟨hq, hl, hring, hc, hn, hin, h0, h1, _⟩, hrec⟩ := h
  exact ⟨⟨hq, hl, hring, hc, hn, hin, h0, h1, hr⟩, fun hb => ⟨(hrec hb).1, hf hb⟩⟩

/-- A link that no longer holds a transaction asks nothing of the queue. -/
theorem Limits.closeLink (h : Limits B x) (out : List Byte) : Limits B { x with link := .idle, sdo := out } := by
  obtain ⟨⟨hq, _, hrest⟩, hrec⟩ := h
  exact ⟨⟨hq, trivial, hrest⟩, hrec⟩

/-- A port after its reset, whatever its link (R183). -/
theorem Limits.reset (l : Link) (out : List Byte) : Limits B { PortState.reset with link := l, sdo := out } := by
  refine ⟨⟨Nat.zero_le _, ?_, Nat.zero_le _, Nat.zero_le _, trivial, nofun, cursorOk_reset, cursorOk_reset, repeatOk_reset⟩,
    fun _ => ⟨nofun, nofun⟩⟩
  unfold linkFits
  dsimp only
  split
  · decide
  all_goals trivial

end

/-! ### What writes leave -/

/-- A write of a port's fields that no limit speaks of. -/
theorem State.limited_setPort (s : State) (p q : Port) (x : PortState) (h : x.limited = (s.port p).limited) :
    ((s.setPort p x).port q).limited = (s.port q).limited := by
  by_cases hq : q = p
  · subst hq; rwa [State.port_setPort]
  · rw [State.port_setPort_ne _ _ _ _ hq]

/-- A write that is not of port `q` brings reports and flags alone to it. -/
theorem Write.limited {w : Writer} {q : Port} {s t : State} (h : Write w s t) (hq : w ≠ .port q) :
    (t.port q).limited = (s.port q).limited := by
  cases h with
  | port p hw x => rw [State.port_setPort_ne _ _ _ _ fun e => hq (hw.trans (congrArg _ e.symm))]
  | raise p f _ => exact s.limited_setPort p q _ rfl
  | reports p rs => exact s.limited_setPort p q _ rfl
  | _ => rfl

theorem Writes.limited {w : Writer} {q : Port} {s t : State} (h : Writes w s t) (hq : w ≠ .port q) :
    (t.port q).limited = (s.port q).limited :=
  h.keep (Inv := fun u => (u.port q).limited = (s.port q).limited) (fun _ _ hu hs => (hu.limited hq).trans hs) rfl

/-! ### What a command may do -/

/-- What a command may make of its own port's record; `barred` says whether R169 bars it. -/
inductive PortEdit (barred : Bool) (x : PortState) : PortState → Prop
  | same {y : PortState} (h : y.limited = x.limited) : PortEdit barred x y
  | cursors (c d : Cursor) (hc : CursorOk x.cursor0 → CursorOk x.cursor1 → CursorOk c ∧ CursorOk d) :
    PortEdit barred x { x with cursor0 := c, cursor1 := d }
  | clips (rs : List Rect) (hr : ClipsOk x.clips → ClipsOk rs) : PortEdit barred x { x with clips := rs }
  | rpt (hb : barred = true) (r : RepeatRecord)
    (hr : RepeatOk x.rpt → x.rpt.state = .none → RepeatOk r ∧ r.summary = none) : PortEdit barred x { x with rpt := r }

theorem RepeatOk.summary_of_none {r : RepeatRecord} (h : RepeatOk r) (hs : r.state = .none) : r.summary = none := by
  obtain ⟨_, _, _, _, _, _, hr⟩ := h
  rw [hs] at hr
  exact hr.1

/-- A command leaves queue and ring to the executor. -/
theorem PortEdit.lists {b : Bool} {x y : PortState} (h : PortEdit b x y) : y.queue = x.queue ∧ y.ring = x.ring := by
  cases h with
  | same h => exact PortState.lists_eq_of_limited h
  | _ => exact ⟨rfl, rfl⟩

/-- A command that is not barred leaves the repeat record (R169). -/
theorem PortEdit.rpt_eq {x y : PortState} (h : PortEdit false x y) : y.rpt = x.rpt := by
  cases h with
  | same h => exact PortState.rpt_eq_of_limited h
  | rpt hb => cases hb
  | _ => rfl

/-- A command keeps its port's limits, a barred one outside a block. -/
theorem PortEdit.limits {B : Prop} {b : Bool} {x y : PortState} (h : PortEdit b x y) (hx : Limits B x)
    (hb : b = true → x.rpt.state = .none) : Limits B y := by
  cases h with
  | same h => exact hx.of_limited_eq h
  | cursors c d hc =>
    obtain ⟨⟨hq, hl, hring, hcl, hn, hin, h0, h1, hr⟩, hrec⟩ := hx
    obtain ⟨k0, k1⟩ := hc h0 h1
    exact ⟨⟨hq, hl, hring, hcl, hn, hin, k0, k1, hr⟩, hrec⟩
  | clips rs hrs =>
    obtain ⟨⟨hq, hl, hring, hcl, hn, hin, h0, h1, hr⟩, hrec⟩ := hx
    obtain ⟨kcl, kn, kin⟩ := hrs ⟨hcl, hn, hin⟩
    exact ⟨⟨hq, hl, hring, kcl, kn, kin, h0, h1, hr⟩, hrec⟩
  | rpt hbar r hr =>
    obtain ⟨hok, hsum⟩ := hr hx.1.repeatOk (hb hbar)
    exact hx.setRepeat r hok fun _ => by rw [hsum]; nofun

/-- What the answers of commands are bounded by. -/
structure Bounded (s : State) : Prop where
  pool : PoolOk s
  refs : RefsOk s
  slots : SlotsOk s
  timers : TimersOk s
  monitors : MonitorsOk s
  ports : PortsOk s

/-- An answer's record is within the limits of R178. -/
def Answer.Fits (a : Answer) : Prop := a.value ≤ 65535 ∧ a.extra.length ≤ 8

/-- What a command of port `p` makes of the port, and what it answers. -/
structure Effect (p : Port) (barred : Bool) (s : State) (r : State × Answer) : Prop where
  port : PortEdit barred (s.port p) (r.1.port p)
  fits : Bounded s → r.2.Fits

/-- The effect of a command at every state. -/
def CommandOk (p : Port) (barred : Bool) (op : CommandOp) : Prop := ∀ s, Effect p barred s (op s)

end Sys2Proof.Machine
end

section
/-! PROOFS. What every command makes of its port and what it answers, within the limits of R35, R40, R166 and R178. -/

namespace Sys2Proof.Machine

/-! ### The bounds of the state's counts -/

/-- A dropped head is no part of what bounds an answer. -/
theorem Bounded.dropHead {s : State} (h : Bounded s) (p : Port) : Bounded (s.dropHead p) where
  pool := h.pool
  refs := h.refs
  slots := h.slots
  timers := h.timers
  monitors := h.monitors
  ports q := by
    by_cases hq : q = p
    · subst hq; rw [State.port_dropHead]; exact (h.ports q).dropHead
    · rw [State.port_dropHead_ne _ _ _ hq]; exact h.ports q

/-- Placements hold a pool entry each and monitors a reference each (R4, R62, R156). -/
theorem Bounded.refCount_le {s : State} (h : Bounded s) (i : Fin 64) : (s.slot i).refCount ≤ 136 := by
  have hpool := h.pool.count
  have hplaced : s.placements.countP (fun e => e.slot = i) ≤ s.placements.length := List.countP_le_length
  have hheld : (List.finRange 8).countP (monitorHolds s i) ≤ (List.finRange 8).length := List.countP_le_length
  obtain ⟨hrefs, _⟩ := h.refs
  rw [hrefs i, referencesTo]
  rw [List.length_finRange] at hheld
  omega

/-- A slot's image lies within its pixel memory, and the write position within the image (R47, R48). -/
theorem Bounded.area_le {s : State} (h : Bounded s) (i : Fin 64) :
    (s.slot i).writePos ≤ (s.slot i).width * (s.slot i).height ∧ (s.slot i).width * (s.slot i).height ≤ 16384 := by
  obtain ⟨harea, hpos, _⟩ := h.slots i
  refine ⟨hpos, ?_⟩
  rcases harea with ⟨hw, _⟩ | ⟨_, _, _, _, ha⟩
  · simp [hw]
  · exact ha

theorem Bounded.timer_le {s : State} (h : Bounded s) (t : Fin 4) :
    (s.timer t).reload ≤ 65535 ∧ (s.timer t).count ≤ 65535 ∧ (s.timer t).measured ≤ 65535 := by
  obtain ⟨_, _, _, _, hreload, hcount, hmeasured, _⟩ := h.timers t
  exact ⟨hreload, hcount, hmeasured⟩

theorem Bounded.monitor_le {s : State} (h : Bounded s) (l : Fin 8) :
    (s.monitor l).period ≤ 4095 ∧ (s.monitor l).remaining ≤ 4095 := by
  obtain ⟨_, hperiod, _, _, hremaining, _⟩ := h.monitors l
  exact ⟨hperiod, hremaining⟩

theorem Bounded.clips_le {s : State} (h : Bounded s) (p : Port) : (s.port p).clips.length ≤ 8 := by
  obtain ⟨_, _, _, hclips, _⟩ := h.ports p
  exact hclips

theorem Bounded.loopCount_le {s : State} (h : Bounded s) (p : Port) : (s.port p).rpt.loopCount ≤ 64 := by
  obtain ⟨_, _, hloop, _⟩ := (h.ports p).repeatOk
  exact hloop

/-! ### The shared checks -/

section
variable {p : Port} {b : Bool}

theorem Effect.refuse (s : State) (o : OutcomeCode) : Effect p b s (s, refuse o) :=
  ⟨.same rfl, fun _ => ⟨Nat.zero_le _, Nat.zero_le _⟩⟩

/-- A command that leaves the limited fields of its port. -/
theorem Effect.answer {s t : State} {a : Answer} (hp : (t.port p).limited = (s.port p).limited)
    (hv : Bounded s → a.value ≤ 65535) (hx : a.extra.length ≤ 8) : Effect p b s (t, a) :=
  ⟨.same hp, fun h => ⟨hv h, hx⟩⟩

theorem CommandOk.unless {c : State → Prop} [DecidablePred c] {o : OutcomeCode} {k : CommandOp} (h : CommandOk p b k) :
    CommandOk p b fun s => if c s then (s, Machine.refuse o) else k s := by
  intro s
  dsimp only
  split
  · exact .refuse s o
  · exact h s

theorem CommandOk.ownedLayer {l : Byte} {k : Fin 8 → CommandOp} (h : ∀ i, CommandOk p b (k i)) :
    CommandOk p b (ownedLayer p l k) := by
  intro s
  unfold Machine.ownedLayer
  split
  · exact .refuse s _
  · split
    · exact h _ s
    · exact .refuse s _

/-- The owner's commands that a RELEASING layer refuses (R2, R24). -/
theorem CommandOk.boundLayer {l : Byte} {k : Fin 8 → CommandOp} (h : ∀ i, CommandOk p b (k i)) :
    CommandOk p b (Machine.ownedLayer p l fun i s =>
      if (s.layer i).binding = .releasing then (s, Machine.refuse .waitFrame) else k i s) :=
  .ownedLayer fun i => .unless (h i)

/-- The commands that edit an uncommitted pending record (R3, R12, R31). -/
theorem CommandOk.editedLayer {l : Byte} {k : Fin 8 → PendingRecord → CommandOp} (h : ∀ i r, CommandOk p b (k i r)) :
    CommandOk p b (Machine.ownedLayer p l fun i => editable i (k i)) := by
  refine .boundLayer fun i s => ?_
  split
  · exact .refuse s _
  · split
    · exact .refuse s _
    · exact h i _ s

theorem CommandOk.ownedSlot {n : Byte} {k : Fin 64 → CommandOp} (h : ∀ i, CommandOk p b (k i)) :
    CommandOk p b (ownedSlot p n k) := by
  intro s
  unfold Machine.ownedSlot
  split
  · exact .refuse s _
  · split
    · exact h _ s
    · exact .refuse s _

theorem CommandOk.writableSlot {n : Byte} {k : Fin 64 → CommandOp} (h : ∀ i, CommandOk p b (k i)) :
    CommandOk p b (Machine.ownedSlot p n fun i => writable i (k i)) := by
  refine .ownedSlot fun i s => ?_
  unfold writable
  split
  case h_2 => exact h i s
  all_goals exact .refuse s _

theorem CommandOk.heldTimer {n : Byte} {k : Fin 4 → CommandOp} (h : ∀ i, CommandOk p b (k i)) :
    CommandOk p b (heldTimer p n k) := by
  intro s
  unfold Machine.heldTimer
  split
  · exact .refuse s _
  · split
    · exact h _ s
    · exact .refuse s _

theorem CommandOk.byHolder {k : CommandOp} (h : CommandOk p b k) : CommandOk p b (byHolder p k) := by
  intro s
  unfold Machine.byHolder
  split
  · exact h s
  · exact .refuse s _

end

/-! ### Layers (file 01) -/

section
variable (p : Port) (b : Bool)

theorem State.port_of_ports_eq {s t : State} (h : t.ports = s.ports) (q : Port) : t.port q = s.port q := by
  unfold State.port
  rw [h]

theorem lyrClaim_ok (l : Byte) : CommandOk p b (lyrClaim p l) := by
  intro s
  unfold lyrClaim
  split
  · exact .refuse s _
  · split
    · exact .answer rfl (fun _ => by dsimp only; omega) (Nat.zero_le _)
    · exact .refuse s _

theorem lyrRelease_ok (l : Byte) : CommandOk p b (lyrRelease p l) :=
  .boundLayer (k := fun i s => (s.releaseLayer i, { outcome := .ok })) fun i s => by
    refine .answer ?_ (fun _ => Nat.zero_le _) (Nat.zero_le _)
    rw [State.releaseLayer_eq]
    rfl

theorem State.ports_discardStaged (s : State) (l : Fin 8) : (s.discardStaged l).ports = s.ports := by
  rw [State.discardStaged_eq]

theorem beginFresh_ok (i : Fin 8) : CommandOk p b (beginFresh i) := fun s => by
  refine .answer ?_ (fun _ => Nat.zero_le _) (Nat.zero_le _)
  rw [State.port_of_ports_eq (s := s)]
  exact s.ports_discardStaged i

theorem copyEntries_length_le (free : List (Fin 128)) (live : List Placement) :
    (copyEntries free live).length ≤ free.length := by
  simp [copyEntries]

theorem beginCopy_ok (i : Fin 8) : CommandOk p b (beginCopy i) := fun s => by
  unfold beginCopy
  split
  · exact .refuse s _
  · refine .answer ?_ (fun _ => ?_) (Nat.zero_le _)
    · rw [State.addRefs_eq, State.port_of_ports_eq (s := s)]
      exact s.ports_discardStaged i
    · have hle := copyEntries_length_le (s.discardStaged i).poolFree ((s.discardStaged i).layer i).live
      have hpool : (s.discardStaged i).poolFree.length ≤ (List.finRange 128).length := List.length_filter_le _ _
      rw [List.length_finRange] at hpool
      dsimp only
      omega

theorem lyrBegin_ok (l mode : Byte) : CommandOk p b (lyrBegin p l mode) := by
  refine .boundLayer fun i s => ?_
  split
  · exact .refuse s _
  · split
    · exact beginFresh_ok p b i s
    · split
      · exact beginCopy_ok p b i s
      · exact .refuse s _

theorem lyrAttr_ok (l visible target fade : Byte) (ox oy : Half) (source : Byte) (x0 y0 x1 y1 : Half) :
    CommandOk p b (lyrAttr p l visible target fade ox oy source x0 y0 x1 y1) := by
  refine .editedLayer fun i r s => ?_
  split
  · split
    · exact .refuse s _
    · exact .answer rfl (fun _ => Nat.zero_le _) (Nat.zero_le _)
  · exact .refuse s _

theorem lyrCommit_ok (mask : Byte) : CommandOk p b (lyrCommit p mask) := by
  intro s
  unfold lyrCommit
  dsimp only
  split
  · exact .refuse s _
  · split
    · exact .answer rfl (fun _ => by dsimp only; omega) (Nat.zero_le _)
    · split
      · exact .answer rfl (fun _ => by dsimp only; omega) (Nat.zero_le _)
      · refine .answer ?_ (fun _ => ?_) (Nat.zero_le _)
        · rw [State.port_of_ports_eq (s := s)]
          exact foldl_keeps State.commitLayer State.ports (fun _ _ => rfl) _ s
        · have hlen : (maskLayers mask).length ≤ (List.finRange 8).length := List.length_filter_le _ _
          rw [List.length_finRange] at hlen
          dsimp only
          omega

theorem lyrZ_ok (l index : Byte) : CommandOk p b (lyrZ p l index) := by
  refine .boundLayer fun i s => ?_
  split
  · exact .answer rfl (fun _ => by dsimp only; omega) (Nat.zero_le _)
  · exact .refuse s _

theorem backdrop_ok (y cb cr : Byte) : CommandOk p b (backdrop p y cb cr) := fun _ =>
  .answer rfl (fun _ => Nat.zero_le _) (Nat.zero_le _)

end

end Sys2Proof.Machine
end

section
/-! PROOFS. The commands of placements, cursors, clips, windows, slots and the palette within their port's limits (files 02 to
04). -/

namespace Sys2Proof.Machine

/-! ### Placements, cursors, clips and windows (file 02, R81, R82) -/

section
variable (p : Port) (b : Bool)

theorem intBytes_length (x : Int) : (intBytes x).length = 2 := rfl
theorem natBytes_length (n : Nat) : (natBytes n).length = 2 := rfl

/-- A placement leaves its port's record. -/
theorem place_ports (i : Fin 8) (slot : Fin 64) (x y : Int) (r : PendingRecord) (s : State) :
    (place p i slot x y r s).1.ports = s.ports := by
  unfold place
  split
  · rfl
  split
  · rfl
  split
  · rfl
  split <;> rfl

theorem place_ok (i : Fin 8) (slot : Fin 64) (x y : Int) (r : PendingRecord) : CommandOk p b (place p i slot x y r) := by
  intro s
  unfold place
  split
  · exact .refuse s _
  split
  · exact .refuse s _
  split
  · exact .refuse s _
  split
  · exact .refuse s _
  · exact .answer rfl (fun _ => by dsimp only; omega) (by simp [placementExtra, intBytes_length])

theorem plcAdd_ok (l slot : Byte) (x y : Half) : CommandOk p b (plcAdd p l slot x y) := by
  refine .editedLayer fun i r s => ?_
  split
  · exact .refuse s _
  · exact place_ok p b i _ _ _ r s

theorem clampInt_mem (lo hi x : Int) (h : lo ≤ hi) : lo ≤ clampInt lo hi x ∧ clampInt lo hi x ≤ hi := by
  rw [clampInt_eq_into lo hi x h]
  unfold into
  omega

/-- A cursor stays in its ranges as it advances (R38, R39). -/
theorem advanceCursor_ok {c : Cursor} (h : CursorOk c) : CursorOk (advanceCursor c) := by
  obtain ⟨hx, hx', hy, hy', h0, h0', hdx, hdx', hdy, hdy', hc, hc', hcol, hs, hs'⟩ := h
  have hxm := clampInt_mem (-2048) 2047 (c.x + c.dx) (by decide)
  have hym := clampInt_mem (-2048) 2047 (c.y + c.dy) (by decide)
  unfold advanceCursor
  split
  · rename_i hnext
    exact ⟨hxm.1, hxm.2, hy, hy', h0, h0', hdx, hdx', hdy, hdy', hc, hc', hnext, hs, hs'⟩
  · exact ⟨h0, h0', hym.1, hym.2, h0, h0', hdx, hdx', hdy, hdy', hc, hc', hc, hs, hs'⟩

/-- A write of one cursor. -/
theorem PortEdit.setCursor (x : PortState) (k : Byte) (c : Cursor)
    (h : CursorOk x.cursor0 → CursorOk x.cursor1 → CursorOk c) :
    PortEdit b x (if k = 0 then { x with cursor0 := c } else { x with cursor1 := c }) := by
  split
  · exact .cursors c x.cursor1 fun h0 h1 => ⟨h h0 h1, h1⟩
  · exact .cursors x.cursor0 c fun h0 h1 => ⟨h0, h h0 h1⟩

theorem cursorOf_cases {x : PortState} {k : Byte} {c : Cursor} (h : cursorOf x k = some c) :
    c = x.cursor0 ∨ c = x.cursor1 := by
  unfold cursorOf at h
  split at h
  · exact .inl (Option.some.inj h).symm
  · split at h
    · exact .inr (Option.some.inj h).symm
    · cases h

theorem plcCursor_ok (l k : Byte) : CommandOk p b (plcCursor p l k) := by
  refine .editedLayer fun i r s => ?_
  split
  · exact .refuse s _
  · rename_i c hc
    obtain ⟨_, hfits⟩ := place_ok p b i c.slot c.x c.y r s
    dsimp only
    split
    · refine ⟨?_, hfits⟩
      rw [State.setCursor, State.port_setPort, State.port_of_ports_eq (place_ports p i c.slot c.x c.y r s)]
      refine .setCursor b _ k _ fun h0 h1 => advanceCursor_ok ?_
      rcases cursorOf_cases hc with rfl | rfl
      exacts [h0, h1]
    · exact ⟨.same rfl, hfits⟩

theorem curSet_ok (k : Byte) (x y dx dy : Half) (columns slot fade : Byte) :
    CommandOk p b (curSet p k x y dx dy columns slot fade) := by
  intro s
  unfold curSet
  split
  · refine ⟨?_, fun _ => ⟨by dsimp only; omega, Nat.zero_le _⟩⟩
    dsimp only
    rw [State.setCursor, State.port_setPort]
    refine .setCursor b _ k _ fun _ _ => ?_
    have hx := clampInt_mem (-2048) 2047 x.toInt (by decide)
    have hy := clampInt_mem (-2048) 2047 y.toInt (by decide)
    have hdx := clampInt_mem (-1024) 1023 dx.toInt (by decide)
    have hdy := clampInt_mem (-1024) 1023 dy.toInt (by decide)
    have hf := clampInt_mem (-8) 8 fade.toInt (by decide)
    have hc := le_clampNat 1 16 columns.toNat (by decide)
    exact ⟨hx.1, hx.2, hy.1, hy.2, hx.1, hx.2, hdx.1, hdx.2, hdy.1, hdy.2, hc,
      clampNat_le 1 16 columns.toNat (by decide), hc, hf.1, hf.2⟩
  · exact .refuse s _

/-- The intersection with the top entry lies within it, and its first corner on the raster (R40, R41). -/
theorem ClipsOk.push {rs : List Rect} (h : ClipsOk rs) (hl : rs.length < Config.clipMax) (x0 y0 x1 y1 : Int) :
    ClipsOk ((clampRect x0 y0 x1 y1).meet (rs.head?.getD Rect.raster) :: rs) := by
  obtain ⟨_, hn, hin⟩ := h
  have hx := clampInt_mem 0 959 x0 (by decide)
  have hy := clampInt_mem 0 539 y0 (by decide)
  have hcorner (top : Rect) (ht : top.x0 ≤ 959 ∧ top.y0 ≤ 539) :
      ((clampRect x0 y0 x1 y1).meet top).x0 ≤ 959 ∧ ((clampRect x0 y0 x1 y1).meet top).y0 ≤ 539 := by
    simp only [Rect.meet, clampRect, clampCoord, Nat.max_le, Nat.cast_ofNat]
    omega
  have hinside (top : Rect) : ((clampRect x0 y0 x1 y1).meet top).inside top :=
    ⟨Nat.le_max_right _ _, Nat.le_max_right _ _, Nat.min_le_right _ _, Nat.min_le_right _ _⟩
  refine ⟨hl, ?_, List.forall_mem_cons.mpr ⟨?_, hin⟩⟩
  · cases rs with
    | nil => exact hinside Rect.raster
    | cons r below => exact ⟨hinside r, hn⟩
  · cases rs with
    | nil => exact hcorner Rect.raster (by decide)
    | cons r below => exact hcorner r (hin r List.mem_cons_self)

theorem nestedClips_tail {r : Rect} {rs : List Rect} (h : nestedClips (r :: rs)) : nestedClips rs := by
  cases rs with
  | nil => trivial
  | cons below rest => exact h.2

theorem ClipsOk.pop {r : Rect} {rs : List Rect} (h : ClipsOk (r :: rs)) : ClipsOk rs := by
  obtain ⟨hl, hn, hin⟩ := h
  exact ⟨(Nat.le_succ _).trans hl, nestedClips_tail hn, fun c hc => hin c (List.mem_cons_of_mem _ hc)⟩

theorem clipPush_ok (x0 y0 x1 y1 : Half) : CommandOk p b (clipPush p x0 y0 x1 y1) := by
  intro s
  unfold clipPush
  dsimp only
  split
  · exact .refuse s _
  · rename_i hl
    refine ⟨?_, fun h => ⟨?_, by simp [rectBytes, natBytes_length]⟩⟩
    · rw [State.port_setPort]
      exact .clips _ fun hc => hc.push (not_le.mp hl) _ _ _ _
    · have hc := h.clips_le p
      dsimp only
      omega

theorem clipPop_ok : CommandOk p b (clipPop p) := by
  intro s
  unfold clipPop
  dsimp only
  split
  · exact .refuse s _
  · rename_i r rest hc
    refine ⟨?_, fun h => ⟨?_, Nat.zero_le _⟩⟩
    · rw [State.port_setPort]
      exact .clips rest fun h => (hc ▸ h).pop
    · have hl := h.clips_le p
      rw [hc, List.length_cons] at hl
      dsimp only
      omega

theorem palWindow_ok (w slice : Byte) : CommandOk p b (palWindow p w slice) := by
  intro s
  unfold palWindow
  split
  · exact .refuse s _
  · split
    · refine .answer (State.limited_setPort s p p _ ?_) (fun _ => by dsimp only; omega) (Nat.le_add_left 2 6)
      split <;> rfl
    · exact .refuse s _

/-! ### Slots (file 03) -/

theorem sltClaim_ok : CommandOk p b (sltClaim p) := by
  intro s
  unfold sltClaim
  split
  · exact .refuse s _
  · exact .answer rfl (fun _ => by dsimp only; omega) (Nat.zero_le _)

theorem sltClaimAt_ok (n : Byte) : CommandOk p b (sltClaimAt p n) := by
  intro s
  unfold sltClaimAt
  split
  · exact .refuse s _
  · split
    · exact .answer rfl (fun _ => by dsimp only; omega) (Nat.zero_le _)
    · exact .refuse s _

theorem sltRelease_ok (n : Byte) : CommandOk p b (sltRelease p n) := by
  refine .ownedSlot fun i s => ?_
  dsimp only
  split
  · exact .answer rfl (fun h => (h.refCount_le i).trans (by decide)) (Nat.zero_le _)
  · split
    · exact .refuse s _
    · exact .answer rfl (fun _ => by dsimp only; omega) (Nat.zero_le _)

theorem sltOpen_ok (n format : Byte) (width height : Half) : CommandOk p b (sltOpen p n format width height) := by
  refine .ownedSlot fun i s => ?_
  dsimp only
  split
  · exact .refuse s _
  split
  · exact .refuse s _
  split
  · exact .refuse s _
  split
  · exact .refuse s _
  split
  · exact .refuse s _
  · rename_i hmax
    exact .answer rfl (fun _ => (not_lt.mp hmax).trans (by decide)) (Nat.zero_le _)

/-- The write position stays within the image (R56). -/
theorem storePixels_writePos_le (x : Slot) (ps : List Pixel) (h : x.writePos ≤ x.width * x.height) :
    (storePixels x ps).writePos ≤ x.width * x.height := by
  simp only [storePixels, roomIn, List.length_take]
  omega

theorem storeAnswer_ok (i : Fin 64) (ps : List PayloadPixel) (tail : Bool) : CommandOk p b (storeAnswer i ps tail) :=
  fun s => .answer rfl (fun h => by
    obtain ⟨hpos, hmax⟩ := h.area_le i
    exact (storePixels_writePos_le _ _ hpos).trans (hmax.trans (by decide))) (Nat.le_add_left 2 6)

theorem sltData_ok (n : Byte) (data : List Byte) : CommandOk p b (sltData p n data) := by
  refine .writableSlot fun i s => ?_
  split
  · exact storeAnswer_ok p b i _ _ s
  · exact storeAnswer_ok p b i _ _ s

theorem sltFill_ok (n y cb cr : Byte) (count : Half) : CommandOk p b (sltFill p n y cb cr count) := by
  refine .writableSlot fun i s => ?_
  split
  · exact storeAnswer_ok p b i _ _ s
  · split
    · exact .refuse s _
    · exact storeAnswer_ok p b i _ _ s

theorem sltClose_ok (n : Byte) : CommandOk p b (sltClose p n) := by
  refine .ownedSlot fun i s => ?_
  dsimp only
  split
  · exact .refuse s _
  · split
    · exact .answer rfl (fun h => ((h.area_le i).1.trans (h.area_le i).2).trans (by decide)) (Nat.zero_le _)
    · exact .answer rfl (fun h => (h.area_le i).2.trans (by decide)) (Nat.zero_le _)

theorem sltInfo_ok (n : Byte) : CommandOk p b (sltInfo p n) := by
  intro s
  unfold sltInfo
  split
  · exact .refuse s _
  · exact .answer rfl (fun h => (h.refCount_le _).trans (by decide)) (by simp [slotInfo, natBytes_length])

/-! ### The palette (file 04) -/

theorem palClaim_ok (n : Byte) : CommandOk p b (palClaim p n) := by
  intro s
  unfold palClaim
  split
  · exact .refuse s _
  split
  · exact .refuse s _
  split
  · exact .answer rfl (fun _ => by dsimp only; omega) (Nat.zero_le _)
  · exact .refuse s _

theorem palRelease_ok (n : Byte) : CommandOk p b (palRelease p n) := by
  intro s
  unfold palRelease
  split
  · exact .refuse s _
  split
  · exact .refuse s _
  split
  · exact .answer rfl (fun _ => by dsimp only; omega) (Nat.zero_le _)
  · exact .refuse s _

theorem writeEntry_ok (n : Fin 256) (y cb cr alpha : Byte) : CommandOk p b (writeEntry p n y cb cr alpha) := by
  intro s
  unfold writeEntry
  split
  · exact .answer rfl (fun _ => by dsimp only; omega) (Nat.le_add_left 4 4)
  · exact .answer rfl (fun _ => by dsimp only; omega) (Nat.zero_le _)

theorem palSetcode_ok (c y cb cr alpha : Byte) : CommandOk p b (palSetcode p c y cb cr alpha) := by
  intro s
  unfold palSetcode
  split
  · exact writeEntry_ok p b _ y cb cr alpha s
  · exact .refuse s _

end

end Sys2Proof.Machine
end

section
/-! PROOFS. The commands of the trailer input, capture, timers, monitors and repeat blocks within their port's limits
(files 06 to 10), and so every command row. -/

namespace Sys2Proof.Machine

section
variable (p : Port) (b : Bool)

/-- A command whose writes are all some block's own leaves its port's limited fields. -/
theorem Writes.limited_of_other {s t : State} (h : Writes .other s t) : (t.port p).limited = (s.port p).limited :=
  h.limited nofun

/-! ### The trailer input (file 06) and capture (file 07) -/

theorem vinExtra_length (v : TrailerInput) : (vinExtra v).length = 8 := rfl

theorem vinClaim_ok : CommandOk p b (vinClaim p) := by
  intro s
  unfold vinClaim
  split
  · exact .answer rfl (fun _ => Nat.zero_le _) (vinExtra_length _).le
  · exact .answer rfl (fun _ => Nat.zero_le _) (vinExtra_length _).le

theorem vinRelease_ok : CommandOk p b (vinRelease p) :=
  .byHolder fun s => .answer (Writes.limited_of_other p (s.giveUpInput_writes (Writer.free_other.mayWrite _)))
    (fun _ => Nat.zero_le _) (Nat.zero_le _)

theorem vinFormat_ok (w h : Half) (settle : Byte) : CommandOk p b (vinFormat p w h settle) := by
  have hw (o : Option Port) : MayWrite .other o := Writer.free_other.mayWrite o
  refine .byHolder fun s => .answer ?_ (fun _ => Nat.zero_le _) (vinExtra_length _).le
  dsimp only
  split
  · rfl
  · exact Writes.limited_of_other (s := s.setVin _) p
      (State.setVin_moveLock_writes _ _ _ (hw _) (hw _) rfl rfl)

theorem vinEnable_ok (on : Byte) : CommandOk p b (vinEnable p on) := by
  have hw (o : Option Port) : MayWrite .other o := Writer.free_other.mayWrite o
  refine .byHolder fun s => ?_
  split
  · exact .refuse s _
  · refine .answer ?_ (fun _ => by dsimp only; omega) (vinExtra_length _).le
    split <;> split
    · exact Writes.limited_of_other p (s.inputOn_writes (hw _))
    · rfl
    · rfl
    · exact Writes.limited_of_other p (s.inputOff_writes (hw _))

theorem capEnable_ok (on : Byte) : CommandOk p b (capEnable p on) := by
  refine .byHolder fun s => ?_
  split
  · exact .refuse s _
  · rename_i on _
    refine .answer ?_ (fun _ => ?_) (vinExtra_length _).le
    · have h := s.setVin_writes { s.vin with captureEnabled := on } (Writer.free_other.mayWrite _) rfl rfl
      dsimp only
      split
      · exact Writes.limited_of_other p (h.trans (State.abortAll_writes _ _))
      · rfl
    · dsimp only
      split <;> omega

/-- A crop that passes its checks gives a thumbnail that a slot has room for (R123). -/
theorem Crop.area_le_of_fault {c : Crop} {v : TrailerInput} (h : c.fault v = none) :
    c.outWidth * c.outHeight ≤ 16384 := by
  unfold Crop.fault at h
  split at h
  · cases h
  split at h
  · cases h
  split at h
  · cases h
  · rename_i hfit
    exact (not_not.mp hfit).2.2

theorem fault_of_captureFault {s : State} {i : Fin 64} {c : Crop} (h : captureFault s p i c = none) :
    c.fault s.vin = none := by
  unfold captureFault at h
  dsimp only at h
  split at h
  · cases h
  split at h
  · cases h
  split at h
  · cases h
  split at h
  · cases h
  · assumption

theorem capRequest_ok (tag n : Byte) (x y w h : Half) (dx dy : Byte) :
    CommandOk p b (capRequest p tag n x y w h dx dy) := by
  refine .ownedSlot fun i s => ?_
  dsimp only
  split
  · exact .refuse s _
  · rename_i hf
    have harea := Crop.area_le_of_fault (fault_of_captureFault p hf)
    exact .answer (Writes.limited_of_other p (s.acceptRequest_writes _ _)) (fun _ => harea.trans (by decide))
      (Nat.le_add_left 5 3)

theorem capCancel_ok (n : Byte) : CommandOk p b (capCancel p n) := by
  intro s
  unfold capCancel
  split
  · exact .refuse s _
  split
  · exact .refuse s _
  split
  · exact .answer (Writes.limited_of_other p (s.cancelRequest_writes _)) (fun _ => by dsimp only; omega) (Nat.zero_le _)
  · exact .refuse s _

/-! ### Frame timers (file 08) -/

theorem tmrClaim_ok (n : Byte) : CommandOk p b (tmrClaim p n) := by
  intro s
  unfold tmrClaim
  split
  · exact .refuse s _
  split
  · exact .answer rfl (fun _ => by dsimp only; omega) (Nat.zero_le _)
  · exact .refuse s _

theorem tmrRelease_ok (n : Byte) : CommandOk p b (tmrRelease p n) :=
  .heldTimer fun _ _ => .answer rfl (fun _ => by dsimp only; omega) (Nat.zero_le _)

theorem tmrSetup_ok (n source prescaler : Byte) (reload : Half) (mode action : Byte) :
    CommandOk p b (tmrSetup p n source prescaler reload mode action) := by
  refine .heldTimer fun i s => ?_
  split
  · exact .refuse s _
  split
  · split
    · exact .refuse s _
    · exact .answer rfl (fun _ => by dsimp only; omega) (Nat.zero_le _)
  · exact .refuse s _

theorem tmrTemplate_ok (n : Byte) (x y w h : Half) (dx dy first count : Byte) :
    CommandOk p b (tmrTemplate p n x y w h dx dy first count) := by
  refine .heldTimer fun i s => ?_
  dsimp only
  split
  · exact .refuse s _
  split
  · exact .refuse s _
  rename_i hf
  split
  · exact .answer rfl (fun _ => (Crop.area_le_of_fault hf).trans (by decide)) (Nat.zero_le _)
  · exact .refuse s _

theorem startedTimer_count_le (m : FrameTimer) : (startedTimer m).count ≤ m.count := by
  unfold startedTimer
  split
  · exact Nat.zero_le _
  all_goals exact le_rfl

theorem tmrStart_ok (n : Byte) : CommandOk p b (tmrStart p n) := by
  refine .heldTimer fun i s => ?_
  have hcount (h : Bounded s) := (h.timer_le i).2.1
  dsimp only
  split
  · exact .answer rfl hcount (Nat.zero_le _)
  split
  · exact .refuse s _
  · exact .answer rfl (fun h => (startedTimer_count_le _).trans (hcount h)) (Nat.zero_le _)

theorem tmrStop_ok (n : Byte) : CommandOk p b (tmrStop p n) :=
  .heldTimer fun i _ => .answer rfl (fun h => (h.timer_le i).1) (Nat.zero_le _)

theorem tmrRead_ok (n : Byte) : CommandOk p b (tmrRead p n) := by
  intro s
  unfold tmrRead
  split
  · exact .refuse s _
  · rename_i i _
    refine .answer rfl (fun h => ?_) (by simp [timerInfo, natBytes_length])
    obtain ⟨_, hcount, hmeasured⟩ := h.timer_le i
    dsimp only
    split
    exacts [hmeasured, hcount]

/-! ### Layer freshness (file 09) -/

theorem touchThreshold_le {q period : Nat} (hq : q ≤ 4) (hp : period ≤ 4095) : touchThreshold q period ≤ 4095 := by
  have hmul : q * period ≤ 4 * 4095 := Nat.mul_le_mul hq hp
  unfold touchThreshold
  omega

theorem frsSetup_ok (l : Byte) (period : Half) (window action fallback : Byte) :
    CommandOk p b (frsSetup p l period window action fallback) := by
  refine .boundLayer fun i s => ?_
  dsimp only
  split
  · exact .refuse s _
  split
  · exact .refuse s _
  split
  · split
    · exact .refuse s _
    rename_i hrange
    split
    · exact .refuse s _
    · obtain ⟨_, hp, _, hw⟩ := not_not.mp hrange
      have hmove (new : Option (Fin 64)) := Writes.limited_of_other p (s.moveFallback_writes i new)
      exact .answer (hmove _)
        (fun _ => (touchThreshold_le hw hp).trans (by decide)) (Nat.zero_le _)
  · exact .refuse s _

theorem frsStart_ok (l : Byte) : CommandOk p b (frsStart p l) := by
  refine .boundLayer fun i s => ?_
  dsimp only
  split
  · exact .answer rfl (fun h => (h.monitor_le i).2.trans (by decide)) (Nat.zero_le _)
  · exact .answer rfl (fun h => (h.monitor_le i).1.trans (by decide)) (Nat.zero_le _)

theorem frsStop_ok (l : Byte) : CommandOk p b (frsStop p l) := by
  refine .boundLayer fun i s => ?_
  dsimp only
  split
  · exact .refuse s _
  · exact .answer rfl (fun h => (h.monitor_le i).1.trans (by decide)) (Nat.zero_le _)

theorem frsTouch_ok (l : Byte) : CommandOk p b (frsTouch p l) := by
  refine .boundLayer fun i s => ?_
  have hremaining (h : Bounded s) : (s.monitor i).remaining ≤ 65535 := (h.monitor_le i).2.trans (by decide)
  dsimp only
  split
  · exact .refuse s _
  split
  · exact .answer rfl hremaining (Nat.le_add_left 1 7)
  · have hw := s.expireMonitor_writes (w := .work (.monitor i)) i rfl
    exact .answer (hw.limited nofun) hremaining (Nat.le_add_left 1 7)

theorem frsLock_ok (l : Byte) : CommandOk p b (frsLock p l) := by
  intro s
  unfold frsLock
  split
  · exact .refuse s _
  · rename_i i _
    dsimp only
    split
    · exact .refuse s _
    split
    · exact .answer rfl (fun h => (h.monitor_le i).2.trans (by decide)) (Nat.le_add_left 1 7)
    · exact .refuse s _

/-! ### Repeat blocks (file 10) -/

/-- An effective pass count is from 1 to 64 (R166 to R168). -/
theorem effectivePasses_mem {r : RepeatRecord} {k : Byte} {n : Nat} (h : effectivePasses r k = some n)
    (hr : r.loopCount ≤ 64) : 1 ≤ n ∧ n ≤ 64 := by
  unfold effectivePasses at h
  split at h
  · split at h
    · cases h
    · rename_i h0
      obtain rfl := Option.some.inj h
      exact ⟨Nat.one_le_iff_ne_zero.mpr h0, hr⟩
  · rename_i h0
    obtain rfl := Option.some.inj h
    have hk : k.toNat ≠ 0 := fun e => h0 (BitVec.eq_of_toNat_eq e)
    change 1 ≤ min k.toNat 64 ∧ min k.toNat 64 ≤ 64
    omega

theorem spentLoop_le (r : RepeatRecord) (k : Byte) : spentLoop r k ≤ r.loopCount := by
  unfold spentLoop
  split
  · exact Nat.zero_le _
  · exact le_rfl

theorem rptBlock_ok (tag n k : Byte) : CommandOk p true (rptBlock p tag n k) := by
  intro s
  unfold rptBlock
  dsimp only
  split
  · exact .refuse s _
  rename_i hn
  obtain ⟨hn, hn'⟩ := not_not.mp hn
  split
  · exact .refuse s _
  rename_i passes hk
  refine ⟨?_, fun h => ⟨?_, Nat.zero_le _⟩⟩
  · rw [State.setRepeat, State.port_setPort]
    refine .rpt rfl _ fun hr hnone => ?_
    have hsum := hr.summary_of_none hnone
    obtain ⟨_, _, hloop, _, _, hdone, _⟩ := hr
    obtain ⟨h1, h64⟩ := effectivePasses_mem hk hloop
    exact ⟨⟨Nat.zero_le _, nofun, (spentLoop_le _ k).trans hloop, h1, h64, hdone, hsum, nofun, hn,
      (Nat.zero_add _).le.trans hn'⟩, hsum⟩
  · exact (effectivePasses_mem hk (h.loopCount_le p)).2.trans (by decide)

theorem rptAgain_ok (tag k : Byte) : CommandOk p true (rptAgain p tag k) := by
  intro s
  unfold rptAgain
  dsimp only
  split
  · exact .refuse s _
  rename_i hc
  split
  · exact .refuse s _
  rename_i passes hk
  refine ⟨?_, fun _ => ⟨Nat.zero_le _, Nat.zero_le _⟩⟩
  rw [State.setRepeat, State.port_setPort]
  refine .rpt rfl _ fun hr _ => ?_
  obtain ⟨hcache, hbar, hloop, hpass, hpass', _⟩ := hr
  obtain ⟨h1, h64⟩ := effectivePasses_mem hk hloop
  exact ⟨⟨hcache, hbar, (spentLoop_le _ k).trans hloop, hpass, hpass', Nat.zero_le _, nofun,
    (Nat.zero_add _).le.trans h64, fun _ => ⟨h1, List.length_pos_iff.mpr hc⟩⟩, rfl⟩

theorem rptLoop_ok (m : Byte) : CommandOk p true (rptLoop p m) := by
  intro s
  unfold rptLoop
  split
  · exact .answer rfl (fun h => (h.loopCount_le p).trans (by decide)) (Nat.zero_le _)
  · refine ⟨?_, fun _ => ⟨(Nat.min_le_right _ _).trans (by decide), Nat.zero_le _⟩⟩
    dsimp only
    rw [State.setRepeat, State.port_setPort]
    refine .rpt rfl _ fun hr hnone => ?_
    have hsum := hr.summary_of_none hnone
    obtain ⟨hcache, hbar, _, hrest⟩ := hr
    exact ⟨⟨hcache, hbar, Nat.min_le_right _ _, hrest⟩, hsum⟩

end

/-! ### Every command -/

theorem badFrame_ok (p : Port) (b : Bool) : CommandOk p b badFrame := fun s => .refuse s _

/-- Every command row keeps its port's limits, as far as R169 lets its frame be taken. -/
theorem commandOf_ok {i : Instr} {p : Port} {f : Frame} {op : CommandOp} (h : commandOf i = some (p, f, op)) :
    CommandOk p f.barred op := by
  cases i with
  | unknownCommand q tag code operands =>
    simp only [commandOf] at h
    split at h
    · cases h
    · cases h; exact badFrame_ok _ _
  | sltData q tag n data =>
    cases h
    split
    · exact sltData_ok _ _ n data
    · exact badFrame_ok _ _
  | lyrClaim => cases h; exact lyrClaim_ok _ _ _
  | lyrRelease => cases h; exact lyrRelease_ok _ _ _
  | lyrBegin => cases h; exact lyrBegin_ok _ _ _ _
  | lyrAttr => cases h; exact lyrAttr_ok _ _ _ _ _ _ _ _ _ _ _ _ _
  | lyrCommit => cases h; exact lyrCommit_ok _ _ _
  | lyrZ => cases h; exact lyrZ_ok _ _ _ _
  | backdrop => cases h; exact backdrop_ok _ _ _ _ _
  | plcAdd => cases h; exact plcAdd_ok _ _ _ _ _ _
  | plcCursor => cases h; exact plcCursor_ok _ _ _ _
  | curSet => cases h; exact curSet_ok _ _ _ _ _ _ _ _ _ _
  | clipPush => cases h; exact clipPush_ok _ _ _ _ _ _
  | clipPop => cases h; exact clipPop_ok _ _
  | palWindow => cases h; exact palWindow_ok _ _ _ _
  | sltClaim => cases h; exact sltClaim_ok _ _
  | sltClaimAt => cases h; exact sltClaimAt_ok _ _ _
  | sltRelease => cases h; exact sltRelease_ok _ _ _
  | sltOpen => cases h; exact sltOpen_ok _ _ _ _ _ _
  | sltFill => cases h; exact sltFill_ok _ _ _ _ _ _ _
  | sltClose => cases h; exact sltClose_ok _ _ _
  | sltInfo => cases h; exact sltInfo_ok _ _ _
  | palClaim => cases h; exact palClaim_ok _ _ _
  | palRelease => cases h; exact palRelease_ok _ _ _
  | palSet => cases h; exact writeEntry_ok _ _ _ _ _ _ _
  | palSetcode => cases h; exact palSetcode_ok _ _ _ _ _ _ _
  | vinClaim => cases h; exact vinClaim_ok _ _
  | vinRelease => cases h; exact vinRelease_ok _ _
  | vinFormat => cases h; exact vinFormat_ok _ _ _ _ _
  | vinEnable => cases h; exact vinEnable_ok _ _ _
  | capEnable => cases h; exact capEnable_ok _ _ _
  | capRequest => cases h; exact capRequest_ok _ _ _ _ _ _ _ _ _ _
  | capCancel => cases h; exact capCancel_ok _ _ _
  | tmrClaim => cases h; exact tmrClaim_ok _ _ _
  | tmrRelease => cases h; exact tmrRelease_ok _ _ _
  | tmrSetup => cases h; exact tmrSetup_ok _ _ _ _ _ _ _ _
  | tmrTemplate => cases h; exact tmrTemplate_ok _ _ _ _ _ _ _ _ _ _ _
  | tmrStart => cases h; exact tmrStart_ok _ _ _
  | tmrStop => cases h; exact tmrStop_ok _ _ _
  | tmrRead => cases h; exact tmrRead_ok _ _ _
  | frsSetup => cases h; exact frsSetup_ok _ _ _ _ _ _ _
  | frsStart => cases h; exact frsStart_ok _ _ _
  | frsStop => cases h; exact frsStop_ok _ _ _
  | frsTouch => cases h; exact frsTouch_ok _ _ _
  | frsLock => cases h; exact frsLock_ok _ _ _
  | rptBlock => cases h; exact rptBlock_ok _ _ _ _
  | rptAgain => cases h; exact rptAgain_ok _ _ _
  | rptLoop => cases h; exact rptLoop_ok _ _
  | _ => cases h

end Sys2Proof.Machine
end

section
/-! PROOFS. The executor and its repeat record, the links and every event within the limits of the ports (R35, R40, R166 to
R178), and so what every step keeps. -/

namespace Sys2Proof.Machine

/-! ### The executor (R166, R169 to R171, R177) -/

/-- The repeat record after a captured command (R169). -/
theorem RepeatOk.captured {r : RepeatRecord} {f : Frame} (h : RepeatOk r) (hs : r.state = .capturing)
    (hf : f.barred = false) : RepeatOk (captured r f) ∧ (captured r f).summary = none := by
  obtain ⟨_, hbar, hloop, hpass, hpass', hdone, hstate⟩ := h
  rw [hs] at hstate
  obtain ⟨hsum, hstart, hleft, hroom⟩ := hstate
  have hlen : (r.cache ++ [f]).length = r.cache.length + 1 := by simp
  have hcache : (r.cache ++ [f]).length ≤ Config.cacheMax := by omega
  have hbarred : ∀ g ∈ r.cache ++ [f], g.barred = false := by
    intro g hg
    rcases List.mem_append.mp hg with hg | hg
    · exact hbar g hg
    · obtain rfl := List.mem_singleton.mp hg
      exact hf
  unfold Machine.captured
  dsimp only
  split
  · split
    · exact ⟨⟨hcache, hbarred, hloop, hpass, hpass', hdone, hsum, rfl⟩, hsum⟩
    · refine ⟨⟨hcache, hbarred, hloop, hpass, hpass', Nat.zero_le _, hstart, ?_, fun _ => ⟨?_, ?_⟩⟩, rfl⟩
      all_goals dsimp only; omega
  · refine ⟨⟨hcache, hbarred, hloop, hpass, hpass', hdone, ?_⟩, hsum⟩
    dsimp only
    rw [hs]
    exact ⟨hsum, hstart, by omega, by omega⟩

/-- The repeat record after a replayed command (R170), with the summary record at the replay's end (R171). -/
theorem RepeatOk.replayed {r : RepeatRecord} (h : RepeatOk r) (hs : r.state = .replaying) (hn : r.summary = none)
    (f : Frame) (o : OutcomeCode) :
    RepeatOk (replayed r f o) ∧ ∀ x ∈ (replayed r f o).summary, x.fits := by
  obtain ⟨hcache, hbar, hloop, hpass, hpass', hdone, hstate⟩ := h
  rw [hs] at hstate
  obtain ⟨hstart, hsum, hgo⟩ := hstate
  obtain ⟨hleft, hplace⟩ := hgo hn
  have hmax : Config.passMax ≤ 65535 := by decide
  unfold Machine.replayed
  dsimp only
  split
  · split
    · rename_i hnext
      refine ⟨⟨hcache, hbar, hloop, hpass, hpass', hdone, ?_⟩, by rw [hn]; nofun⟩
      dsimp only
      rw [hs]
      exact ⟨hstart, hsum, fun _ => ⟨hleft, hnext⟩⟩
    · have hdone' : r.passesCompleted + 1 ≤ Config.passMax := by omega
      have hsum' : r.passesCompleted + 1 + (r.passesLeft - 1) ≤ Config.passMax := by omega
      split
      · refine ⟨⟨hcache, hbar, hloop, hpass, hpass', hdone', ?_⟩, ?_⟩
        · dsimp only
          rw [hs]
          exact ⟨hstart, hsum', nofun⟩
        · rintro _ ⟨⟩
          exact ⟨hdone'.trans hmax, Nat.zero_le _⟩
      · rename_i hmore
        refine ⟨⟨hcache, hbar, hloop, hpass, hpass', hdone', ?_⟩, by dsimp only; rw [hn]; nofun⟩
        dsimp only
        rw [hs]
        exact ⟨hstart, hsum', fun _ => ⟨Nat.one_le_iff_ne_zero.mpr hmore, (Nat.zero_le _).trans_lt hplace⟩⟩
  · refine ⟨⟨hcache, hbar, hloop, hpass, hpass', hdone, ?_⟩, ?_⟩
    · dsimp only
      rw [hs]
      exact ⟨hstart, hsum, nofun⟩
    · rintro _ ⟨⟩
      exact ⟨hdone.trans hmax, Nat.le_add_left 3 5⟩

/-- A port outside a block, its cache emptied or kept (R169, R171). -/
theorem RepeatOk.idle {r : RepeatRecord} (h : RepeatOk r) (cache : List Frame) (hc : cache = [] ∨ cache = r.cache)
    (place : Nat) : RepeatOk { r with cache := cache, state := .none, starter := none, place := place, summary := none } := by
  obtain ⟨hcache, hbar, hloop, hpass, hpass', hdone, _⟩ := h
  rcases hc with rfl | rfl
  · exact ⟨Nat.zero_le _, nofun, hloop, hpass, hpass', hdone, rfl, rfl⟩
  · exact ⟨hcache, hbar, hloop, hpass, hpass', hdone, rfl, rfl⟩

theorem RepeatOk.summary_of_capturing {r : RepeatRecord} (h : RepeatOk r) (hs : r.state = .capturing) :
    r.summary = none := by
  obtain ⟨_, _, _, _, _, _, hr⟩ := h
  rw [hs] at hr
  exact hr.1

section
variable {B : Prop} {p : Port} {f : Frame} {op : CommandOp} {s : State}

/-- A command and its record, with a ring that has room; R169 bars no frame outside a block. -/
theorem runPlain_limits (h : CommandOk p f.barred op) (hB : B → Bounded s) (hs : Limits B (s.port p))
    (hr : (s.port p).ring.length < Config.ringMax) (hb : f.barred = true → (s.port p).rpt.state = .none) :
    Limits B ((runPlain s p f op).port p) := by
  obtain ⟨hedit, hfits⟩ := h s
  have hop := hedit.limits hs hb
  unfold runPlain
  dsimp only
  split
  · exact hop
  · rw [State.port_pushRecord]
    exact hop.push (by rwa [hedit.lists.2]) _ fun b => hfits (hB b)

/-- A command that R169 does not bar leaves the repeat record, its record pushed or not. -/
theorem runPlain_rpt (h : CommandOk p false op) : ((runPlain s p f op).port p).rpt = (s.port p).rpt := by
  have hrpt := (h s).port.rpt_eq
  unfold runPlain
  dsimp only
  split
  · exact hrpt
  · rw [State.port_pushRecord]
    exact hrpt

theorem runCapturing_limits (h : CommandOk p f.barred op) (hB : B → Bounded s) (hs : Limits B (s.port p))
    (hr : (s.port p).ring.length < Config.ringMax) (hc : (s.port p).rpt.state = .capturing) :
    Limits B ((runCapturing s p f op).port p) := by
  have hrpt := hs.1.repeatOk
  unfold runCapturing
  split
  · have hsum := hrpt.summary_of_capturing hc
    have hidle := hrpt.idle [] (.inl rfl) (s.port p).rpt.place
    rw [← hsum] at hidle
    rw [State.port_pushRecord, State.setRepeat, State.port_setPort]
    refine (hs.setRepeat _ hidle fun _ => ?_).push hr _ fun _ => ⟨Nat.zero_le _, Nat.zero_le _⟩
    rw [hsum]
    nofun
  · rename_i hf
    have hf : f.barred = false := by simpa using hf
    rw [hf] at h
    obtain ⟨hok, hsum⟩ := hrpt.captured hc hf
    dsimp only
    rw [State.setRepeat, State.port_setPort, runPlain_rpt h]
    refine (runPlain_limits (hf ▸ h) hB hs hr fun e => ?_).setRepeat _ hok fun _ => ?_
    · rw [hf] at e; cases e
    · rw [hsum]; nofun

theorem runReplayed_limits (h : CommandOk p false op) (hs : Limits B (s.port p))
    (hc : (s.port p).rpt.state = .replaying) (hn : (s.port p).rpt.summary = none) :
    Limits B ((runReplayed s p f op).port p) := by
  have hedit := (h s).port
  unfold runReplayed
  dsimp only
  rw [State.setRepeat, State.port_setPort, hedit.rpt_eq]
  obtain ⟨hok, hfit⟩ := hs.1.repeatOk.replayed hc hn f (op s).2.outcome
  exact (hedit.limits hs nofun).setRepeat _ hok fun _ => hfit

/-- A frame from the queue has room for its record and no replay stands (R177). -/
theorem grant_queue (h : grant s p f = .queue) :
    (s.port p).ring.length < Config.ringMax ∧ (s.port p).rpt.state ≠ .replaying := by
  unfold grant at h
  dsimp only at h
  split at h
  · cases h
  split at h
  · split at h <;> cases h
  all_goals
    rename_i hs
    split at h
    · rename_i hq
      exact ⟨hq.1, by rw [hs]; nofun⟩
    · cases h

/-- A frame from the cache is the next of a replay that has no summary yet (R170). -/
theorem grant_cache (h : grant s p f = .cache) :
    (s.port p).rpt.state = .replaying ∧ (s.port p).rpt.summary = none ∧ f ∈ (s.port p).rpt.cache := by
  unfold grant at h
  dsimp only at h
  split at h
  · cases h
  split at h
  · rename_i hs
    split at h
    · rename_i hq
      exact ⟨hs, hq.1, List.mem_of_getElem? hq.2⟩
    · cases h
  all_goals split at h <;> cases h

/-- Taking a command keeps its port within the limits. -/
theorem takeCommand_limits (h : CommandOk p f.barred op) (hB : B → Bounded s) (hs : Limits B (s.port p)) :
    Limits B ((takeCommand p f op s).port p) := by
  have hd : Limits B ((s.dropHead p).port p) := by
    rw [State.port_dropHead]
    exact hs.dropHead
  have hBd : B → Bounded (s.dropHead p) := fun b => (hB b).dropHead p
  rcases takeCommand_cases p f op s with ⟨_, e⟩ | ⟨hg, hc, e⟩ | ⟨hg, hc, e⟩ | ⟨hg, e⟩ <;> rw [e]
  · exact hs
  · refine runCapturing_limits h hBd hd ?_ ?_ <;> rw [State.port_dropHead]
    exacts [(grant_queue hg).1, hc]
  · obtain ⟨hroom, hr⟩ := grant_queue hg
    refine runPlain_limits h hBd hd ?_ fun _ => ?_ <;> rw [State.port_dropHead]
    · exact hroom
    · cases hst : (s.port p).rpt.state with
      | none => rfl
      | capturing => exact absurd hst hc
      | replaying => exact absurd hst hr
  · obtain ⟨hc, hn, hf⟩ := grant_cache hg
    obtain ⟨_, hbar, _⟩ := hs.1.repeatOk
    exact runReplayed_limits (hbar f hf ▸ h) hs hc hn

end

/-! ### The links (R174 to R176, R178, R183) -/

section
variable {B : Prop} {s : State} (p : Port)

theorem Limits.raise (hs : Limits B (s.port p)) (f : EventFlag) : Limits B ((s.raise p f).port p) :=
  hs.of_limited_eq (s.limited_setPort p p _ rfl)

/-- A queue that was not full when select was asserted still has room at the release (R175, R176). -/
theorem latchOf_queueFull {x : PortState} (hx : linkFits x) (kind : Byte) (h : (latchOf x kind).queueFull = false) :
    x.queue.length < Config.queueMax := by
  unfold linkFits at hx
  unfold latchOf at h
  split at hx <;> rename_i hl <;> rw [hl] at h
  · exact hx
  · split at h <;> rename_i he <;> cases he <;> cases h
  all_goals simpa [PortState.queueFull] using h

/-- A frame joins a queue that has room (R176). -/
theorem Limits.joinQueue {x : PortState} (hx : Limits B x) (hl : x.link = .idle) (hq : x.queue.length < Config.queueMax)
    (f : Frame) : Limits B { x with queue := x.queue ++ [f] } := by
  obtain ⟨⟨_, _, hrest⟩, hrec⟩ := hx
  refine ⟨⟨by simpa using hq, ?_, hrest⟩, hrec⟩
  unfold linkFits
  dsimp only
  rw [hl]
  trivial

/-- The oldest record leaves the ring (R178). -/
theorem Limits.dropRecord {x : PortState} (hx : Limits B x) : Limits B { x with ring := x.ring.tail } := by
  obtain ⟨⟨hq, hl, hring, hrest⟩, hrec⟩ := hx
  have hle : x.ring.tail.length ≤ x.ring.length := by simp
  refine ⟨⟨hq, hl, hle.trans hring, hrest⟩, fun b => ?_⟩
  obtain ⟨hfit, hsum⟩ := hrec b
  exact ⟨fun r hr => hfit r (List.mem_of_mem_tail hr), hsum⟩

theorem State.portReset_limits (s : State) : Limits B ((s.portReset p).port p) := by
  unfold State.portReset
  rw [State.resetPortState, State.port_setPort]
  exact Limits.reset _ _

theorem transactionEffect_limits (hs : Limits B (s.port p)) (hl : (s.port p).link = .idle) (l : Latch)
    (hq : l.queueFull = false → (s.port p).queue.length < Config.queueMax) (kind : Kind) (bytes : List Byte) :
    Limits B ((transactionEffect s p kind bytes l).port p) := by
  unfold transactionEffect
  cases kind with
  | cmd =>
    dsimp only
    unfold State.joinQueue
    split
    · exact hs.raise p _
    · rename_i hf
      rw [State.port_setPort]
      exact hs.joinQueue hl (hq (by simpa using hf)) _
  | res =>
    dsimp only
    split
    · rw [State.port_setPort]
      exact hs.dropRecord
    · exact hs
  | caprep =>
    dsimp only
    split
    · exact hs.of_limited_eq (s.limited_setPort p p _ rfl)
    · exact hs
  | evt | stat => exact hs
  | ack | mask => exact hs.of_limited_eq (s.limited_setPort p p _ rfl)
  | prst => exact s.portReset_limits p

/-- A link transaction keeps its port within the limits. -/
theorem linkTransaction_limits (hs : Limits B (s.port p)) (bytes : List Byte) :
    Limits B ((linkTransaction p bytes s).port p) := by
  have hclosed (out : List Byte) : Limits B ((s.closeLink p out).port p) := by
    rw [State.closeLink, State.port_setPort]
    exact hs.closeLink out
  unfold linkTransaction
  split
  · rw [State.port_setPort]
    exact hs.closeLink _
  split
  · exact hclosed _
  rename_i kind _
  dsimp only
  split
  · exact (hclosed _).raise p _
  split
  · refine transactionEffect_limits p (hclosed _) ?_ _ (fun h => ?_) _ _ <;> rw [State.closeLink, State.port_setPort]
    obtain ⟨_, hfits, _⟩ := hs.1
    have hroom := latchOf_queueFull hfits kind h
    exact hroom
  · exact (hclosed _).raise p _

/-- Select asserted fixes whether the queue is full (R174, R176). -/
theorem openLink_limits {x : PortState} (hx : Limits B x) (l : Link)
    (hl : ∀ st reply, l = .selected st false reply → x.queue.length < Config.queueMax) : Limits B { x with link := l } := by
  obtain ⟨⟨hq, _, hrest⟩, hrec⟩ := hx
  refine ⟨⟨hq, ?_, hrest⟩, hrec⟩
  unfold linkFits
  dsimp only
  split
  · exact hl _ _ rfl
  all_goals trivial

end

/-! ### Every event -/

/-- What a step may make of the ports: each of them kept within its limits. -/
def PortsLimited (B : Prop) (s : State) : Prop := ∀ q, Limits B (s.port q)

theorem PortsLimited.of_limited_eq {B : Prop} {s t : State} (hs : PortsLimited B s)
    (h : ∀ q, (t.port q).limited = (s.port q).limited) : PortsLimited B t := fun q => (hs q).of_limited_eq (h q)

/-- Events that are no port's. -/
theorem PortsLimited.of_writes {B : Prop} {s t : State} {w : Writer} (hs : PortsLimited B s) (hw : w.free)
    (h : Writes w s t) : PortsLimited B t := hs.of_limited_eq fun q => h.limited (hw q)

/-- A port's own event, its own record accounted for. -/
theorem PortsLimited.of_port {B : Prop} {s t : State} {p : Port} (hs : PortsLimited B s) (h : Writes (.port p) s t)
    (hp : Limits B (t.port p)) : PortsLimited B t := by
  intro q
  by_cases hq : q = p
  · subst hq; exact hp
  · exact (hs q).of_limited_eq (h.limited fun e => hq (by cases e; rfl))

theorem summaryRecord_limits {B : Prop} {s : State} (hs : PortsLimited B s) (p : Port) :
    ∃ t, execSummaryRecord p s = .next t ∧ PortsLimited B t := by
  refine ⟨_, rfl, ?_⟩
  split
  · exact hs
  rename_i r hr
  split
  · rename_i hroom
    refine hs.of_port (p := p) ((State.setPort_writes s p _).trans (State.setPort_writes _ p _)) ?_
    have hidle := (hs p).1.repeatOk.idle _ (.inr rfl) 0
    have hset := (hs p).setRepeat _ hidle fun _ => nofun
    rw [State.port_pushRecord, State.setRepeat, State.port_setPort]
    exact hset.push hroom r fun b => ((hs p).2 b).2 r hr
  · exact hs

theorem selectAsserted_limits {B : Prop} {s : State} (hs : PortsLimited B s) (p : Port) (kind : Option Byte) :
    ∃ t, execSelectAsserted p kind s = .next t ∧ PortsLimited B t := by
  have hset (x : PortState) (hx : Limits B x) : PortsLimited B (s.setPort p x) :=
    hs.of_port (s.setPort_writes p x) (by rwa [State.port_setPort])
  refine ⟨_, rfl, ?_⟩
  split
  · refine hset _ (openLink_limits (hs p) _ fun st reply h => ?_)
    split at h
    · cases h
    · obtain ⟨_, hfull, _⟩ := Link.selected.inj h
      simpa [PortState.queueFull] using hfull
  · rename_i st full k hl
    refine hset _ (openLink_limits (hs p) _ fun st' reply h => ?_)
    obtain ⟨_, rfl, _⟩ := Link.selected.inj h
    obtain ⟨⟨_, hfits, _⟩, _⟩ := hs p
    rw [linkFits, hl] at hfits
    exact hfits
  · exact hs
  · exact hs

/-- The ports once RESET is asserted (R184). -/
theorem State.pinReset_limits (B : Prop) (s : State) : PortsLimited B s.pinReset := by
  intro q
  rw [State.port_pinReset]
  exact Limits.reset _ _

/-- Every event keeps every port within its limits. -/
theorem exec_limits {B : Prop} (c : Instr) {s : State} (hB : B → Bounded s) (hs : PortsLimited B s) :
    ∃ t, exec c s = .next t ∧ PortsLimited B t := by
  cases hc : commandOf c with
  | some q =>
    obtain ⟨p, f, op⟩ := q
    exact ⟨_, exec_of_commandOf hc s, hs.of_port (takeCommand_writes p f op (commandOf_writes hc) s)
      (takeCommand_limits (commandOf_ok hc) hB (hs p))⟩
  | none =>
    have hfree (k : FrameWork) := Writer.free_work k
    cases c with
    | cmd p | res p | caprep p | evt p | ack p | mask p | stat p | prst p | invalidTransaction p =>
      exact ⟨_, rfl, hs.of_port (linkTransaction_writes p _ s) (linkTransaction_limits p (hs p) _)⟩
    | unknownCommand p tag code operands =>
      have hk : (Frame.mk tag code operands).known = true := by
        by_contra h
        simp [commandOf, h] at hc
      exact ⟨s, by simp [exec, execUnknownCommand, hk], hs⟩
    | summaryRecord p => exact summaryRecord_limits hs p
    | selectAsserted p kind => exact selectAsserted_limits hs p kind
    | resetAsserted => exact ⟨_, rfl, s.pinReset_limits B⟩
    | resetReleased => exact ⟨_, rfl, hs⟩
    | outputFrameStart order =>
      refine ⟨_, rfl, ?_⟩
      split
      · exact hs
      · exact List.foldlRecOn (motive := PortsLimited B) _ _ hs fun u hu k _ =>
          hu.of_writes (hfree k) (frameWork_writes u k)
    | silenceLimit =>
      refine ⟨_, rfl, ?_⟩
      split
      · exact hs.of_writes (hfree .silence) ((s.silenceWork_writes (hfree _)).trans (Write.frameTaken _).writes)
      · exact hs
    | monitorExpiry l =>
      refine ⟨_, rfl, ?_⟩
      split
      · exact hs
      · have hw := s.monitorWork_writes (w := .work (.monitor l)) l rfl
        exact hs.of_writes (hfree (.monitor l)) (hw.trans (Write.frameTaken _).writes)
    | timerExpiry t =>
      refine ⟨_, rfl, ?_⟩
      split
      · exact hs
      · exact hs.of_writes (hfree (.timer t)) ((s.countTimer_writes (hfree _) t false).trans (Write.frameTaken _).writes)
    | captureTakeover =>
      refine ⟨_, rfl, ?_⟩
      split
      · exact hs.of_writes (hfree .takeover) ((s.takeoverWork_writes (hfree _)).trans (Write.frameTaken _).writes)
      · exact hs
    | capActivate => exact ⟨_, rfl, hs.of_writes Writer.free_other (s.activate_writes false)⟩
    | firstFrameMark =>
      refine ⟨_, rfl, ?_⟩
      split
      · exact hs.of_writes Writer.free_other (s.firstMark_writes Writer.free_other)
      · exact hs
    | inputFrameEnd bus order =>
      refine ⟨_, rfl, ?_⟩
      split
      · exact hs
      split
      · exact hs.of_writes Writer.free_other (s.firstMark_writes Writer.free_other)
      · exact hs.of_writes Writer.free_mark (s.frameEnd_writes _ _ _)
    | _ => cases hc

/-- Every step keeps every port within its limits, and its records where the state's counts are bounded. -/
theorem step_limits {B : Prop} {s s' : State} (hB : B → Bounded s) (hs : PortsLimited B s) (h : step s = .next s') :
    PortsLimited B s' := by
  unfold step at h
  split at h
  · cases h; exact hs
  · rename_i c rest _
    have hBounded (b : B) : Bounded { s with pending := rest } := by
      obtain ⟨hpool, hrefs, hslots, htimers, hmonitors, hports⟩ := hB b
      exact ⟨hpool, hrefs, hslots, htimers, hmonitors, hports⟩
    obtain ⟨t, ht, hlim⟩ := exec_limits c (s := { s with pending := rest }) hBounded hs
    obtain rfl := Host.Outcome.next.inj (ht.symm.trans h)
    exact hlim

/-- Settles O58: a step writes a port's limited fields through its executor and its link alone. -/
theorem portsStayWithinTheirLimits : Obligations.PortsStayWithinTheirLimits := by
  refine ⟨fun s s' hs h q => ?_, fun s s' hpool hrefs hslots htimers hmonitors hports hrecords h q => ?_⟩
  · have hlim : PortsLimited False s' := step_limits nofun (fun q => ⟨hs q, nofun⟩) h
    exact (hlim q).1
  · have hlim : PortsLimited True s' := step_limits (fun _ => ⟨hpool, hrefs, hslots, htimers, hmonitors, hports⟩)
      (fun q => ⟨hports q, fun _ => hrecords q⟩) h
    exact (hlim q).2 trivial

end Sys2Proof.Machine
end

section
/-! PROOFS. The commands of placements, cursors, clips and window pointers (R28 to R42, R82). -/

namespace Sys2Proof.Machine

/-! ### A command that writes its port -/

/-- A record joins the ring after a write of the port's other fields, or before it. -/
theorem State.setPort_pushRecord (s : State) (p : Port) (x : PortState) (r : ResultRecord) :
    (s.setPort p x).pushRecord p r = (s.pushRecord p r).setPort p { x with ring := x.ring ++ [r] } := by
  simp [State.pushRecord]

/-- The port that has answered, before its command writes it (R177). -/
theorem State.port_answered (s : State) (p : Port) (f : Frame) (o : OutcomeCode) (v : Nat) (x : List Byte) :
    (s.answered p f o v x).port p =
      { (s.dropHead p).port p with ring := ((s.dropHead p).port p).ring ++ [⟨f.tag, f.code, o, v, x⟩] } := by
  rw [State.answered, State.port_pushRecord]

/-- A command row whose operation writes its port's record alone: the write `g` leaves the ring, so it may come after
the answer (R177). -/
theorem exec_setPort {i : Instr} {p : Port} {f : Frame} {op : CommandOp} {s : State} (g : PortState → PortState)
    (o : OutcomeCode) (v : Nat) (e : List Byte) (hc : commandOf i = some (p, f, op)) (ht : Takes s p f)
    (hg : ∀ x ring, g { x with ring := ring } = { g x with ring := ring })
    (hop : op (s.dropHead p) =
      ((s.dropHead p).setPort p (g ((s.dropHead p).port p)), { outcome := o, value := v, extra := e })) :
    exec i s = .next ((s.answered p f o v e).setPort p (g ((s.answered p f o v e).port p))) := by
  have hring (x : PortState) : (g x).ring = x.ring := by
    have h := congrArg PortState.ring (hg x x.ring)
    exact h
  rw [exec_answered _ o v e hc ht hop, State.setPort_pushRecord, hring, State.port_answered]
  exact congrArg (fun x => Host.Outcome.next ((s.answered p f o v e).setPort p x)) (hg _ _).symm

/-! ### Operand bytes of two values -/

theorem byte_eq_zero_or_one {k : Byte} (h : k.toNat < 2) : k = 0 ∨ k = 1 := by
  have : k.toNat = 0 ∨ k.toNat = 1 := by omega
  exact this.imp (fun e => BitVec.eq_of_toNat_eq e) (fun e => BitVec.eq_of_toNat_eq e)

theorem not_zero_or_one {k : Byte} (h : 2 ≤ k.toNat) : ¬ (k = 0 ∨ k = 1) := by
  rintro (rfl | rfl) <;> simp at h

theorem sliceOf_of_le {b : Byte} (h : 32 ≤ b.toNat) : sliceOf b = none := by simp [sliceOf, h]

theorem sliceOf_of_eq {b : Byte} {n : Fin 32} (h : b.toNat = n.val) : sliceOf b = some n := by simp [sliceOf, h]

/-! ### The clip stack (R40 to R42) -/

/-- The entry that CLIP_PUSH pushes on the top entry `top` (R41). -/
theorem clampRect_meet (x0 y0 x1 y1 : Int) (top : Rect) : (clampRect x0 y0 x1 y1).meet top =
    ⟨max (into 0 959 x0).toNat top.x0, max (into 0 539 y0).toNat top.y0,
      min (into 0 959 x1).toNat top.x1, min (into 0 539 y1).toNat top.y1⟩ := by
  simp only [Rect.meet, clampRect, clampCoord, Nat.cast_ofNat, clampInt_eq_into 0 959 _ (by decide),
    clampInt_eq_into 0 539 _ (by decide)]

theorem currentClip_eq (x : PortState) : currentClip x = match x.clips with
    | [] => Rect.raster
    | r :: _ => r := by
  unfold currentClip
  cases x.clips <;> rfl

/-- CLIP_PUSH with room on the stack (R41). -/
theorem clipPush_of_room {p : Port} {x0 y0 x1 y1 : Half} {s : State} {e : Rect}
    (h : (s.port p).clips.length < Config.clipMax)
    (he : e = (clampRect x0.toInt y0.toInt x1.toInt y1.toInt).meet (currentClip (s.port p))) :
    clipPush p x0 y0 x1 y1 s = (s.setPort p { s.port p with clips := e :: (s.port p).clips },
      { outcome := okIf (0 ≤ x0.toInt ∧ x0.toInt ≤ 959 ∧ 0 ≤ y0.toInt ∧ y0.toInt ≤ 539 ∧ 0 ≤ x1.toInt
          ∧ x1.toInt ≤ 959 ∧ 0 ≤ y1.toInt ∧ y1.toInt ≤ 539)
        value := (s.port p).clips.length + 1, extra := rectBytes e }) := by
  unfold clipPush
  dsimp only
  rw [if_neg (not_le.mpr h), ← he,
    clampOutcome_eq_okIf ((rectUnclamped_iff _ _ _ _).trans (by simp only [and_assoc]; exact Iff.rfl))]

theorem clipPop_of_cons {p : Port} {s : State} {r : Rect} {rest : List Rect} (h : (s.port p).clips = r :: rest) :
    clipPop p s = (s.setPort p { s.port p with clips := rest }, { outcome := .ok, value := rest.length }) := by
  unfold clipPop
  dsimp only
  rw [h]

theorem State.clips_dropHead (s : State) (p : Port) : ((s.dropHead p).port p).clips = (s.port p).clips := by
  rw [State.port_dropHead]

theorem State.currentClip_dropHead (s : State) (p : Port) : currentClip ((s.dropHead p).port p) = currentClip (s.port p) := by
  rw [currentClip, State.clips_dropHead, currentClip]

/-- Settles O19. -/
theorem clipStackPushesTheMeetAndPops : Obligations.ClipStackPushesTheMeetAndPops := by
  refine ⟨?_, fun p tag s ht => ⟨fun hempty => ?_, fun r rest hclips => ?_⟩⟩
  · intro p tag x0 y0 x1 y1 s ht f i top
    refine ⟨fun hfull => exec_refused rfl ht ?_, fun hroom =>
      ⟨(clampRect x0.toInt y0.toInt x1.toInt y1.toInt).meet top, clampRect_meet _ _ _ _ top, ?_⟩⟩
    · unfold clipPush
      dsimp only
      rw [State.clips_dropHead, if_pos hfull]
    · refine exec_setPort (fun x => { x with clips := _ :: (s.port p).clips }) _ _ _ rfl ht (fun _ _ => rfl) ?_
      rw [← State.clips_dropHead] at hroom ⊢
      exact clipPush_of_room hroom (congrArg (Rect.meet _) ((s.currentClip_dropHead p).trans (currentClip_eq _)).symm)
  · refine exec_refused rfl ht ?_
    unfold clipPop
    dsimp only
    rw [State.clips_dropHead, hempty]
  · refine exec_setPort (fun x => { x with clips := rest }) _ _ _ rfl ht (fun _ _ => rfl) ?_
    exact clipPop_of_cons (by rw [State.clips_dropHead, hclips])

/-! ### Loading a cursor and a window pointer (R36, R82) -/

/-- The cursor that the operands of CUR_SET give, each brought into its range (R36). -/
def cursorOperands (x y dx dy : Half) (columns slot fade : Byte) : Cursor where
  x := into (-2048) 2047 x.toInt
  y := into (-2048) 2047 y.toInt
  x0 := into (-2048) 2047 x.toInt
  dx := into (-1024) 1023 dx.toInt
  dy := into (-1024) 1023 dy.toInt
  columns := max 1 (min 16 columns.toNat)
  column := 0
  slot := clampSlot slot
  step := into (-8) 8 fade.toInt

/-- A port with one cursor replaced. -/
def PortState.withCursor (x : PortState) (k : Byte) (c : Cursor) : PortState :=
  { x with cursor0 := if k = 0 then c else x.cursor0, cursor1 := if k = 0 then x.cursor1 else c }

theorem State.setCursor_eq (s : State) (p : Port) (k : Byte) (c : Cursor) :
    s.setCursor p k c = s.setPort p ((s.port p).withCursor k c) := by
  unfold State.setCursor PortState.withCursor
  split <;> rfl

theorem clampSlot_eq_self_iff (b : Byte) : (clampSlot b).val = b.toNat ↔ b.toNat ≤ 63 := by
  simp only [clampSlot]
  omega

theorem curSet_of_lt {p : Port} {k : Byte} {x y dx dy : Half} {columns slot fade : Byte} {s : State} (hk : k.toNat < 2) :
    curSet p k x y dx dy columns slot fade s =
      (s.setPort p ((s.port p).withCursor k (cursorOperands x y dx dy columns slot fade)),
        { outcome := okIf (-2048 ≤ x.toInt ∧ x.toInt ≤ 2047 ∧ -2048 ≤ y.toInt ∧ y.toInt ≤ 2047
            ∧ -1024 ≤ dx.toInt ∧ dx.toInt ≤ 1023 ∧ -1024 ≤ dy.toInt ∧ dy.toInt ≤ 1023
            ∧ 1 ≤ columns.toNat ∧ columns.toNat ≤ 16 ∧ slot.toNat ≤ 63 ∧ -8 ≤ fade.toInt ∧ fade.toInt ≤ 8)
          value := k.toNat }) := by
  rw [curSet, if_pos (byte_eq_zero_or_one hk)]
  dsimp only
  rw [State.setCursor_eq]
  refine Prod.ext ?_ (congrArg (fun o => ({ outcome := o, value := k.toNat } : Answer)) (clampOutcome_eq_okIf ?_))
  · simp only [cursorOperands, clampPos, clampNat_eq 1 16 _ (by decide), clampInt_eq_into (-2048) 2047 _ (by decide),
      clampInt_eq_into (-1024) 1023 _ (by decide), clampInt_eq_into (-8) 8 _ (by decide)]
  · simp only [Bool.and_eq_true, decide_eq_true_eq, clampPos, clampInt_eq_self_iff (-2048) 2047 _ (by decide),
      clampInt_eq_self_iff (-1024) 1023 _ (by decide), clampInt_eq_self_iff (-8) 8 _ (by decide),
      clampNat_eq_self_iff 1 16 _ (by decide), clampSlot_eq_self_iff, and_assoc]

/-- PAL_WINDOW on a window pointer and a slice that there are (R82). -/
theorem palWindow_of_lt {p : Port} {w slice : Byte} {s : State} {n : Fin 32} (hn : slice.toNat = n.val) (hw : w.toNat < 2) :
    palWindow p w slice s =
      (s.setPort p { s.port p with
          wp0 := if w = 0 then n else (s.port p).wp0, wp1 := if w = 0 then (s.port p).wp1 else n },
        { outcome := .ok, value := n.val
          extra := [natByte (if w = 0 then n else (s.port p).wp0).val,
            natByte (if w = 0 then (s.port p).wp1 else n).val] }) := by
  unfold palWindow
  rw [sliceOf_of_eq hn]
  dsimp only
  rw [if_pos (byte_eq_zero_or_one hw)]
  split <;> rfl

/-- Settles O18. -/
theorem cursorSetAndWindowLoadThePort : Obligations.CursorSetAndWindowLoadThePort := by
  refine ⟨?_, ?_⟩
  · intro p tag k x y dx dy columns slot fade s ht f i
    refine ⟨fun hk => ?_, fun hk => ⟨cursorOperands x y dx dy columns slot fade, rfl, min_comm _ _, ?_⟩⟩
    · exact exec_refused rfl ht (by rw [curSet, if_neg (not_zero_or_one hk)])
    have hexec := exec_setPort (fun q => q.withCursor k (cursorOperands x y dx dy columns slot fade)) _ _ _ (i := i) rfl ht
      (fun _ _ => rfl) (curSet_of_lt hk)
    simpa only [PortState.withCursor, State.port_answered, State.port_dropHead] using hexec
  · intro p tag w slice s ht f
    refine ⟨fun hbad => exec_refused rfl ht ?_, fun n hn hw => ?_⟩
    · unfold palWindow
      split
      · rfl
      · rename_i n hn
        refine if_neg (not_zero_or_one (hbad.resolve_right fun h => ?_))
        rw [sliceOf_of_le h] at hn
        cases hn
    · intro a b
      refine exec_setPort (fun x => { x with wp0 := a, wp1 := b }) _ _ _ rfl ht (fun _ _ => rfl) ?_
      rw [palWindow_of_lt hn hw]
      simp only [State.port_dropHead, a, b]

end Sys2Proof.Machine
end

section
/-! PROOFS. PLC_ADD and PLC_CURSOR (R28 to R32, R35, R37 to R39). -/

namespace Sys2Proof.Machine

/-! ### The checks of R31 from step 7 on, and the placement of R32 -/

section
variable {p : Port} {n : Fin 8} {j : Fin 64} {x y : Int} {r : PendingRecord} {s : State}

theorem place_of_vin (h : r.attrs.source = .vin) : place p n j x y r s = (s, refuse .badArg) := by
  simp [place, h]

theorem place_of_free (hp : r.attrs.source = .placements) (h : (s.slot j).state = .free) :
    place p n j x y r s = (s, refuse .slotState) := by
  simp [place, hp, h]

theorem place_of_full (hp : r.attrs.source = .placements) (hf : (s.slot j).state ≠ .free)
    (h : Config.listMax ≤ r.list.length) : place p n j x y r s = (s, refuse .layerFull) := by
  rw [place, if_neg (by simp [hp]), if_neg hf, if_pos h]

theorem place_of_poolEmpty (hp : r.attrs.source = .placements) (hf : (s.slot j).state ≠ .free)
    (hl : r.list.length < Config.listMax) (h : s.poolFree = []) : place p n j x y r s = (s, refuse .poolEmpty) := by
  rw [place, if_neg (by simp [hp]), if_neg hf, if_neg (not_le.mpr hl), h]

/-- The placement that port `p` gives at a position brought into its range (R28, R29, R32). -/
def State.placed (s : State) (p : Port) (e : Fin 128) (j : Fin 64) (x y : Int) : Placement :=
  ⟨e, j, into (-2048) 2047 x, into (-2048) 2047 y, (s.port p).clips.head?, (s.port p).wp0, (s.port p).wp1⟩

/-- The placement at the end of layer `n`'s pending list, with its reference (R32, R62). -/
def State.withPlaced (s : State) (n : Fin 8) (r : PendingRecord) (e : Placement) : State :=
  (s.setLayer n { s.layer n with staged := some { r with list := r.list ++ [e] } }).setSlot e.slot
    { s.slot e.slot with refCount := (s.slot e.slot).refCount + 1 }

theorem place_of_admitted {e : Fin 128} (hp : r.attrs.source = .placements) (hf : (s.slot j).state ≠ .free)
    (hl : r.list.length < Config.listMax) (h : s.poolFree.head? = some e) : place p n j x y r s =
      (s.withPlaced n r (s.placed p e j x y),
        { outcome := okIf (-2048 ≤ x ∧ x ≤ 2047 ∧ -2048 ≤ y ∧ y ≤ 2047), value := e.val
          extra := placementExtra (s.placed p e j x y) }) := by
  obtain ⟨rest, hfree⟩ := List.head?_eq_some_iff.mp h
  have hplaced : placementOf (s.port p) e j x y = s.placed p e j x y := by
    simp only [placementOf, State.placed, clampPos, clampInt_eq_into (-2048) 2047 _ (by decide)]
  have hkept : (decide ((placementOf (s.port p) e j x y).px = x) && decide ((placementOf (s.port p) e j x y).py = y)) = true
      ↔ -2048 ≤ x ∧ x ≤ 2047 ∧ -2048 ≤ y ∧ y ≤ 2047 := by
    simp only [placementOf, clampPos, Bool.and_eq_true, decide_eq_true_eq, clampInt_eq_self_iff (-2048) 2047 _ (by decide),
      and_assoc]
  rw [place, if_neg (by simp [hp]), if_neg hf, if_neg (not_le.mpr hl), hfree]
  dsimp only
  rw [clampOutcome_eq_okIf hkept, hplaced]
  rfl

end

theorem State.poolFree_dropHead (s : State) (p : Port) : (s.dropHead p).poolFree = s.poolFree :=
  State.poolFree_of_layers_eq rfl

/-- Settles O16. -/
theorem placementAddChecksThenAppends : Obligations.PlacementAddChecksThenAppends := by
  intro p tag l slot x y n s ht hn ho hb f i
  have hown {k : Fin 8 → CommandOp} : ownedLayer p l k (s.dropHead p) = k n (s.dropHead p) := ownedLayer_of_owner hn ho
  refine ⟨fun hs => exec_refused rfl ht ?_, fun r hs => ⟨fun hc => exec_refused rfl ht ?_, fun hc => ?_⟩⟩
  · rw [plcAdd, hown, editable_of_none (s := s.dropHead p) hb hs]
  · rw [plcAdd, hown, editable_of_committed (s := s.dropHead p) hb hs hc]
  have hopen : plcAdd p l slot x y (s.dropHead p) = _ := hown.trans (editable_of_open (s := s.dropHead p) hb hs hc)
  refine ⟨fun hj => exec_refused rfl ht ?_, fun j hj => ?_⟩
  · rw [hopen, slotOf_of_le hj]
  rw [slotOf_of_eq hj] at hopen
  refine ⟨fun hv => exec_refused rfl ht (hopen.trans (place_of_vin hv)), fun hp =>
    ⟨fun hf => exec_refused rfl ht (hopen.trans (place_of_free hp hf)), fun hf =>
      ⟨fun hl => exec_refused rfl ht (hopen.trans (place_of_full hp hf hl)), fun hl =>
        ⟨fun he => exec_refused rfl ht (hopen.trans (place_of_poolEmpty hp hf hl ?_)), fun e he => ?_⟩⟩⟩⟩
  · rw [State.poolFree_dropHead, he]
  · have hplace := place_of_admitted (s := s.dropHead p) (p := p) (n := n) (x := x.toInt) (y := y.toInt) hp hf hl
      (by rw [State.poolFree_dropHead, he])
    have hplaced : (s.dropHead p).placed p e j x.toInt y.toInt = s.placed p e j x.toInt y.toInt := by
      rw [State.placed, State.port_dropHead]
      rfl
    rw [hplaced] at hplace
    exact exec_answered _ _ _ _ rfl ht (hopen.trans hplace)

/-! ### Placing at a cursor -/

/-- The cursor that `k` names. -/
def PortState.cursor (x : PortState) (k : Byte) : Cursor := if k = 0 then x.cursor0 else x.cursor1

theorem cursorOf_of_lt {q : PortState} {k : Byte} (h : k.toNat < 2) :
    cursorOf q k = some (q.cursor k) := by
  rcases byte_eq_zero_or_one h with rfl | rfl <;> rfl

theorem cursorOf_of_le {q : PortState} {k : Byte} (h : 2 ≤ k.toNat) : cursorOf q k = none := by
  obtain ⟨h0, h1⟩ := not_or.mp (not_zero_or_one h)
  rw [cursorOf, if_neg h0, if_neg h1]

/-- The advance of R38: along the row, or to the start of the next one. -/
theorem advanceCursor_eq {c : Cursor} (h : c.column < c.columns) :
    advanceCursor c = if c.column + 1 = c.columns then
        { c with column := 0, x := c.x0, y := into (-2048) 2047 (c.y + c.dy), slot := stepSlot c.slot c.step }
      else { c with column := c.column + 1, x := into (-2048) 2047 (c.x + c.dx), slot := stepSlot c.slot c.step } := by
  simp only [advanceCursor, clampPos, clampInt_eq_into (-2048) 2047 _ (by decide)]
  by_cases hend : c.column + 1 = c.columns
  · rw [if_pos hend, if_neg (by omega)]
  · rw [if_neg hend, if_pos (by omega)]

theorem stepSlot_val (slot : Fin 64) (step : Int) : ((stepSlot slot step).val : Int) = (slot.val + step) % 64 := by
  simp only [stepSlot]
  omega

theorem advanceCursor_slot (c : Cursor) : (advanceCursor c).slot = stepSlot c.slot c.step := by
  unfold advanceCursor
  split <;> rfl

/-- A position that needs no clamping (R35). -/
theorem CursorOk.placed {c : Cursor} (h : CursorOk c) (s : State) (p : Port) (e : Fin 128) :
    s.placed p e c.slot c.x c.y = ⟨e, c.slot, c.x, c.y, (s.port p).clips.head?, (s.port p).wp0, (s.port p).wp1⟩ := by
  obtain ⟨hx, hx', hy, hy', _⟩ := h
  simp only [State.placed, into]
  congr 1 <;> omega

theorem State.cursor_dropHead (s : State) (p : Port) (k : Byte) :
    ((s.dropHead p).port p).cursor k = (s.port p).cursor k := by
  rw [State.port_dropHead]
  rfl

/-- PLC_CURSOR on an open record, past the check of `k`: a refusal of R31 leaves the cursor, and a placement advances it
(R37, R38). -/
theorem plcCursor_of_open {p : Port} {l k : Byte} {n : Fin 8} {r : PendingRecord} {s t : State} {c : Cursor} {a : Answer}
    (hn : l.toNat = n.val) (ho : (s.layer n).owner = some p) (hb : (s.layer n).binding ≠ .releasing)
    (hs : (s.layer n).staged = some r) (hc : r.committed = false) (hk : k.toNat < 2) (hcur : (s.port p).cursor k = c)
    (hplace : place p n c.slot c.x c.y r s = (t, a)) :
    plcCursor p l k s = if a.outcome.success then (t.setCursor p k (advanceCursor c), a) else (s, a) := by
  have hopen : plcCursor p l k s = _ := (ownedLayer_of_owner hn ho).trans (editable_of_open hb hs hc)
  rw [cursorOf_of_lt hk, hcur] at hopen
  dsimp only at hopen
  rwa [hplace] at hopen

/-- Settles O17. -/
theorem cursorPlacesThenAdvances : Obligations.CursorPlacesThenAdvances := by
  intro p tag l k n s ht hn ho hb f i c
  have hown {k : Fin 8 → CommandOp} : ownedLayer p l k (s.dropHead p) = k n (s.dropHead p) := ownedLayer_of_owner hn ho
  have hrun {r : PendingRecord} {t : State} {a : Answer} (hs : (s.layer n).staged = some r) (hc : r.committed = false)
      (hk : k.toNat < 2) (hplace : place p n c.slot c.x c.y r (s.dropHead p) = (t, a)) : plcCursor p l k (s.dropHead p) =
        if a.outcome.success then (t.setCursor p k (advanceCursor c), a) else (s.dropHead p, a) :=
    plcCursor_of_open (s := s.dropHead p) hn ho hb hs hc hk (s.cursor_dropHead p k) hplace
  refine ⟨fun hs => exec_refused rfl ht ?_, fun r hs => ⟨fun hc => exec_refused rfl ht ?_,
    fun hc hk => exec_refused rfl ht ?_, fun hc hk hv => exec_refused rfl ht ?_, fun hc hk hp => ?_⟩⟩
  · rw [plcCursor, hown, editable_of_none (s := s.dropHead p) hb hs]
  · rw [plcCursor, hown, editable_of_committed (s := s.dropHead p) hb hs hc]
  · rw [plcCursor, hown, editable_of_open (s := s.dropHead p) hb hs hc, cursorOf_of_le hk]
  · exact hrun hs hc hk (place_of_vin hv)
  refine ⟨fun hf => exec_refused rfl ht (hrun hs hc hk (place_of_free hp hf)),
    fun hf hl => exec_refused rfl ht (hrun hs hc hk (place_of_full hp hf hl)),
    fun hf hl he => exec_refused rfl ht (hrun hs hc hk (place_of_poolEmpty hp hf hl ?_)), fun e hok hf hl he => ?_⟩
  · rw [State.poolFree_dropHead, he]
  have hplace := place_of_admitted (s := s.dropHead p) (p := p) (n := n) (x := c.x) (y := c.y) hp hf hl
    (by rw [State.poolFree_dropHead, he])
  have hkept : okIf (-2048 ≤ c.x ∧ c.x ≤ 2047 ∧ -2048 ≤ c.y ∧ c.y ≤ 2047) = .ok := by
    obtain ⟨hx, hx', hy, hy', _⟩ := hok
    exact if_pos ⟨hx, hx', hy, hy'⟩
  have hentry : (s.dropHead p).placed p e c.slot c.x c.y =
      ⟨e, c.slot, c.x, c.y, (s.port p).clips.head?, (s.port p).wp0, (s.port p).wp1⟩ := by
    rw [hok.placed, State.port_dropHead]
  rw [hkept, hentry] at hplace
  have hcolumn : c.column < c.columns := by
    obtain ⟨_, _, _, _, _, _, _, _, _, _, _, _, hcol, _⟩ := hok
    exact hcol
  refine ⟨_, advanceCursor c, exec_answered _ .ok e.val _ rfl ht (hrun hs hc hk hplace), ?_, ?_, fun m hm => ?_,
    fun j hj => ?_, ?_, ?_, ?_, ?_, fun q hq => ?_⟩
  · rw [State.setCursor_eq]
    exact State.layer_setLayer _ n _
  · rw [State.setCursor_eq]
    exact State.slot_setSlot _ c.slot _
  · rw [State.setCursor_eq]
    exact State.layer_setLayer_ne _ n m _ hm
  · rw [State.setCursor_eq]
    exact State.slot_setSlot_ne _ c.slot j _ hj
  · rw [advanceCursor_slot, advanceCursor_eq hcolumn]
    split <;> rfl
  · rw [advanceCursor_slot, stepSlot_val]
  · rw [State.port_pushRecord, State.setCursor_eq, State.port_setPort, State.port_answered, PortState.withCursor]
    simp only [State.withPlaced, State.setSlot_get_port, State.setLayer_get_port, State.port_dropHead]
    rfl
  · rw [State.setCursor_eq]
    rfl
  · rw [State.setCursor_eq, State.pushRecord, State.port_setPort_ne _ _ _ _ hq, State.port_setPort_ne _ _ _ _ hq]
    exact s.port_dropHead_ne p q hq

end Sys2Proof.Machine
end

section
/-! PROOFS. The slot commands that claim, release, open and close a slot, and those that report a record (R47, R51 to R54,
R59, R69, R153). -/

namespace Sys2Proof.Machine

theorem ownedSlot_of_owner {p : Port} {b : Byte} {s : State} {k : Fin 64 → CommandOp} {n : Fin 64} (h : b.toNat = n.val)
    (ho : (s.slot n).owner = some p) : ownedSlot p b k s = k n s := by
  simp [ownedSlot, slotOf_of_eq h, ho]

/-! ### SLT_CLAIM, SLT_CLAIM_AT and SLT_RELEASE -/

theorem lowestFree_of_none {s : State} (h : ∀ i, (s.slot i).state ≠ .free) : lowestFree s = none := by
  simp [lowestFree, h]

theorem lowestFree_of_first {s : State} {i : Fin 64} (hi : (s.slot i).state = .free)
    (h : ∀ j, j < i → (s.slot j).state ≠ .free) : lowestFree s = some i := by
  have hlt : i.val < (List.finRange 64).length := by simp
  refine List.find?_eq_some_iff_getElem.mpr ⟨by simpa using hi, i.val, hlt, by simp, fun j hj => ?_⟩
  simpa using h ⟨j, by omega⟩ hj

/-- Settles O20. -/
theorem slotClaimAndReleaseMoveTheOwner : Obligations.SlotClaimAndReleaseMoveTheOwner := by
  refine ⟨fun p tag s => ⟨fun ht => ⟨fun hnone => ?_, fun i hi hlow => ?_⟩, fun b ht => ⟨fun hb => ?_, fun i hb =>
    ⟨fun hi => ?_, fun hi => ?_⟩⟩⟩, fun p tag b i s ht hb ho => ⟨fun hr => ?_, fun hr hf => ?_, fun hr hf => ?_⟩⟩
  · exact exec_refused rfl ht (by rw [sltClaim, lowestFree_of_none (s := s.dropHead p) hnone])
  · exact exec_answered ((s.dropHead p).claimSlot p i) .ok i.val [] rfl ht
      (by rw [sltClaim, lowestFree_of_first (s := s.dropHead p) hi hlow])
  · exact exec_refused rfl ht (by rw [sltClaimAt, slotOf_of_le hb])
  · exact exec_answered ((s.dropHead p).claimSlot p i) .ok i.val [] rfl ht
      (by rw [sltClaimAt, slotOf_of_eq hb]; exact if_pos hi)
  · exact exec_refused rfl ht (by rw [sltClaimAt, slotOf_of_eq hb]; exact if_neg hi)
  all_goals
    have hown : sltRelease p b (s.dropHead p) = _ := ownedSlot_of_owner (s := s.dropHead p) hb ho
  · exact exec_answered (s.dropHead p) .inUse (s.slot i).refCount [] rfl ht (hown.trans (if_pos hr))
  · exact exec_refused rfl ht (hown.trans ((if_neg (not_not.mpr hr)).trans (if_pos hf)))
  · exact exec_answered ((s.dropHead p).setSlot i (Slot.freed (s.slot i).pixels)) .ok i.val [] rfl ht
      (hown.trans ((if_neg (not_not.mpr hr)).trans (if_neg (by simp [hf]))))

/-! ### SLT_OPEN and SLT_CLOSE -/

theorem formatOf_of_lt {b : Byte} (h : b.toNat < 2) : formatOf b = some (if b = 0 then .direct else .indexed) := by
  rcases byte_eq_zero_or_one h with rfl | rfl <;> rfl

theorem formatOf_of_le {b : Byte} (h : 2 ≤ b.toNat) : formatOf b = none := by
  obtain ⟨h0, h1⟩ := not_or.mp (not_zero_or_one h)
  rw [formatOf, if_neg h0, if_neg h1]

section
variable {p : Port} {b format : Byte} {width height : Half} {i : Fin 64} {s : State}

/-- SLT_OPEN past the checks of the slot's state (R54, from the format on). -/
theorem sltOpen_of_admitted (hb : b.toNat = i.val) (ho : (s.slot i).owner = some p)
    (hs : (s.slot i).state = .empty ∨ (s.slot i).state = .ready) (hf : (s.slot i).captureFlag = false) :
    sltOpen p b format width height s = match formatOf format with
      | none => (s, refuse .badArg)
      | some f =>
        if ¬ (1 ≤ width.toNat ∧ width.toNat ≤ 256 ∧ 1 ≤ height.toNat ∧ height.toNat ≤ 256) then (s, refuse .badArg)
        else if 16384 < width.toNat * height.toNat then (s, refuse .tooLarge)
        else (s.setSlot i { s.slot i with
            state := if (s.slot i).state = .ready then .opening else .opened
            format := f, width := width.toNat, height := height.toNat, writePos := 0 },
          { outcome := .ok, value := width.toNat * height.toNat }) :=
  (ownedSlot_of_owner hb ho).trans ((if_neg (not_not.mpr hs)).trans (if_neg (by simp [hf])))

end

/-- Settles O21. -/
theorem slotOpenAndCloseFrameAnImage : Obligations.SlotOpenAndCloseFrameAnImage := by
  refine ⟨?_, fun p tag b i s ht hb ho hw => ?_⟩
  · intro p tag b format width height i s ht hb ho f c w h
    have hown : sltOpen p b format width height (s.dropHead p) = _ := ownedSlot_of_owner (s := s.dropHead p) hb ho
    refine ⟨fun he hr => exec_refused rfl ht (hown.trans (if_pos (not_or.mpr ⟨he, hr⟩))), fun hs => ⟨fun hf => ?_,
      fun hf => ?_⟩⟩
    · exact exec_refused rfl ht (hown.trans ((if_neg (not_not.mpr hs)).trans (if_pos hf)))
    have hopen := sltOpen_of_admitted (s := s.dropHead p) (format := format) (width := width) (height := height) hb ho hs hf
    refine ⟨fun hbad => exec_refused rfl ht (hopen.trans ?_), fun hfmt hw1 hw2 hh1 hh2 => ?_⟩
    · by_cases hfmt : 2 ≤ format.toNat
      · rw [formatOf_of_le hfmt]
      · rw [formatOf_of_lt (not_le.mp hfmt)]
        exact if_pos (by omega)
    · rw [formatOf_of_lt hfmt] at hopen
      have hok := hopen.trans (if_neg (not_not.mpr ⟨hw1, hw2, hh1, hh2⟩))
      exact ⟨fun hbig => exec_refused rfl ht (hok.trans (if_pos hbig)),
        fun hfit => exec_answered _ .ok (w * h) [] rfl ht (hok.trans (if_neg (not_lt.mpr hfit)))⟩
  · have hown : sltClose p b (s.dropHead p) = _ := ownedSlot_of_owner (s := s.dropHead p) hb ho
    refine ⟨fun hs hd => ?_, fun hs hd => ?_, fun hs => exec_refused rfl ht (hown.trans (if_pos hs))⟩
    · exact exec_answered _ .ok _ [] rfl ht
        (hown.trans ((if_neg (not_not.mpr hs)).trans (if_neg (not_lt.mpr hd.ge))))
    · exact exec_answered (s.dropHead p) .short _ [] rfl ht (hown.trans ((if_neg (not_not.mpr hs)).trans (if_pos hd)))

/-! ### SLT_INFO and TMR_READ -/

theorem timerInfoByte_eq (m : FrameTimer) : timerInfoByte m = natByte ((if m.running then 1 else 0)
      + (if m.template.isSome then 2 else 0) + (if m.source = .ife then 4 else 0) + (if m.action = .capture then 8 else 0)
      + (match m.mode with
        | .free => 0
        | .oneshot => 16
        | .measure => 32)) := by
  unfold timerInfoByte timerModeCode
  cases m.mode <;> rfl

/-- Settles O24. -/
theorem infoAndReadReportARecord : Obligations.InfoAndReadReportARecord := by
  refine ⟨fun p tag b s ht => ⟨fun hb => ?_, fun i hb => ?_⟩, fun p tag b s ht => ⟨fun hb => ?_, fun t hb => ?_⟩⟩
  · exact exec_refused rfl ht (by rw [sltInfo, slotOf_of_le hb])
  · intro x
    exact exec_answered (s.dropHead p) .ok x.refCount (slotInfo x) rfl ht (by rw [sltInfo, slotOf_of_eq hb]; rfl)
  · exact exec_refused rfl ht (by rw [tmrRead, timerOf_of_le hb])
  · intro m
    have hread : exec (.tmrRead p tag b) s = _ :=
      exec_answered (s.dropHead p) .ok (if m.mode = .measure then m.measured else m.count) (timerInfo m) rfl ht
        (by rw [tmrRead, timerOf_of_eq hb]; rfl)
    rw [hread, timerInfo, timerInfoByte_eq]
    rfl

end Sys2Proof.Machine
end

section
/-! PROOFS. Pixels stored in a slot's image (R56 to R58). -/

namespace Sys2Proof.Machine

/-! ### Pixels of a payload -/

/-- The list holds the pixel `g k` at each place `k` that it has. -/
def Spelled (ps : List PayloadPixel) (g : Nat → PayloadPixel) : Prop := ∀ k, k < ps.length → ps[k]? = some (g k)

/-- The pixel of the `k`-th triple of a DIRECT payload (R56). -/
def directAt (data : List Byte) (k : Nat) : PayloadPixel :=
  directPixel (data.getD (3 * k) 0).toNat (data.getD (3 * k + 1) 0).toNat (data.getD (3 * k + 2) 0).toNat

/-- The `k`-th code of an INDEXED payload (R57). -/
def indexedAt (data : List Byte) (k : Nat) : PayloadPixel :=
  codePixel (if k % 2 = 0 then (data.getD (k / 2) 0).toNat / 16 else (data.getD (k / 2) 0).toNat % 16)

/-- One or two bytes make no pixel (R56). -/
theorem directPixels_of_short {data : List Byte} (h : ∀ y cb cr rest, data = y :: cb :: cr :: rest → False) :
    directPixels data = [] ∧ data.length / 3 = 0 := by
  match data, h with
  | [], _ | [_], _ | [_, _], _ => simp [directPixels]
  | y :: cb :: cr :: rest, h => exact (h y cb cr rest rfl).elim

theorem directPixels_length (data : List Byte) : (directPixels data).length = data.length / 3 := by
  induction data using directPixels.induct with
  | case1 y cb cr rest ih =>
    rw [directPixels, List.length_cons, ih]
    simp only [List.length_cons]
    omega
  | case2 data hshort =>
    obtain ⟨hnil, hlen⟩ := directPixels_of_short hshort
    rw [hnil, hlen, List.length_nil]

theorem directPixels_spelled (data : List Byte) : Spelled (directPixels data) (directAt data) := by
  induction data using directPixels.induct with
  | case1 y cb cr rest ih =>
    rintro (_ | k) hk
    · rfl
    · rw [directPixels, List.getElem?_cons_succ, ih k (by simpa [directPixels] using hk)]
      rfl
  | case2 data hshort =>
    rw [(directPixels_of_short hshort).1]
    exact fun k hk => absurd hk (Nat.not_lt_zero k)

theorem indexedPixels_length (data : List Byte) : (indexedPixels data).length = 2 * data.length := by
  induction data with
  | nil => rfl
  | cons b rest ih =>
    rw [indexedPixels, List.length_cons, List.length_cons, ih, List.length_cons]
    omega

theorem indexedPixels_spelled (data : List Byte) : Spelled (indexedPixels data) (indexedAt data) := by
  induction data with
  | nil => exact fun k hk => absurd hk (Nat.not_lt_zero k)
  | cons b rest ih =>
    rintro (_ | _ | k) hk
    · rfl
    · rfl
    · have hmod : (k + 1 + 1) % 2 = k % 2 := by omega
      have hdiv : (k + 1 + 1) / 2 = k / 2 + 1 := by omega
      rw [indexedPixels, List.getElem?_cons_succ, List.getElem?_cons_succ,
        ih k (by simpa [indexedPixels] using hk), indexedAt, indexedAt, hmod, hdiv, List.getD_cons_succ]

/-- Whether one of the pixels that are stored was brought into range. -/
theorem Spelled.any_take {ps : List PayloadPixel} {g : Nat → PayloadPixel} (h : Spelled ps g) (room : Nat) :
    (ps.take room).any (·.2) = true ↔ ∃ k, k < min ps.length room ∧ (g k).2 = true := by
  rw [List.any_eq_true]
  constructor
  · rintro ⟨a, ha, hc⟩
    obtain ⟨k, hk⟩ := List.mem_iff_getElem?.mp ha
    have hroom : k < room := by
      by_contra hge
      rw [List.getElem?_take, if_neg hge] at hk
      cases hk
    rw [List.getElem?_take_of_lt hroom] at hk
    have hlen : k < ps.length := (List.getElem?_eq_some_iff.mp hk).1
    rw [h k hlen] at hk
    cases hk
    exact ⟨k, lt_min hlen hroom, hc⟩
  · rintro ⟨k, hk, hc⟩
    obtain ⟨hlen, hroom⟩ := lt_min_iff.mp hk
    exact ⟨g k, List.mem_iff_getElem?.mpr ⟨k, by rw [List.getElem?_take_of_lt hroom, h k hlen]⟩, hc⟩

theorem directPixel_changed (y cb cr : Nat) : (directPixel y cb cr).2 = true ↔
    (y < 16 ∨ 235 < y) ∨ (cb < 16 ∨ 240 < cb) ∨ cr < 16 ∨ 240 < cr := by
  rw [directPixel, decide_eq_true_eq, ne_eq, clampColour_eq_self_iff]
  omega

/-- Some of the first `n` triples has a component out of range exactly when some of their bytes is. -/
theorem directAt_changed (data : List Byte) (n : Nat) : (∃ k, k < n ∧ (directAt data k).2 = true) ↔
    ∃ k, k < 3 * n ∧ ((data.getD k 0).toNat < 16 ∨ (if k % 3 = 0 then 235 else 240) < (data.getD k 0).toNat) := by
  simp only [directAt, directPixel_changed]
  constructor
  · rintro ⟨k, hk, hy | hcb | hcr⟩
    · exact ⟨3 * k, by omega, by rwa [if_pos (by omega)]⟩
    · exact ⟨3 * k + 1, by omega, by rwa [if_neg (by omega)]⟩
    · exact ⟨3 * k + 2, by omega, by rwa [if_neg (by omega)]⟩
  · rintro ⟨k, hk, h⟩
    refine ⟨k / 3, by omega, ?_⟩
    obtain hm | hm | hm : k = 3 * (k / 3) ∨ k = 3 * (k / 3) + 1 ∨ k = 3 * (k / 3) + 2 := by omega
    · rw [if_pos (by omega)] at h
      exact .inl (hm ▸ h)
    · rw [if_neg (by omega)] at h
      exact .inr (.inl (hm ▸ h))
    · rw [if_neg (by omega)] at h
      exact .inr (.inr (hm ▸ h))

/-! ### Storing from the write position on -/

section
variable {x : Slot} {ps : List Pixel}

theorem storePixels_eq (x : Slot) (ps : List Pixel) : storePixels x ps = { x with
    writePos := x.writePos + min ps.length (roomIn x), pixels := (storePixels x ps).pixels } := by
  simp only [storePixels, List.length_take, min_comm]

theorem storePixels_pixels (x : Slot) (ps : List Pixel) : (storePixels x ps).pixels = x.pixels.take x.writePos
    ++ ps.take (roomIn x) ++ x.pixels.drop (x.writePos + min ps.length (roomIn x)) := by
  simp only [storePixels, List.length_take, min_comm]

theorem storePixels_stored (hw : x.writePos ≤ x.pixels.length) {k : Nat} (hk : k < min ps.length (roomIn x)) :
    (storePixels x ps).pixels[x.writePos + k]? = ps[k]? := by
  obtain ⟨hlen, hroom⟩ := lt_min_iff.mp hk
  have htake : (x.pixels.take x.writePos).length = x.writePos := List.length_take_of_le hw
  rw [storePixels_pixels, List.append_assoc, List.getElem?_append_right (by omega), htake, Nat.add_sub_cancel_left,
    List.getElem?_append_left (by rw [List.length_take]; omega), List.getElem?_take_of_lt hroom]

theorem storePixels_other (hw : x.writePos ≤ x.pixels.length) {k : Nat}
    (hk : k < x.writePos ∨ x.writePos + min ps.length (roomIn x) ≤ k) :
    (storePixels x ps).pixels[k]? = x.pixels[k]? := by
  have htake : (x.pixels.take x.writePos).length = x.writePos := List.length_take_of_le hw
  rw [storePixels_pixels, List.append_assoc]
  rcases hk with hk | hk
  · rw [List.getElem?_append_left (by omega), List.getElem?_take_of_lt hk]
  · have hfit : (ps.take (roomIn x)).length = min ps.length (roomIn x) := by rw [List.length_take, min_comm]
    rw [List.getElem?_append_right (by omega), List.getElem?_append_right (by omega), List.getElem?_drop]
    congr 1
    omega

end

/-! ### The state check of SLT_DATA and SLT_FILL -/

section
variable {i : Fin 64} {k : CommandOp} {s : State}

theorem writable_of_opening (h : (s.slot i).state = .opening) : writable i k s = (s, refuse .waitFrame) := by
  rw [writable, h]

theorem writable_of_opened (h : (s.slot i).state = .opened) : writable i k s = k s := by
  rw [writable, h]

theorem writable_of_other (h : (s.slot i).state ≠ .opening) (h' : (s.slot i).state ≠ .opened) :
    writable i k s = (s, refuse .slotState) := by
  unfold writable
  split <;> first | rfl | contradiction

end

/-! ### SLT_DATA -/

/-- The whole pixels of a payload in a slot's format. -/
def payloadPixels (f : Format) (data : List Byte) : List PayloadPixel :=
  match f with
  | .direct => directPixels data
  | .indexed => indexedPixels data

/-- What `payloadPixels` spells. -/
def payloadAt (f : Format) (data : List Byte) : Nat → PayloadPixel :=
  match f with
  | .direct => directAt data
  | .indexed => indexedAt data

theorem payloadPixels_length (f : Format) (data : List Byte) :
    (payloadPixels f data).length = if f = .direct then data.length / 3 else 2 * data.length := by
  cases f with
  | direct => exact directPixels_length data
  | indexed => exact indexedPixels_length data

theorem payloadPixels_spelled (f : Format) (data : List Byte) : Spelled (payloadPixels f data) (payloadAt f data) := by
  cases f with
  | direct => exact directPixels_spelled data
  | indexed => exact indexedPixels_spelled data

theorem payloadAt_fst (f : Format) (data : List Byte) (k : Nat) : (some (payloadAt f data k).1).toList =
    if f = .direct then
      [Pixel.direct ⟨max 16 (min 235 (data.getD (3 * k) 0).toNat), max 16 (min 240 (data.getD (3 * k + 1) 0).toNat),
        max 16 (min 240 (data.getD (3 * k + 2) 0).toNat)⟩]
    else [Pixel.indexed (Fin.ofNat 16 (if k % 2 = 0 then (data.getD (k / 2) 0).toNat / 16
      else (data.getD (k / 2) 0).toNat % 16))] := by
  cases f with
  | direct => simp only [payloadAt, directAt, directPixel, clampColour_eq, Option.toList_some, if_true]
  | indexed => rfl

theorem payloadAt_changed (f : Format) (data : List Byte) (n : Nat) :
    (∃ k, k < n ∧ (payloadAt f data k).2 = true) ↔ f = .direct ∧ ∃ k, k < 3 * n ∧
      ((data.getD k 0).toNat < 16 ∨ (if k % 3 = 0 then 235 else 240) < (data.getD k 0).toNat) := by
  cases f with
  | direct => exact ⟨fun h => ⟨rfl, (directAt_changed data n).mp h⟩, fun ⟨_, h⟩ => (directAt_changed data n).mpr h⟩
  | indexed => simp [payloadAt, indexedAt, codePixel]

theorem sltData_of_opened {p : Port} {b : Byte} {data : List Byte} {i : Fin 64} {s : State} (hb : b.toNat = i.val)
    (ho : (s.slot i).owner = some p) (hs : (s.slot i).state = .opened) : sltData p b data s =
      storeAnswer i (payloadPixels (s.slot i).format data)
        (decide ((s.slot i).format = .direct ∧ data.length % 3 ≠ 0)) s := by
  rw [sltData, ownedSlot_of_owner hb ho, writable_of_opened hs]
  cases (s.slot i).format with
  | direct => simp only [payloadPixels, true_and]
  | indexed => rfl

/-- The outcome of a storing command: which of the three success codes it is. -/
theorem storeOutcome_cases {dropped changed : Prop} [Decidable dropped] [Decidable changed] {o : OutcomeCode}
    (ho : o = if dropped then .okTruncated else if changed then .okClamped else .ok) :
    (o = .okTruncated ↔ dropped) ∧ (o = .okClamped ↔ ¬ dropped ∧ changed)
      ∧ (o = .ok ∨ o = .okClamped ∨ o = .okTruncated) := by
  by_cases hd : dropped <;> by_cases hc : changed <;> simp [ho, hd, hc]

/-- Settles O22. -/
theorem slotDataStoresInRasterOrder : Obligations.SlotDataStoresInRasterOrder := by
  intro p tag b data i s ht hlen hb ho f x room count stored given
  have hrow : commandOf (.sltData p tag b data) = some (p, f, sltData p b data) := by
    rw [commandOf, if_pos (show data.length ≤ Config.dataMax from hlen)]
  have hown : sltData p b data (s.dropHead p) = _ := ownedSlot_of_owner (s := s.dropHead p) hb ho
  refine ⟨fun hs => exec_refused hrow ht (hown.trans (writable_of_opening hs)),
    fun hs hs' => exec_refused hrow ht (hown.trans (writable_of_other hs hs')), fun hs hfit hw => ?_⟩
  have hcount : (payloadPixels x.format data).length = count := payloadPixels_length x.format data
  have hpixels : ((payloadPixels x.format data).map (·.1)).length = count := by rw [List.length_map, hcount]
  have hspelled := payloadPixels_spelled x.format data
  let y := storePixels x ((payloadPixels x.format data).map (·.1))
  have hy : y = { x with writePos := x.writePos + stored, pixels := y.pixels } := by
    have h := storePixels_eq x ((payloadPixels x.format data).map (·.1))
    rwa [hpixels] at h
  have hpos : y.writePos = x.writePos + stored := by rw [hy]
  have hstore : sltData p b data (s.dropHead p) = storeAnswer i (payloadPixels x.format data)
      (decide (x.format = .direct ∧ data.length % 3 ≠ 0)) (s.dropHead p) :=
    sltData_of_opened (s := s.dropHead p) hb ho hs
  have hexec := exec_answered _ _ _ _ hrow ht hstore
  obtain ⟨htrunc, hclamp, hany⟩ := storeOutcome_cases (o := (storeAnswer i (payloadPixels x.format data)
    (decide (x.format = .direct ∧ data.length % 3 ≠ 0)) (s.dropHead p)).2.outcome) rfl
  rw [hcount] at htrunc hclamp
  refine ⟨_, y, hexec.trans ?_, hy, fun k hk => ?_, fun k hk => ?_, ?_, ?_, hany⟩
  · have hstored : min (payloadPixels x.format data).length (roomIn x) = stored := by rw [hcount]; rfl
    rw [← hpos, ← hstored]
    rfl
  · rw [storePixels_stored hw (by rwa [hpixels]), List.getElem?_map, hspelled k (by omega)]
    exact payloadAt_fst x.format data k
  · exact storePixels_other hw (by rwa [hpixels])
  · rw [htrunc, decide_eq_true_eq]
    rfl
  · rw [hclamp, decide_eq_true_eq, hspelled.any_take, payloadAt_changed, hcount]
    rfl

/-! ### SLT_FILL -/

/-- The pixel that SLT_FILL's operands give in a slot's format. -/
def fillPixel (f : Format) (y cb cr : Byte) : PayloadPixel :=
  match f with
  | .direct => directPixel y.toNat cb.toNat cr.toNat
  | .indexed => codePixel y.toNat

theorem fillPixel_fst (f : Format) (y cb cr : Byte) : (fillPixel f y cb cr).1 = if f = .direct then
    .direct ⟨max 16 (min 235 y.toNat), max 16 (min 240 cb.toNat), max 16 (min 240 cr.toNat)⟩
    else .indexed (Fin.ofNat 16 y.toNat) := by
  cases f with
  | direct => simp only [fillPixel, directPixel, clampColour_eq, if_true]
  | indexed => rfl

theorem fillPixel_changed (f : Format) (y cb cr : Byte) : (fillPixel f y cb cr).2 = true ↔ ¬ (f = .indexed ∨
    (16 ≤ y.toNat ∧ y.toNat ≤ 235 ∧ 16 ≤ cb.toNat ∧ cb.toNat ≤ 240 ∧ 16 ≤ cr.toNat ∧ cr.toNat ≤ 240)) := by
  cases f with
  | direct =>
    rw [fillPixel, directPixel_changed]
    simp only [reduceCtorEq, false_or]
    omega
  | indexed => simp [fillPixel, codePixel]

theorem storePixels_replicate (x : Slot) (n : Nat) (px : Pixel) : storePixels x (List.replicate n px) = { x with
    writePos := x.writePos + min n (roomIn x)
    pixels := x.pixels.take x.writePos ++ List.replicate (min n (roomIn x)) px
      ++ x.pixels.drop (x.writePos + min n (roomIn x)) } := by
  simp only [storePixels, List.take_replicate, List.length_replicate, min_comm]

/-- Storing copies of one pixel (R58). -/
theorem storeAnswer_replicate (i : Fin 64) (n : Nat) (px : PayloadPixel) (s : State) :
    storeAnswer i (List.replicate n px) false s = (s.setSlot i (storePixels (s.slot i) (List.replicate n px.1)),
      { outcome := if roomIn (s.slot i) < n then .okTruncated else okIf (n = 0 ∨ ¬ px.2 = true)
        value := (s.slot i).writePos + min n (roomIn (s.slot i)), extra := natBytes (min n (roomIn (s.slot i))) }) := by
  have houtcome : (if roomIn (s.slot i) < n ∨ false = true then OutcomeCode.okTruncated
      else if ((List.replicate n px).take (roomIn (s.slot i))).any (·.2) then .okClamped else .ok)
      = if roomIn (s.slot i) < n then .okTruncated else okIf (n = 0 ∨ ¬ px.2 = true) := by
    by_cases hroom : roomIn (s.slot i) < n
    · rw [if_pos (.inl hroom), if_pos hroom]
    · rw [if_neg (by simp [hroom]), if_neg hroom, List.take_of_length_le (by rw [List.length_replicate]; omega), okIf]
      by_cases hn : n = 0 <;> by_cases hc : px.2 = true <;> simp [hn, hc]
  unfold storeAnswer
  dsimp only
  rw [List.map_replicate, List.length_replicate, houtcome, storePixels_replicate]

section
variable {p : Port} {b y cb cr : Byte} {count : Half} {i : Fin 64} {s : State}

theorem sltFill_of_opened (hb : b.toNat = i.val) (ho : (s.slot i).owner = some p) (hs : (s.slot i).state = .opened)
    (hy : (s.slot i).format = .direct ∨ y.toNat < 16) : sltFill p b y cb cr count s =
      storeAnswer i (List.replicate count.toNat (fillPixel (s.slot i).format y cb cr)) false s := by
  rw [sltFill, ownedSlot_of_owner hb ho, writable_of_opened hs]
  cases hf : (s.slot i).format with
  | direct => rfl
  | indexed => exact if_neg (by rw [hf] at hy; simp only [reduceCtorEq, false_or] at hy; omega)

theorem sltFill_of_code (hb : b.toNat = i.val) (ho : (s.slot i).owner = some p) (hs : (s.slot i).state = .opened)
    (hf : (s.slot i).format = .indexed) (hy : 16 ≤ y.toNat) : sltFill p b y cb cr count s = (s, refuse .badArg) := by
  rw [sltFill, ownedSlot_of_owner hb ho, writable_of_opened hs, hf]
  exact if_pos (by omega)

end

/-- Settles O23. -/
theorem slotFillStoresOnePixelManyTimes : Obligations.SlotFillStoresOnePixelManyTimes := by
  intro p tag b yy cb cr count i s ht hb ho f c x room stored colour
  have hown : sltFill p b yy cb cr count (s.dropHead p) = _ := ownedSlot_of_owner (s := s.dropHead p) hb ho
  refine ⟨fun hs => exec_refused rfl ht (hown.trans (writable_of_opening hs)),
    fun hs hs' => exec_refused rfl ht (hown.trans (writable_of_other hs hs')),
    fun hs hf hy => exec_refused rfl ht (sltFill_of_code (s := s.dropHead p) hb ho hs hf hy), fun hs hy hw => ?_⟩
  have hfill := (sltFill_of_opened (s := s.dropHead p) (cb := cb) (cr := cr) (count := count) hb ho hs hy).trans
    (storeAnswer_replicate i count.toNat _ (s.dropHead p))
  have hexec : exec c s = _ := exec_answered _ _ _ _ rfl ht hfill
  have hzero : count.toNat = 0 ↔ count = 0 := by
    rw [← BitVec.toNat_inj]
    rfl
  have hcode : okIf (count.toNat = 0 ∨ ¬ (fillPixel x.format yy cb cr).2 = true) = okIf (count = 0 ∨ x.format = .indexed
      ∨ (16 ≤ yy.toNat ∧ yy.toNat ≤ 235 ∧ 16 ≤ cb.toNat ∧ cb.toNat ≤ 240 ∧ 16 ≤ cr.toNat ∧ cr.toNat ≤ 240)) := by
    simp only [okIf, hzero, fillPixel_changed, not_not]
  rw [hexec, ← hcode, ← fillPixel_fst, storePixels_replicate]
  rfl

end Sys2Proof.Machine
end


section
/-! PROOFS. The references that a slot's count stands for (R62, R156): those of the placements, layer by layer, and those
of the monitors; and what the operations on layers, lists and monitors make of them. -/

namespace Sys2Proof.Machine

/-! ### A sum with one changed term -/

section
variable {n : Nat}

/-- Two sums that differ in one term. -/
theorem sum_change (f g : Fin n → Nat) (l : Fin n) (h : ∀ m, m ≠ l → g m = f m) :
    (∑ m, g m) + f l = (∑ m, f m) + g l := by
  have hf := Finset.add_sum_erase Finset.univ f (Finset.mem_univ l)
  have hg := Finset.add_sum_erase Finset.univ g (Finset.mem_univ l)
  have he : ∑ m ∈ Finset.univ.erase l, g m = ∑ m ∈ Finset.univ.erase l, f m :=
    Finset.sum_congr rfl fun m hm => h m (Finset.ne_of_mem_erase hm)
  omega

theorem countP_finRange_eq_sum (q : Fin n → Bool) : (List.finRange n).countP q = ∑ m, (q m).toNat := by
  rw [Fin.sum_univ_def]
  induction List.finRange n with
  | nil => rfl
  | cons a rest ih => cases h : q a <;> simp [h, ih, add_comm]

end

/-! ### Placements -/

/-- The entries of a layer's two lists that name slot `i`. -/
def Layer.placedIn (x : Layer) (i : Fin 64) : Nat := x.entries.countP fun e => e.slot = i

/-- The placements, of every layer, that name slot `i`. -/
def State.placedIn (s : State) (i : Fin 64) : Nat := s.placements.countP fun e => e.slot = i

theorem Layer.placedIn_eq (x : Layer) (i : Fin 64) :
    x.placedIn i = x.live.countP (fun e => e.slot = i) + x.stagedList.countP fun e => e.slot = i := by
  rw [Layer.placedIn, Layer.entries, List.countP_append]

theorem State.placedIn_eq_sum (s : State) (i : Fin 64) : s.placedIn i = ∑ l, (s.layer l).placedIn i := by
  rw [State.placedIn, State.placements, List.countP_flatMap, Fin.sum_univ_def]
  rfl

theorem State.placedIn_congr {s t : State} (h : ∀ l, (t.layer l).entries = (s.layer l).entries) (i : Fin 64) :
    t.placedIn i = s.placedIn i := by
  simp only [State.placedIn_eq_sum, Layer.placedIn, h]

/-- A write of one layer changes its own placements alone. -/
theorem State.placedIn_setLayer (s : State) (l : Fin 8) (x : Layer) (i : Fin 64) :
    (s.setLayer l x).placedIn i + (s.layer l).placedIn i = s.placedIn i + x.placedIn i := by
  have h := sum_change (fun m => (s.layer m).placedIn i) (fun m => ((s.setLayer l x).layer m).placedIn i) l
    fun m hm => by rw [State.layer_setLayer_ne _ _ _ _ hm]
  rwa [State.layer_setLayer, ← State.placedIn_eq_sum, ← State.placedIn_eq_sum] at h

/-! ### Monitors -/

/-- The monitors that hold a reference in slot `i` (R156). -/
def State.heldIn (s : State) (i : Fin 64) : Nat := (List.finRange 8).countP (monitorHolds s i)

theorem State.heldIn_congr {s t : State} (hf : ∀ l, (t.monitor l).fallback = (s.monitor l).fallback)
    (hv : ∀ l, t.viewFallback l = s.viewFallback l) : t.heldIn = s.heldIn := by
  funext i
  simp only [State.heldIn, funext fun l => show monitorHolds t i l = monitorHolds s i l by
    simp only [monitorHolds, hf, hv]]

/-- A change of one monitor's fallback, with the view it had. -/
theorem State.heldIn_change {s t : State} (l : Fin 8)
    (hf : ∀ m, m ≠ l → (t.monitor m).fallback = (s.monitor m).fallback)
    (hv : ∀ m, t.viewFallback m = s.viewFallback m) (i : Fin 64) :
    t.heldIn i + (monitorHolds s i l).toNat = s.heldIn i + (monitorHolds t i l).toNat := by
  rw [State.heldIn, State.heldIn, countP_finRange_eq_sum, countP_finRange_eq_sum]
  refine sum_change (fun m => (monitorHolds s i m).toNat) (fun m => (monitorHolds t i m).toNat) l fun m hm => ?_
  simp only [monitorHolds, hf m hm, hv]

/-! ### The account of a slot's references -/

/-- Each slot's count is that of its placements and `held` more. -/
def Tally (held : Fin 64 → Nat) (s : State) : Prop := ∀ i, (s.slot i).refCount = s.placedIn i + held i

/-- R62, with the references of monitors apart from those of placements. -/
theorem refsOk_iff (s : State) : RefsOk s ↔ Tally s.heldIn s ∧ FrameWork.fallback ∉ s.frameTaken := Iff.rfl

theorem Tally.of_eq {held : Fin 64 → Nat} {s t : State} (h : Tally held s)
    (hr : ∀ i, (t.slot i).refCount = (s.slot i).refCount) (he : ∀ l, (t.layer l).entries = (s.layer l).entries) :
    Tally held t := fun i => by
  rw [hr, h i, State.placedIn_congr he]

/-- A slot with a placement is counted. -/
theorem Tally.pos_of_placed {held : Fin 64 → Nat} {s : State} (h : Tally held s) {l : Fin 8} {e : Placement}
    (he : e ∈ (s.layer l).live) : 0 < (s.slot e.slot).refCount := by
  have hpos : 0 < s.placedIn e.slot := by
    refine List.countP_pos_iff.mpr ⟨e, ?_, by simp⟩
    exact List.mem_flatMap.mpr ⟨l, List.mem_finRange l, List.mem_append_left _ he⟩
  rw [h e.slot]
  omega

/-! ### References lost and gained -/

theorem slotLessRef_refCount (x : Slot) : (slotLessRef x).refCount = x.refCount - 1 := by
  unfold slotLessRef
  split
  · rename_i h
    simp only [Slot.freed]
    omega
  · rfl

theorem iterate_slotLessRef_refCount (n : Nat) (x : Slot) : (slotLessRef^[n] x).refCount = x.refCount - n := by
  induction n with
  | zero => rfl
  | succ n ih =>
    rw [Function.iterate_succ_apply', slotLessRef_refCount, ih]
    omega

/-- What every single loss of a reference keeps of a slot, any number of them keeps. -/
theorem iterate_slotLessRef_keeps {P : Slot → Prop} (h : ∀ x, P x → P (slotLessRef x)) (n : Nat) {x : Slot} (hx : P x) :
    P (slotLessRef^[n] x) := by
  induction n with
  | zero => exact hx
  | succ n ih =>
    rw [Function.iterate_succ_apply']
    exact h _ ih

/-- A layer's record replaced, with the references dropped that it no longer holds (R3, R18, R19). -/
theorem Tally.setLayer_dropRefs {held : Fin 64 → Nat} {s : State} (h : Tally held s) (l : Fin 8) (x : Layer)
    (ps : List Placement) (hx : ∀ i, x.placedIn i + ps.countP (fun e => e.slot = i) = (s.layer l).placedIn i) :
    Tally held ((s.setLayer l x).dropRefs ps) := fun i => by
  have hset := s.placedIn_setLayer l x i
  have hi := h i
  have hxi := hx i
  rw [State.slot_dropRefs, iterate_slotLessRef_refCount, State.setLayer_get_slot,
    State.placedIn_congr (s := s.setLayer l x) fun m => by rw [State.layer_dropRefs]]
  omega

/-- A layer's record replaced, with references for the entries it has gained (R11, R32). -/
theorem Tally.setLayer_addRefs {held : Fin 64 → Nat} {s : State} (h : Tally held s) (l : Fin 8) (x : Layer)
    (ps : List Placement) (hx : ∀ i, x.placedIn i = (s.layer l).placedIn i + ps.countP fun e => e.slot = i) :
    Tally held ((s.setLayer l x).addRefs ps) := fun i => by
  have hset := s.placedIn_setLayer l x i
  have hi := h i
  have hxi := hx i
  rw [State.slot_addRefs, State.setLayer_get_slot, State.placedIn_congr (s := s.setLayer l x)
    fun m => by rw [State.addRefs_eq]; rfl]
  dsimp only
  omega

/-! ### Monitors that let go of a fallback, or take another -/

/-- One monitor's fallback in a state and the next, with the view of the frame in progress: slot `i` loses or gains this
monitor's reference as the monitor lets go of it or takes it (R156). -/
theorem monitorHolds_toNat (s : State) (i : Fin 64) (l : Fin 8) : (monitorHolds s i l).toNat =
    if s.viewFallback l = some i ∨ (s.monitor l).fallback = some i then 1 else 0 := by
  by_cases hv : s.viewFallback l = some i <;> by_cases hf : (s.monitor l).fallback = some i <;> simp [monitorHolds, hv, hf]

theorem Tally.heldIn_le {s : State} (h : Tally s.heldIn s) (l : Fin 8) (i : Fin 64)
    (hf : (s.monitor l).fallback = some i) : 1 ≤ (s.slot i).refCount := by
  have hpos : 0 < s.heldIn i := List.countP_pos_iff.mpr ⟨l, List.mem_finRange l, by simp [monitorHolds, hf]⟩
  rw [h i]
  omega

/-- An unlocked monitor that is returned gives up its reference (R163, R156). -/
theorem RefsOk.releaseMonitor {s : State} (h : RefsOk s) (l : Fin 8) : RefsOk (s.releaseMonitor l) := by
  cases hl : (s.monitor l).locked with
  | true => rwa [State.releaseMonitor_of_locked s l hl]
  | false =>
    obtain ⟨htally, htaken⟩ := (refsOk_iff s).mp h
    have hv (m : Fin 8) : (s.releaseMonitor l).viewFallback m = s.viewFallback m := by
      rw [State.releaseMonitor_eq]; rfl
    have hf : ((s.releaseMonitor l).monitor l).fallback = none := by rw [State.monitor_releaseMonitor s l hl]; rfl
    refine (refsOk_iff _).mpr ⟨fun i => ?_, by rwa [State.releaseMonitor_eq]⟩
    have hchange := State.heldIn_change (t := s.releaseMonitor l) l
      (fun m hm => by rw [State.monitor_releaseMonitor_ne _ _ _ hm]) hv i
    rw [monitorHolds_toNat, monitorHolds_toNat, hv, hf] at hchange
    rw [State.slot_releaseMonitor, State.placedIn_congr (s := s) fun m => by rw [State.layer_releaseMonitor]]
    have hi := htally i
    by_cases hview : s.viewFallback l = some i
    · simp only [hview, true_or, if_true] at hchange
      rw [if_neg (by simp [hview])]
      omega
    · by_cases hold : (s.monitor l).fallback = some i
      · have hpos := htally.heldIn_le l i hold
        simp only [hview, hold, or_true, reduceCtorEq, or_false, if_true, if_false] at hchange
        rw [if_pos ⟨hl, hold, hview⟩, slotLessRef_refCount]
        omega
      · simp only [hview, hold, reduceCtorEq, or_false, if_false] at hchange
        rw [if_neg (by simp [hold])]
        omega

/-- The reference that a monitor takes in the slot it is to name (R156). -/
def State.takeFallback (s : State) (l : Fin 8) (new : Option (Fin 64)) : State :=
  match new with
  | none => s
  | some i => if s.viewFallback l = some i then s else s.addRef i

theorem State.moveFallback_eq (s : State) (l : Fin 8) (new : Option (Fin 64)) : s.moveFallback l new =
    if new = (s.monitor l).fallback then s else (s.takeFallback l new).dropFallback l (s.monitor l).fallback := rfl

theorem State.takeFallback_slots (s : State) (l : Fin 8) (new : Option (Fin 64)) :
    s.takeFallback l new = { s with slots := (s.takeFallback l new).slots } := by
  unfold State.takeFallback
  cases new with
  | none => rfl
  | some i =>
    dsimp only
    split <;> rfl

theorem State.moveFallback_slots (s : State) (l : Fin 8) (new : Option (Fin 64)) :
    s.moveFallback l new = { s with slots := (s.moveFallback l new).slots } := by
  rw [State.moveFallback_eq]
  split
  · rfl
  · rw [State.dropFallback_eq, State.takeFallback_slots]

theorem State.slot_takeFallback (s : State) (l : Fin 8) (new : Option (Fin 64)) (i : Fin 64) :
    (s.takeFallback l new).slot i = if new = some i ∧ s.viewFallback l ≠ some i
      then { s.slot i with refCount := (s.slot i).refCount + 1 } else s.slot i := by
  unfold State.takeFallback
  cases new with
  | none => simp
  | some j =>
    by_cases hv : s.viewFallback l = some j <;> by_cases hj : j = i
    · subst hj; simp [hv]
    · simp [hv, hj]
    · subst hj; simp [hv, State.addRef]
    · simp [hv, hj, State.addRef, State.slot_setSlot_ne _ _ _ _ (Ne.symm hj)]

/-- A monitor that takes another fallback moves its reference (R155, R156). -/
theorem RefsOk.moveFallback {s : State} (h : RefsOk s) (l : Fin 8) (m : Monitor) :
    RefsOk ((s.moveFallback l m.fallback).setMonitor l m) := by
  obtain ⟨htally, htaken⟩ := (refsOk_iff s).mp h
  have hmoved := s.moveFallback_slots l m.fallback
  have hv (k : Fin 8) : ((s.moveFallback l m.fallback).setMonitor l m).viewFallback k = s.viewFallback k := by
    rw [hmoved]; rfl
  refine (refsOk_iff _).mpr ⟨fun i => ?_, by rw [hmoved]; exact htaken⟩
  have hchange := State.heldIn_change (s := s) (t := (s.moveFallback l m.fallback).setMonitor l m) l
    (fun k hk => by rw [State.monitor_setMonitor_ne _ _ _ _ hk, hmoved]; rfl) hv i
  have hplaced : ((s.moveFallback l m.fallback).setMonitor l m).placedIn i = s.placedIn i :=
    State.placedIn_congr (fun k => by rw [hmoved]; rfl) i
  rw [monitorHolds_toNat, monitorHolds_toNat, hv, State.monitor_setMonitor] at hchange
  have hi := htally i
  rw [hplaced, State.setMonitor_get_slot]
  generalize ((s.moveFallback l m.fallback).setMonitor l m).heldIn i = after at hchange ⊢
  rw [State.moveFallback_eq]
  by_cases hsame : m.fallback = (s.monitor l).fallback
  · rw [← hsame] at hchange
    rw [if_pos hsame]
    omega
  rw [if_neg hsame, State.slot_dropFallback, State.slot_takeFallback]
  have hview : (s.takeFallback l m.fallback).viewFallback l = s.viewFallback l := by
    rw [State.takeFallback_slots]; rfl
  rw [hview]
  by_cases hviewed : s.viewFallback l = some i
  · simp only [hviewed, true_or, if_true] at hchange
    simp only [hviewed, ne_eq, not_true_eq_false, and_false, if_false]
    omega
  by_cases hold : (s.monitor l).fallback = some i
  · have hnew : m.fallback ≠ some i := fun e => hsame (e.trans hold.symm)
    have hpos := htally.heldIn_le l i hold
    simp only [hviewed, hold, hnew, or_false, or_true, if_true, if_false] at hchange
    simp only [hviewed, hold, hnew, ne_eq, not_false_eq_true, and_true, if_true, if_false, slotLessRef_refCount]
    omega
  by_cases hnew : m.fallback = some i
  · simp only [hviewed, hold, hnew, or_false, or_true, if_true, if_false] at hchange
    simp only [hviewed, hold, hnew, ne_eq, not_false_eq_true, and_true, if_true, if_false]
    omega
  · simp only [hviewed, hold, hnew, or_false, if_false] at hchange
    simp only [hold, hnew, false_and, if_false]
    omega

/-! ### The fallbacks of the previous view (R156) -/

/-- The monitor of layer `l` names slot `i` no longer, but the view of the frame in progress took it. -/
def State.outlived (s : State) (i : Fin 64) (l : Fin 8) : Bool :=
  s.viewFallback l = some i && (s.monitor l).fallback ≠ some i

/-- The monitors that name slot `i` now. -/
def State.namedIn (s : State) (i : Fin 64) : Nat :=
  (List.finRange 8).countP fun l => (s.monitor l).fallback = some i

theorem State.dropViewFallback_eq (s : State) (l : Fin 8) :
    s.dropViewFallback l = { s with slots := (s.dropViewFallback l).slots } := by
  unfold State.dropViewFallback
  split
  · rfl
  · split <;> rfl

theorem State.slot_dropViewFallback (s : State) (l : Fin 8) (i : Fin 64) :
    (s.dropViewFallback l).slot i = if s.outlived i l then slotLessRef (s.slot i) else s.slot i := by
  unfold State.dropViewFallback State.outlived
  cases hv : s.viewFallback l with
  | none => simp
  | some y =>
    by_cases hy : y = i
    · subst hy
      by_cases hf : (s.monitor l).fallback = some y <;> simp [hf, State.dropRef]
    · have hne : i ≠ y := Ne.symm hy
      by_cases hf : (s.monitor l).fallback = some y <;> simp [hf, hy, State.dropRef, State.slot_setSlot_ne _ _ _ _ hne]

/-- Giving up the fallbacks of the previous view costs each slot one reference for each monitor that it outlived. -/
theorem State.foldl_dropViewFallback (ls : List (Fin 8)) (s : State) :
    ls.foldl State.dropViewFallback s = { s with slots := (ls.foldl State.dropViewFallback s).slots }
      ∧ ∀ i, (ls.foldl State.dropViewFallback s).slot i = slotLessRef^[ls.countP (s.outlived i)] (s.slot i) := by
  induction ls generalizing s with
  | nil => exact ⟨rfl, fun _ => rfl⟩
  | cons l rest ih =>
    obtain ⟨hrest, hslots⟩ := ih (s.dropViewFallback l)
    have heq := s.dropViewFallback_eq l
    refine ⟨?_, fun i => ?_⟩
    · rw [List.foldl_cons, hrest, heq]
    · have hout : (s.dropViewFallback l).outlived i = s.outlived i := by rw [heq]; rfl
      rw [List.foldl_cons, hslots, hout, State.slot_dropViewFallback, List.countP_cons]
      cases s.outlived i l <;> rfl

/-- What monitors hold are the slots that they name, and those that they have outlived. -/
theorem State.heldIn_eq (s : State) (i : Fin 64) :
    s.heldIn i = s.namedIn i + (List.finRange 8).countP (s.outlived i) := by
  rw [State.heldIn, State.namedIn, countP_finRange_eq_sum, countP_finRange_eq_sum, countP_finRange_eq_sum,
    ← Finset.sum_add_distrib]
  refine Finset.sum_congr rfl fun l _ => ?_
  by_cases hv : s.viewFallback l = some i <;> by_cases hf : (s.monitor l).fallback = some i <;>
    simp [monitorHolds, State.outlived, hv, hf]

theorem State.fallbackWork_eq (s : State) : s.fallbackWork = { s with slots := s.fallbackWork.slots } :=
  (State.foldl_dropViewFallback _ s).1

theorem State.slot_fallbackWork (s : State) (i : Fin 64) :
    s.fallbackWork.slot i = slotLessRef^[(List.finRange 8).countP (s.outlived i)] (s.slot i) :=
  (State.foldl_dropViewFallback _ s).2 i

theorem Tally.fallbackWork {s : State} (h : Tally s.heldIn s) : Tally s.namedIn s.fallbackWork := fun i => by
  have hi := h i
  rw [State.heldIn_eq] at hi
  rw [State.slot_fallbackWork, iterate_slotLessRef_refCount,
    State.placedIn_congr (s := s) fun m => by rw [State.fallbackWork_eq]; rfl]
  omega

end Sys2Proof.Machine
end


section
/-! PROOFS. The requests of the Capture Unit with the slots and reports that answer to them (R120, R121, R125, R134, R137):
what the end of requests, and the unit's own moves, make of them. -/

namespace Sys2Proof.Machine

/-! ### What the unit's invariant says -/

/-- R121: the active position and the result buffer are as the phase says. -/
def CaptureUnit.PhaseOk (c : CaptureUnit) : Prop := c.active.isSome = c.phase.serving ∧ resultFits c

/-- R120, R121, R125, R134, R137: the unit, with the slots and reports that answer to its requests. -/
structure RequestsOk (s : State) : Prop where
  queue : s.cap.queue.length ≤ Config.captureQueueMax
  outstanding : ∀ p,
    s.cap.requests.countP (fun r => r.requester = p) + (s.port p).reports.length ≤ Config.outstandingMax
  phase : s.cap.PhaseOk
  nodup : (s.cap.requests.map (·.slot)).Nodup
  flag : ∀ i, (s.slot i).captureFlag = true ↔ ∃ r ∈ s.cap.requests, r.slot = i
  slots : ∀ r ∈ s.cap.requests, (s.slot r.slot).owner = some r.requester ∧ r.crop.ok
    ∧ ((s.slot r.slot).state = .empty ∨ (s.slot r.slot).state = .ready)

/-- What the requests `rs` ask of the input (R120), and what its holder answers for (R105, R107). -/
structure InputOk (v : TrailerInput) (rs : List CaptureRequest) : Prop where
  serves : rs ≠ [] → v.captureEnabled = true ∧ v.lock ≠ .off
  enabled : v.captureEnabled = true → v.holder ≠ none
  off : v.holder = none → v.lock = .off

theorem State.outstanding_eq (s : State) (p : Port) :
    s.outstanding p = s.cap.requests.countP (fun r => r.requester = p) + (s.port p).reports.length := by
  unfold State.outstanding CaptureUnit.requests
  rw [List.countP_append, List.countP_eq_length_filter (l := s.cap.queue)]
  cases s.cap.active with
  | none => simp
  | some r => by_cases h : r.requester = p <;> simp [h]; omega

theorem captureOk_iff (s : State) : CaptureOk s ↔ RequestsOk s ∧ InputOk s.vin s.cap.requests := by
  unfold CaptureOk
  simp only [State.outstanding_eq]
  constructor
  · rintro ⟨hqueue, hout, hactive, hresult, hnodup, hflag, hslots, hserves, henabled, hoff⟩
    exact ⟨⟨hqueue, hout, ⟨hactive, hresult⟩, hnodup, hflag, hslots⟩, hserves, henabled, hoff⟩
  · rintro ⟨⟨hqueue, hout, ⟨hactive, hresult⟩, hnodup, hflag, hslots⟩, hserves, henabled, hoff⟩
    exact ⟨hqueue, hout, hactive, hresult, hnodup, hflag, hslots, hserves, henabled, hoff⟩

/-- Fewer requests ask for no more. -/
theorem InputOk.of_subset {v : TrailerInput} {rs rs' : List CaptureRequest} (h : InputOk v rs) (hs : rs' ⊆ rs) :
    InputOk v rs' where
  serves hne := h.serves fun he => hne (List.subset_nil.mp (he ▸ hs))
  enabled := h.enabled
  off := h.off

/-- A flag that is set stands on a slot that is EMPTY or READY. -/
theorem RequestsOk.state_of_flag {s : State} (h : RequestsOk s) {i : Fin 64} (hf : (s.slot i).captureFlag = true) :
    (s.slot i).state = .empty ∨ (s.slot i).state = .ready := by
  obtain ⟨r, hr, rfl⟩ := (h.flag i).mp hf
  obtain ⟨_, _, hstate⟩ := h.slots r hr
  exact hstate

/-- The owner of a flagged slot is a requester. -/
theorem RequestsOk.owner_of_flag {s : State} (h : RequestsOk s) {i : Fin 64} (hf : (s.slot i).captureFlag = true) :
    ∃ r ∈ s.cap.requests, (s.slot i).owner = some r.requester := by
  obtain ⟨r, hr, rfl⟩ := (h.flag i).mp hf
  exact ⟨r, hr, (h.slots r hr).1⟩

/-! ### Slots that serve the same requests -/

/-- Slot record `y` serves whatever request `x` serves: the flag is the same, and a flagged slot keeps its owner and stays
EMPTY or READY. -/
def Slot.Serves (x y : Slot) : Prop :=
  (x.captureFlag = true → x.state = .empty ∨ x.state = .ready) →
    y.captureFlag = x.captureFlag ∧ (x.captureFlag = true → y.owner = x.owner ∧ (y.state = .empty ∨ y.state = .ready))

theorem Slot.Serves.refl (x : Slot) : x.Serves x := fun h => ⟨rfl, fun hf => ⟨rfl, h hf⟩⟩

/-- A slot that serves no request before and none after. -/
theorem Slot.Serves.of_clear {x y : Slot} (hx : x.captureFlag = false) (hy : y.captureFlag = false) : x.Serves y :=
  fun _ => ⟨hy.trans hx.symm, fun hf => by rw [hx] at hf; cases hf⟩

/-- A slot neither EMPTY nor READY serves no request. -/
theorem Slot.Serves.of_state {x y : Slot} (hx : x.state ≠ .empty ∧ x.state ≠ .ready)
    (hy : x.captureFlag = false → y.captureFlag = false) : x.Serves y := fun h =>
  have hf : x.captureFlag = false := by
    by_contra hf
    exact (h (by simpa using hf)).elim hx.1 hx.2
  Slot.Serves.of_clear hf (hy hf) h

theorem Slot.Serves.trans {x y z : Slot} (h : x.Serves y) (k : y.Serves z) : x.Serves z := fun hx => by
  obtain ⟨hf, hs⟩ := h hx
  obtain ⟨kf, ks⟩ := k fun hy => (hs (hf ▸ hy)).2
  refine ⟨kf.trans hf, fun hx => ?_⟩
  obtain ⟨ho, hstate⟩ := ks (hf ▸ hx)
  exact ⟨ho.trans (hs hx).1, hstate⟩

/-- A change of the reference count alone. -/
theorem Slot.Serves.refCount (x : Slot) (n : Nat) : x.Serves { x with refCount := n } := Slot.Serves.refl x

theorem Slot.Serves.slotLessRef (x : Slot) : x.Serves (slotLessRef x) := by
  unfold Machine.slotLessRef
  split
  · rename_i h
    exact Slot.Serves.of_state (by simp [h.1]) fun _ => rfl
  · exact Slot.Serves.refCount x _

/-- What changes no request, adds no report and leaves every slot to serve, keeps the unit's invariant. -/
theorem RequestsOk.of_serves {s t : State} (h : RequestsOk s) (hcap : t.cap = s.cap)
    (hreports : ∀ q, (t.port q).reports.length ≤ (s.port q).reports.length) (hslots : ∀ i, (s.slot i).Serves (t.slot i)) :
    RequestsOk t := by
  have hserves (i : Fin 64) := hslots i h.state_of_flag
  refine ⟨hcap ▸ h.queue, fun p => ?_, hcap ▸ h.phase, hcap ▸ h.nodup, fun i => ?_, fun r hr => ?_⟩
  · have hout := h.outstanding p
    have hp := hreports p
    rw [hcap]
    omega
  · rw [(hserves i).1, hcap]
    exact h.flag i
  · rw [hcap] at hr
    obtain ⟨ho, hc, _⟩ := h.slots r hr
    obtain ⟨ho', hs'⟩ := (hserves r.slot).2 ((h.flag r.slot).mpr ⟨r, hr, rfl⟩)
    exact ⟨ho'.trans ho, hc, hs'⟩

/-! ### Requests that end -/

/-- Requests `gone` leave the unit: their slots' flags clear, and a flagged slot is as it was. -/
theorem RequestsOk.remove {s t : State} {gone : List CaptureRequest} (h : RequestsOk s)
    (hrequests : s.cap.requests.Perm (gone ++ t.cap.requests)) (hqueue : t.cap.queue.length ≤ s.cap.queue.length)
    (hphase : t.cap.PhaseOk)
    (hreports : ∀ q, (t.port q).reports.length ≤ (s.port q).reports.length + gone.countP fun r => r.requester = q)
    (hclear : ∀ r ∈ gone, (t.slot r.slot).captureFlag = false)
    (hkeep : ∀ i, (∀ r ∈ gone, r.slot ≠ i) → t.slot i = s.slot i) : RequestsOk t := by
  have hnodup : ((gone ++ t.cap.requests).map (·.slot)).Nodup := (hrequests.map (·.slot)).nodup_iff.mp h.nodup
  rw [List.map_append, List.nodup_append] at hnodup
  obtain ⟨_, hleft, hapart⟩ := hnodup
  have hmem {r : CaptureRequest} : r ∈ s.cap.requests ↔ r ∈ gone ∨ r ∈ t.cap.requests := by
    rw [hrequests.mem_iff, List.mem_append]
  have hother {r : CaptureRequest} (hr : r ∈ t.cap.requests) : t.slot r.slot = s.slot r.slot :=
    hkeep _ fun g hg => hapart _ (List.mem_map_of_mem hg) _ (List.mem_map_of_mem hr)
  refine ⟨hqueue.trans h.queue, fun p => ?_, hphase, hleft, fun i => ?_, fun r hr => ?_⟩
  · have hout := h.outstanding p
    have hp := hreports p
    rw [hrequests.countP_eq, List.countP_append] at hout
    omega
  · by_cases hg : ∃ r ∈ gone, r.slot = i
    · obtain ⟨g, hg, rfl⟩ := hg
      refine iff_of_false (by simp [hclear g hg]) ?_
      rintro ⟨r, hr, he⟩
      exact hapart _ (List.mem_map_of_mem hg) _ (List.mem_map_of_mem hr) he.symm
    · push Not at hg
      rw [hkeep i hg, h.flag i]
      refine exists_congr fun r => and_congr_left fun hi => ?_
      rw [hmem]
      exact or_iff_right fun hr => hg r hr hi
  · rw [hother hr]
    exact h.slots r (hmem.mpr (.inr hr))

/-- From `s` to `t` the requests `gone` have ended, with at most a report each, and the unit has moved on. -/
structure Ended (gone : List CaptureRequest) (s t : State) : Prop where
  requests : RequestsOk s → s.cap.requests.Perm (gone ++ t.cap.requests)
  queue : t.cap.queue.length ≤ s.cap.queue.length
  phase : RequestsOk s → t.cap.PhaseOk
  reports : ∀ q, (t.port q).reports.length ≤ (s.port q).reports.length + gone.countP fun r => r.requester = q
  slots : ∀ i, t.slot i = (s.slot i).unnamed i gone

/-- Some requests have ended from `s` to `t`. -/
def Retires (s t : State) : Prop := ∃ gone, Ended gone s t

theorem Slot.unnamed_nil (x : Slot) (i : Fin 64) : x.unnamed i [] = x := by simp [Slot.unnamed]

theorem Slot.unnamed_append (x : Slot) (i : Fin 64) (as bs : List CaptureRequest) :
    (x.unnamed i as).unnamed i bs = x.unnamed i (as ++ bs) := by
  by_cases ha : ∃ r ∈ as, r.slot = i <;> by_cases hb : ∃ r ∈ bs, r.slot = i <;>
    simp [Slot.unnamed, or_and_right, exists_or, ha, hb]

theorem Ended.requestsOk {gone : List CaptureRequest} {s t : State} (h : Ended gone s t) (hs : RequestsOk s) :
    RequestsOk t := by
  refine hs.remove (h.requests hs) h.queue (h.phase hs) h.reports (fun r hr => ?_) fun i hi => ?_
  · rw [h.slots, Slot.unnamed, if_pos ⟨r, hr, rfl⟩]
  · rw [h.slots, Slot.unnamed, if_neg (by simpa using hi)]

theorem Ended.trans {as bs : List CaptureRequest} {s t u : State} (h : Ended as s t) (k : Ended bs t u) :
    Ended (as ++ bs) s u where
  requests hs := by
    rw [List.append_assoc]
    exact (h.requests hs).trans ((k.requests (h.requestsOk hs)).append_left as)
  queue := k.queue.trans h.queue
  phase hs := k.phase (h.requestsOk hs)
  reports q := by
    have hs := h.reports q
    have ks := k.reports q
    rw [List.countP_append]
    omega
  slots i := by rw [k.slots, h.slots, Slot.unnamed_append]

theorem Retires.requestsOk {s t : State} (h : Retires s t) (hs : RequestsOk s) : RequestsOk t := by
  obtain ⟨_, h⟩ := h
  exact h.requestsOk hs

theorem Retires.subset {s t : State} (h : Retires s t) (hs : RequestsOk s) : t.cap.requests ⊆ s.cap.requests := by
  obtain ⟨_, h⟩ := h
  exact fun r hr => (h.requests hs).mem_iff.mpr (List.mem_append_right _ hr)

theorem Retires.trans {s t u : State} (h : Retires s t) (k : Retires t u) : Retires s u := by
  obtain ⟨_, h⟩ := h
  obtain ⟨_, k⟩ := k
  exact ⟨_, h.trans k⟩

/-- A step that leaves the unit, the slots and the reports. -/
theorem Retires.of_same {s t : State} (hcap : t.cap = s.cap) (hslots : t.slots = s.slots)
    (hreports : ∀ q, (t.port q).reports = (s.port q).reports) : Retires s t :=
  ⟨[], fun _ => hcap ▸ .refl _, hcap ▸ le_rfl, fun h => hcap ▸ h.phase, fun q => (hreports q ▸ le_rfl : _ ≤ _),
    fun i => by rw [Slot.unnamed_nil, State.slot, State.slot, hslots]⟩

theorem Retires.refl (s : State) : Retires s s := .of_same rfl rfl fun _ => rfl

/-- A move of the unit that keeps its requests. -/
theorem Retires.setCap {s : State} (c : CaptureUnit) (hr : s.cap.requests.Perm c.requests)
    (hq : c.queue.length ≤ s.cap.queue.length) (hp : s.cap.PhaseOk → c.PhaseOk) : Retires s (s.setCap c) :=
  ⟨[], fun _ => hr, hq, fun h => hp h.phase, fun _ => le_rfl, fun i => by rw [Slot.unnamed_nil]; rfl⟩

/-- A move of the unit that keeps the requests' places too. -/
theorem Retires.setCap_same {s : State} (c : CaptureUnit) (ha : c.active = s.cap.active) (hq : c.queue = s.cap.queue)
    (hp : s.cap.PhaseOk → c.PhaseOk) : Retires s (s.setCap c) :=
  .setCap c (by rw [CaptureUnit.requests, CaptureUnit.requests, ha, hq]) (by rw [hq]) hp

/-! ### Flags and reports -/

theorem State.reports_raise (s : State) (p q : Port) (f : EventFlag) :
    ((s.raise p f).port q).reports = (s.port q).reports := by
  by_cases h : q = p
  · subst h; rw [State.port_raise]
  · rw [State.port_raise_ne _ _ _ _ h]

theorem State.reports_raiseAt (s : State) (p : Option Port) (q : Port) (f : EventFlag) :
    ((s.raiseAt p f).port q).reports = (s.port q).reports := by
  cases p with
  | none => rfl
  | some p => exact s.reports_raise p q f

theorem State.reports_raiseAll (s : State) (q : Port) (f : EventFlag) :
    ((s.raiseAll f).port q).reports = (s.port q).reports := by
  rw [State.raiseAll, State.reports_raise, State.reports_raise, State.reports_raise]

/-- A report joins the list of its port (R139). -/
theorem State.reports_pushReport (s : State) (p q : Port) (r : CaptureReport) :
    ((s.pushReport p r).port q).reports = (s.port q).reports ++ if q = p then [r] else [] := by
  rw [State.pushReport, State.reports_raise]
  by_cases h : q = p
  · subst h; simp
  · rw [State.port_setPort_ne _ _ _ _ h]; simp [h]

/-- A request's end, with or without a report (R134). -/
theorem State.endRequest_slot (s : State) (r : CaptureRequest) (o : Option OutcomeCode) (i : Fin 64) :
    (s.endRequest r o).slot i = (s.slot i).unnamed i [r] := by
  have hslots : (s.endRequest r o).slot i = (s.setCaptureFlag r.slot false).slot i := by cases o <;> rfl
  rw [hslots]
  by_cases hi : r.slot = i
  · subst hi; simp [State.setCaptureFlag, Slot.unnamed]
  · simp [State.setCaptureFlag, Slot.unnamed, State.slot_setSlot_ne, Ne.symm hi, hi]

theorem State.endRequest_reports (s : State) (r : CaptureRequest) (o : Option OutcomeCode) (q : Port) :
    ((s.endRequest r o).port q).reports.length
      ≤ (s.port q).reports.length + [r].countP fun r => r.requester = q := by
  cases o with
  | none => exact Nat.le_add_right _ _
  | some o =>
    have h : ((s.endRequest r (some o)).port q).reports = (s.port q).reports ++ _ := State.reports_pushReport _ _ _ _
    rw [h]
    by_cases hq : q = r.requester
    · simp [hq]
    · simp [hq]

theorem State.endRequest_cap (s : State) (r : CaptureRequest) (o : Option OutcomeCode) : (s.endRequest r o).cap = s.cap := by
  cases o <;> rfl

theorem State.endRequests_slot (rs : List CaptureRequest) (o : Option OutcomeCode) (i : Fin 64) (s : State) :
    (rs.foldl (fun s r => s.endRequest r o) s).slot i = (s.slot i).unnamed i rs := by
  induction rs generalizing s with
  | nil => rw [Slot.unnamed_nil]; rfl
  | cons r rest ih => rw [List.foldl_cons, ih, State.endRequest_slot, Slot.unnamed_cons]

theorem State.endRequests_reports (rs : List CaptureRequest) (o : Option OutcomeCode) (q : Port) (s : State) :
    ((rs.foldl (fun s r => s.endRequest r o) s).port q).reports.length
      ≤ (s.port q).reports.length + rs.countP fun r => r.requester = q := by
  induction rs generalizing s with
  | nil => exact le_rfl
  | cons r rest ih =>
    have hrest := ih (s.endRequest r o)
    have hr := s.endRequest_reports r o q
    rw [List.countP_singleton] at hr
    rw [List.foldl_cons, List.countP_cons]
    omega

theorem State.endRequests_cap (rs : List CaptureRequest) (o : Option OutcomeCode) (s : State) :
    (rs.foldl (fun s r => s.endRequest r o) s).cap = s.cap :=
  foldl_keeps _ State.cap (fun s r => s.endRequest_cap r o) rs s

/-- Requests leave the unit, and then end one after the other (R134, R136, R138). -/
theorem Retires.endRequests {s : State} (rs : List CaptureRequest) (c : CaptureUnit) (o : Option OutcomeCode)
    (hr : RequestsOk s → s.cap.requests.Perm (rs ++ c.requests)) (hq : c.queue.length ≤ s.cap.queue.length)
    (hp : s.cap.PhaseOk → c.PhaseOk) : Retires s (rs.foldl (fun s r => s.endRequest r o) (s.setCap c)) := by
  have hcap := State.endRequests_cap rs o (s.setCap c)
  exact ⟨rs, fun h => by rw [hcap]; exact hr h, by rw [hcap]; exact hq, fun h => by rw [hcap]; exact hp h.phase,
    fun q => State.endRequests_reports rs o q _, fun i => State.endRequests_slot rs o i _⟩

/-! ### What the unit does -/

theorem CaptureUnit.requests_of_none {c : CaptureUnit} (h : c.active = none) : c.requests = c.queue := by
  rw [CaptureUnit.requests, h]; rfl

theorem CaptureUnit.requests_of_some {c : CaptureUnit} {r : CaptureRequest} (h : c.active = some r) :
    c.requests = r :: c.queue := by
  rw [CaptureUnit.requests, h]; rfl

/-- Out of service nothing is active and the buffer is empty (R121). -/
theorem CaptureUnit.PhaseOk.of_idle {c : CaptureUnit} (h : c.PhaseOk) (hp : c.phase = .idle ∨ c.phase = .recover) :
    c.active = none ∧ c.result = .empty := by
  obtain ⟨ha, hr⟩ := h
  rcases hp with hp | hp <;> simp_all [resultFits, Phase.serving]

/-- A unit out of service with an empty buffer. -/
theorem CaptureUnit.phaseOk_idle {c : CaptureUnit} (hp : c.phase = .idle ∨ c.phase = .recover) (ha : c.active = none)
    (hr : c.result = .empty) : c.PhaseOk := by
  rcases hp with hp | hp <;> simp [CaptureUnit.PhaseOk, resultFits, Phase.serving, hp, ha, hr]

/-- A change of the queue or of the sampled frame is none of the phase's business. -/
theorem CaptureUnit.PhaseOk.congr {c d : CaptureUnit} (h : c.PhaseOk) (ha : d.active = c.active) (hp : d.phase = c.phase)
    (hr : d.result = c.result) : d.PhaseOk := by
  unfold CaptureUnit.PhaseOk resultFits at *
  rwa [ha, hp, hr]

theorem State.abortActive_retires (s : State) (o : Option OutcomeCode) : Retires s (s.abortActive o) := by
  unfold State.abortActive
  cases ha : s.cap.active with
  | none => exact .refl s
  | some r =>
    refine Retires.endRequests [r] _ o (fun _ => by rw [CaptureUnit.requests_of_some ha]; rfl) le_rfl fun _ => ?_
    refine CaptureUnit.phaseOk_idle ?_ rfl rfl
    dsimp only
    split
    · exact .inl rfl
    · exact .inr rfl

theorem State.active_abortActive (s : State) (o : Option OutcomeCode) : (s.abortActive o).cap.active = none := by
  unfold State.abortActive
  cases ha : s.cap.active with
  | none => exact ha
  | some r => rw [State.endRequest_cap]; rfl

theorem State.queue_abortActive (s : State) (o : Option OutcomeCode) : (s.abortActive o).cap.queue = s.cap.queue := by
  unfold State.abortActive
  cases ha : s.cap.active with
  | none => rfl
  | some r => rw [State.endRequest_cap]; rfl

theorem startRequest_requests (c : CaptureUnit) (settle : Nat) (atMark : Bool) (r : CaptureRequest)
    (rest : List CaptureRequest) : (startRequest c settle atMark r rest).requests = r :: rest := by
  unfold startRequest
  split <;> rfl

theorem startRequest_queue (c : CaptureUnit) (settle : Nat) (atMark : Bool) (r : CaptureRequest)
    (rest : List CaptureRequest) : (startRequest c settle atMark r rest).queue = rest := by
  unfold startRequest
  split <;> rfl

theorem startRequest_phaseOk {c : CaptureUnit} (settle : Nat) (atMark : Bool) (r : CaptureRequest)
    (rest : List CaptureRequest) (h : c.result = .empty) : (startRequest c settle atMark r rest).PhaseOk := by
  unfold startRequest
  split
  · exact ⟨rfl, rfl, rfl⟩
  · exact ⟨rfl, h⟩

/-- Every queue splits at its first request that fits (R129). -/
theorem exists_firstFit (v : TrailerInput) (queue : List CaptureRequest) : ∃ dead rest, queue = dead ++ rest
    ∧ (∀ d ∈ dead, d.crop.fits v = false) ∧ ∀ b ∈ rest.head?, b.crop.fits v = true := by
  refine ⟨queue.takeWhile fun r => !r.crop.fits v, queue.dropWhile fun r => !r.crop.fits v,
    List.takeWhile_append_dropWhile.symm, fun d hd => ?_, fun b hb => ?_⟩
  · simpa using List.mem_takeWhile_imp hd
  · have hnot := List.head?_dropWhile_not (fun r : CaptureRequest => !r.crop.fits v) queue
    rw [Option.mem_def.mp hb] at hnot
    simpa using hnot

theorem State.reports_told (x : PortState) (q : Port) (rs : List CaptureRequest) (o : OutcomeCode) :
    (x.told q rs o).reports.length = x.reports.length + rs.countP fun r => r.requester = q := by
  simp [PortState.told, List.countP_eq_length_filter]

/-- Considering the queue in IDLE: requests that no longer fit end, and one may begin (R129). -/
theorem State.activate_retires (s : State) (atMark : Bool) : Retires s (s.activate atMark) := by
  unfold State.activate
  split
  · rename_i h
    obtain ⟨dead, rest, hqueue, hdead, hrest⟩ := exists_firstFit s.vin s.cap.queue
    obtain ⟨hports, hslots, hcap⟩ := activateFrom_told atMark dead rest s hdead hrest
    rw [hqueue]
    refine ⟨dead, fun hs => ?_, ?_, fun hs => ?_, fun q => ?_, hslots⟩
    · obtain ⟨hactive, _⟩ := hs.phase.of_idle (.inl h.1)
      rw [CaptureUnit.requests_of_none hactive, hqueue, hcap]
      cases rest with
      | nil => simp [CaptureUnit.requests, hactive]
      | cons b behind => dsimp only; rw [startRequest_requests]
    · rw [hqueue, hcap]
      cases rest with
      | nil => simp
      | cons b behind => dsimp only; rw [startRequest_queue]; simp; omega
    · obtain ⟨_, hresult⟩ := hs.phase.of_idle (.inl h.1)
      rw [hcap]
      cases rest with
      | nil => exact hs.phase.congr rfl rfl rfl
      | cons b behind => exact startRequest_phaseOk _ _ _ _ hresult
    · rw [hports, State.reports_told]
  · exact .refl s

theorem State.abortAll_retires (s : State) (o : OutcomeCode) : Retires s (s.abortAll o) := by
  refine (s.abortActive_retires (some o)).trans (Retires.endRequests _ _ _ (fun _ => ?_) (Nat.zero_le _) fun h => ?_)
  · simp [CaptureUnit.requests, s.active_abortActive (some o)]
  · exact h.congr rfl rfl rfl

theorem State.requests_abortAll (s : State) (o : OutcomeCode) : (s.abortAll o).cap.requests = [] := by
  have hcap : (s.abortAll o).cap = { (s.abortActive (some o)).cap with queue := [] } := State.endRequests_cap _ _ _
  rw [hcap]
  simp [CaptureUnit.requests, s.active_abortActive (some o)]

/-- The requests of one port leave, and the others stay (R138). -/
theorem State.abortOf_retires (s : State) (p : Port) :
    Retires s (s.abortOf p) ∧ ∀ r ∈ (s.abortOf p).cap.requests, r.requester ≠ p := by
  obtain ⟨t, hreq, hactive, ht⟩ : ∃ t, Retires s t ∧ (∀ r ∈ t.cap.active, r.requester ≠ p) ∧ s.abortOf p =
      (t.cap.queue.filter fun r => r.requester = p).foldl (fun s r => s.endRequest r none)
        (t.setCap { t.cap with queue := t.cap.queue.filter fun r => r.requester ≠ p }) := by
    cases ha : s.cap.active with
    | none => exact ⟨s, .refl s, by simp [ha], by simp [State.abortOf, ha]⟩
    | some r =>
      by_cases hr : r.requester = p
      · exact ⟨s.abortActive none, s.abortActive_retires none, by simp [State.active_abortActive],
          by simp [State.abortOf, ha, hr]⟩
      · exact ⟨s, .refl s, by simpa [ha] using hr, by simp [State.abortOf, ha, hr]⟩
  rw [ht]
  refine ⟨hreq.trans (Retires.endRequests _ _ _ (fun _ => ?_) (List.length_filter_le _ _) fun h => h.congr rfl rfl rfl),
    fun r hr => ?_⟩
  · have hsplit := List.filter_append_perm (fun r : CaptureRequest => decide (r.requester = p)) t.cap.queue
    have hneg : (t.cap.queue.filter fun r => !decide (r.requester = p)) = t.cap.queue.filter fun r => r.requester ≠ p := by
      simp
    rw [hneg] at hsplit
    refine ((hsplit.symm.append_left t.cap.active.toList).trans ?_)
    rw [← List.append_assoc]
    refine ((List.perm_append_comm (l₁ := t.cap.active.toList)).append_right _).trans ?_
    rw [List.append_assoc]
    rfl
  · rw [State.endRequests_cap] at hr
    rcases List.mem_append.mp hr with hr | hr
    · exact hactive r (by simpa using hr)
    · simpa using (List.mem_filter.mp hr).2

/-- A request withdrawn leaves alone: no other names its slot (R134, R137). -/
theorem State.cancelRequest_retires {s : State} {r : CaptureRequest} (hr : r ∈ s.cap.requests) :
    Retires s (s.cancelRequest r) := by
  unfold State.cancelRequest
  split
  · exact s.abortActive_retires _
  · rename_i ha
    have hqueue : r ∈ s.cap.queue := by
      rcases List.mem_append.mp hr with h | h
      · exact absurd (by simpa using h) ha
      · exact h
    refine Retires.endRequests [r] { s.cap with queue := s.cap.queue.filter fun q => q ≠ r } (some .cancelled)
      (fun hs => ?_) (List.length_filter_le _ _) fun h => h.congr rfl rfl rfl
    have hnodup : s.cap.queue.Nodup := ((List.nodup_append.mp hs.nodup.of_map).2).1
    have hperm : s.cap.queue.Perm (r :: s.cap.queue.filter fun q => q ≠ r) := by
      have h := List.perm_cons_erase hqueue
      have hne : (fun q => q != r) = fun q : CaptureRequest => decide (q ≠ r) := by funext q; simp [bne, beq_eq_decide]
      rwa [hnodup.erase_eq_filter, hne] at h
    refine (hperm.append_left s.cap.active.toList).trans ?_
    exact List.perm_middle

/-- A move of the lock state, with the abort it may bring (R114, R135). -/
theorem State.moveLock_retires (s : State) (st : LockState) : Retires s (s.moveLock st) := by
  have h : Retires s ((s.setVin { s.vin with lock := st }).raiseAll .vinChange) :=
    .of_same rfl rfl fun q => State.reports_raiseAll (s.setVin { s.vin with lock := st }) q _
  unfold State.moveLock
  split
  · exact .refl s
  · dsimp only
    split
    · exact h.trans (State.abortActive_retires _ _)
    · exact h

theorem State.setVin_retires (s : State) (x : TrailerInput) : Retires s (s.setVin x) := .of_same rfl rfl fun _ => rfl

theorem State.recoverIfOff_retires (s : State) : Retires s s.recoverIfOff := by
  unfold State.recoverIfOff
  split
  · rename_i h
    refine .setCap_same _ rfl rfl fun hp => ?_
    obtain ⟨ha, hr⟩ := hp.of_idle (.inr h.1)
    exact CaptureUnit.phaseOk_idle (.inl rfl) ha hr
  · exact .refl s

theorem State.requests_recoverIfOff (s : State) : s.recoverIfOff.cap.requests = s.cap.requests := by
  unfold State.recoverIfOff
  split <;> rfl

/-- Reception switched off leaves no request (R107, R109, R136). -/
theorem State.inputOff_retires (s : State) : Retires s s.inputOff ∧ s.inputOff.cap.requests = [] := by
  have hall : Retires s _ := ((s.setVin_retires { s.vin with goodCount := 0, badRun := 0, silence := 0, receiving := none }).trans
    (State.moveLock_retires _ .off)).trans (State.abortAll_retires _ .noInput)
  refine ⟨hall.trans (State.recoverIfOff_retires _), ?_⟩
  unfold State.inputOff
  rw [State.requests_recoverIfOff, State.requests_abortAll]

theorem beginSampled_retires (s : State) : Retires s (s.setCap (beginSampled s.cap)) := by
  unfold beginSampled
  split
  · exact .setCap_same _ rfl rfl fun h => h.congr rfl rfl rfl
  · exact .setCap_same _ rfl rfl id

theorem settleStep_retires (s : State) (v : TrailerInput) (good : Bool) (hp : s.cap.phase = .settle) :
    Retires s (s.setCap (settleStep v good s.cap)) := by
  unfold settleStep
  split
  · exact .setCap_same _ rfl rfl id
  split
  · refine .setCap_same _ rfl rfl fun h => ?_
    obtain ⟨ha, _⟩ := h
    rw [hp] at ha
    obtain ⟨r, hr⟩ := Option.isSome_iff_exists.mp ha
    simp [CaptureUnit.PhaseOk, resultFits, Phase.serving, hr]
  · exact .setCap_same _ rfl rfl fun h => h.congr rfl rfl rfl

theorem thumbnail_length (f : VideoFrame) (c : Crop) : (thumbnail f c).length = c.outWidth * c.outHeight := by
  simp [thumbnail, List.length_flatMap, mul_comm]

theorem sampleStep_retires (s : State) (good : Bool) (f : VideoFrame) :
    Retires s (s.setCap (sampleStep good f s.cap)) := by
  unfold sampleStep
  split
  · rename_i r hr
    refine .setCap_same _ rfl rfl fun _ => ?_
    simp [CaptureUnit.PhaseOk, resultFits, Phase.serving, hr, thumbnail_length]
  · exact .setCap_same _ rfl rfl fun h => h.congr rfl rfl rfl

end Sys2Proof.Machine
end


section
/-! PROOFS. What a part of a step does to the Slot Store's invariants (R47 to R49, R62, R65, R67, R120): the relation that
every write of slots, layers, ports, input and requests is shown to stand in, and the rules to show it by. -/

namespace Sys2Proof.Machine

/-! ### Slot records -/

/-- What a trigger uses of the timers' templates (R146, R150). -/
def TemplatesOk (s : State) : Prop := ∀ t, ∀ k ∈ (s.timer t).template, k.crop.ok

theorem TimersOk.templates {s : State} (h : TimersOk s) : TemplatesOk s := fun t k hk => by
  obtain ⟨_, _, _, _, _, _, _, _, _, _, htemplate⟩ := h t
  obtain ⟨_, _, _, hcrop, _⟩ := htemplate k hk
  exact hcrop

theorem SlotOk.freed (pixels : List Pixel) : SlotOk (Slot.freed pixels) :=
  ⟨.inl ⟨rfl, rfl⟩, Nat.zero_le _, Nat.zero_le _, nofun, nofun, rfl⟩

/-- A slot that is FREE has no reference (R47). -/
theorem SlotOk.ne_free {x : Slot} (h : SlotOk x) (hr : 0 < x.refCount) : x.state ≠ .free := by
  obtain ⟨_, _, _, _, _, hstate⟩ := h
  intro hs
  rw [hs] at hstate
  rw [hstate] at hr
  exact absurd hr (Nat.lt_irrefl 0)

theorem SlotOk.slotLessRef {x : Slot} (h : SlotOk x) : SlotOk (slotLessRef x) := by
  unfold Machine.slotLessRef
  split
  · exact SlotOk.freed x.pixels
  · rename_i hn
    obtain ⟨hdim, hpos, hpix, hflag, hvis, hstate⟩ := h
    refine ⟨hdim, hpos, hpix, hflag, hvis, ?_⟩
    cases hx : x.state with
    | free =>
      simp only [hx] at hstate ⊢
      rw [hstate]
      rfl
    | orphan =>
      simp only [hx] at hstate ⊢
      obtain ⟨ho, hr⟩ := hstate
      exact ⟨ho, by have := not_and.mp hn hx; omega⟩
    | empty | opening | opened | ready =>
      simp only [hx] at hstate ⊢
      exact hstate

theorem SlotOk.moreRefs {x : Slot} (h : SlotOk x) (hx : x.state ≠ .free) (n : Nat) :
    SlotOk { x with refCount := x.refCount + n } := by
  obtain ⟨hdim, hpos, hpix, hflag, hvis, hstate⟩ := h
  refine ⟨hdim, hpos, hpix, hflag, hvis, ?_⟩
  cases hs : x.state with
  | free => exact absurd hs hx
  | orphan =>
    simp only [hs] at hstate ⊢
    exact ⟨hstate.1, Nat.le_add_right_of_le hstate.2⟩
  | empty | opening | opened | ready =>
    simp only [hs] at hstate ⊢
    exact hstate

/-- A capture flag may stand on an EMPTY or READY slot alone (R49). -/
theorem SlotOk.withFlag {x : Slot} (h : SlotOk x) {b : Bool} (hb : b = true → x.state = .empty ∨ x.state = .ready) :
    SlotOk { x with captureFlag := b } := by
  obtain ⟨hdim, hpos, hpix, hflag, hvis, hstate⟩ := h
  refine ⟨hdim, hpos, hpix, hb, hvis, ?_⟩
  cases hs : x.state with
  | free =>
    have hclear : b = false := by
      by_contra hne
      simp [hs] at hb
      exact hne hb
    simp only [hs] at hstate ⊢
    rw [hstate, hclear]
    rfl
  | empty | opening | opened | ready | orphan =>
    simp only [hs] at hstate ⊢
    exact hstate

theorem SlotOk.unnamed {x : Slot} (h : SlotOk x) (i : Fin 64) (rs : List CaptureRequest) : SlotOk (x.unnamed i rs) := by
  unfold Slot.unnamed
  split
  · exact h.withFlag nofun
  · exact h

theorem Slot.unnamed_refCount (x : Slot) (i : Fin 64) (rs : List CaptureRequest) :
    (x.unnamed i rs).refCount = x.refCount := by
  unfold Slot.unnamed
  split <;> rfl

/-! ### The relation -/

/-- From `s` to `t` the invariants of the Slot Store hold on, with the references of monitors left as they were: the
counts whatever monitors hold (R62), the requests with templates to trigger from (R120, R150), and the slot records
(R47 to R49). -/
structure Holds (s t : State) : Prop where
  tally : ∀ held, Tally held s → Tally held t
  fallback : ∀ l, (t.monitor l).fallback = (s.monitor l).fallback
  view : ∀ l, t.viewFallback l = s.viewFallback l
  taken : FrameWork.fallback ∈ t.frameTaken → FrameWork.fallback ∈ s.frameTaken
  templates : TemplatesOk s → TemplatesOk t
  capture : TemplatesOk s → CaptureOk s → CaptureOk t
  slots : ∀ held, Tally held s → TemplatesOk s → CaptureOk s → SlotsOk s → SlotsOk t

/-- The same, and the timers keep their ranges (R142). -/
structure Keeps (s t : State) : Prop extends Holds s t where
  timers : TimersOk s → TimersOk t

theorem Holds.refl (s : State) : Holds s s where
  tally _ h := h
  fallback _ := rfl
  view _ := rfl
  taken h := h
  templates h := h
  capture _ h := h
  slots _ _ _ _ h := h

theorem Holds.trans {s t u : State} (h : Holds s t) (k : Holds t u) : Holds s u where
  tally held hs := k.tally held (h.tally held hs)
  fallback l := (k.fallback l).trans (h.fallback l)
  view l := (k.view l).trans (h.view l)
  taken hu := h.taken (k.taken hu)
  templates hs := k.templates (h.templates hs)
  capture ht hs := k.capture (h.templates ht) (h.capture ht hs)
  slots held hr ht hc hs := k.slots held (h.tally held hr) (h.templates ht) (h.capture ht hc) (h.slots held hr ht hc hs)

theorem Keeps.refl (s : State) : Keeps s s := { Holds.refl s with timers := id }

theorem Keeps.trans {s t u : State} (h : Keeps s t) (k : Keeps t u) : Keeps s u :=
  { h.toHolds.trans k.toHolds with timers := fun hs => k.timers (h.timers hs) }

theorem Keeps.foldl {α : Type} (f : State → α → State) (h : ∀ s a, Keeps s (f s a)) (as : List α) (s : State) :
    Keeps s (as.foldl f s) := by
  induction as generalizing s with
  | nil => exact .refl s
  | cons a rest ih => exact (h s a).trans (ih (f s a))

/-- With the timers untouched, the templates and the timers' ranges are as they were. -/
theorem Keeps.of_timers {s t : State} (ht : t.timers = s.timers) (tally : ∀ held, Tally held s → Tally held t)
    (fallback : ∀ l, (t.monitor l).fallback = (s.monitor l).fallback) (view : t.view = s.view)
    (taken : t.frameTaken = s.frameTaken) (capture : TemplatesOk s → CaptureOk s → CaptureOk t)
    (slots : ∀ held, Tally held s → TemplatesOk s → CaptureOk s → SlotsOk s → SlotsOk t) : Keeps s t where
  tally := tally
  fallback := fallback
  view l := by rw [State.viewFallback, State.viewFallback, view]
  taken h := taken ▸ h
  templates h := by
    unfold TemplatesOk State.timer at *
    rwa [ht]
  capture := capture
  slots := slots
  timers h := by
    unfold TimersOk State.timer at *
    rwa [ht]

/-! ### Writes beside the Slot Store -/

theorem CaptureOk.of_serves {s t : State} (h : CaptureOk s) (hcap : t.cap = s.cap) (hvin : t.vin = s.vin)
    (hreports : ∀ q, (t.port q).reports.length ≤ (s.port q).reports.length) (hslots : ∀ i, (s.slot i).Serves (t.slot i)) :
    CaptureOk t := by
  obtain ⟨hr, hi⟩ := (captureOk_iff s).mp h
  exact (captureOk_iff t).mpr ⟨hr.of_serves hcap hreports hslots, by rwa [hcap, hvin]⟩

/-- Fields that no claim about slots speaks of. -/
theorem Keeps.scenery (s : State) {order order' : List (Fin 8)} {back back' : Colour}
    {entries entries' : Vector PaletteEntry 256} {slices : Vector (Option Port) 32} {pin : Bool} {events : List Instr} :
    Keeps s { s with
      zLive := order, zPending := order', backdropLive := back, backdropPending := back', palLive := entries
      palPending := entries', sliceOwner := slices, resetPin := pin, pending := events } :=
  .of_timers rfl (fun _ h => h) (fun _ => rfl) rfl rfl (fun _ h => h) fun _ _ _ _ h => h

theorem Keeps.setPort (s : State) (p : Port) (x : PortState) (hx : x.reports.length ≤ (s.port p).reports.length) :
    Keeps s (s.setPort p x) := by
  refine .of_timers rfl (fun _ h => h) (fun _ => rfl) rfl rfl (fun _ h => h.of_serves rfl rfl (fun q => ?_)
    fun _ => .refl _) fun _ _ _ _ h => h
  by_cases hq : q = p
  · subst hq
    rwa [State.port_setPort]
  · rw [State.port_setPort_ne _ _ _ _ hq]

theorem Keeps.raise (s : State) (p : Port) (f : EventFlag) : Keeps s (s.raise p f) := .setPort s p _ le_rfl

theorem Keeps.raiseAt (s : State) (p : Option Port) (f : EventFlag) : Keeps s (s.raiseAt p f) := by
  cases p with
  | none => exact .refl s
  | some p => exact .raise s p f

theorem Keeps.setMonitor (s : State) (l : Fin 8) (m : Monitor) (hm : m.fallback = (s.monitor l).fallback) :
    Keeps s (s.setMonitor l m) := by
  refine .of_timers rfl (fun _ h => h) (fun k => ?_) rfl rfl (fun _ h => h) fun _ _ _ _ h => h
  by_cases hk : k = l
  · subst hk
    rw [State.monitor_setMonitor, hm]
  · rw [State.monitor_setMonitor_ne _ _ _ _ hk]

/-! ### Writes of slots and layers -/

/-- A write of layers and slots that leaves every slot to serve its request. -/
theorem Keeps.of_store {s t : State} (ht : t = { s with layers := t.layers, slots := t.slots })
    (tally : ∀ held, Tally held s → Tally held t) (serves : ∀ i, (s.slot i).Serves (t.slot i))
    (ok : ∀ held, Tally held s → SlotsOk s → SlotsOk t) : Keeps s t :=
  .of_timers (by rw [ht]) tally (fun _ => by rw [ht]; rfl) (by rw [ht]) (by rw [ht])
    (fun _ h => h.of_serves (by rw [ht]) (by rw [ht]) (fun _ => by rw [ht]; exact le_rfl) serves)
    fun held hr _ _ h => ok held hr h

theorem Keeps.setLayer (s : State) (l : Fin 8) (x : Layer) (hx : x.entries = (s.layer l).entries) :
    Keeps s (s.setLayer l x) := by
  refine .of_store rfl (fun _ h => h.of_eq (fun _ => rfl) fun m => ?_) (fun i => .refl _) fun _ _ h => h
  by_cases hm : m = l
  · subst hm
    rw [State.layer_setLayer, hx]
  · rw [State.layer_setLayer_ne _ _ _ _ hm]

theorem Keeps.setSlot (s : State) (i : Fin 64) (x : Slot) (hr : x.refCount = (s.slot i).refCount)
    (hx : (s.slot i).Serves x) (hok : SlotOk (s.slot i) → SlotOk x) : Keeps s (s.setSlot i x) := by
  have hcases {P : Fin 64 → Slot → Prop} (hi : P i x) (hne : ∀ j, P j (s.slot j)) (j : Fin 64) :
      P j ((s.setSlot i x).slot j) := by
    by_cases hj : j = i
    · subst hj
      rwa [State.slot_setSlot]
    · rw [State.slot_setSlot_ne _ _ _ _ hj]
      exact hne j
  exact .of_store rfl
    (fun _ h => h.of_eq (hcases (P := fun j y => y.refCount = (s.slot j).refCount) hr fun _ => rfl) fun _ => rfl)
    (hcases (P := fun j y => (s.slot j).Serves y) hx fun _ => .refl _)
    fun _ _ h => hcases (P := fun _ y => SlotOk y) (hok (h i)) h

/-- A layer lets go of entries, with their references (R3, R18, R19). -/
theorem Keeps.setLayer_dropRefs (s : State) (l : Fin 8) (x : Layer) (ps : List Placement)
    (hx : ∀ i, x.placedIn i + ps.countP (fun e => e.slot = i) = (s.layer l).placedIn i) :
    Keeps s ((s.setLayer l x).dropRefs ps) := by
  refine .of_store (by rw [State.dropRefs_eq]; rfl) (fun _ h => h.setLayer_dropRefs l x ps hx) (fun i => ?_)
    fun _ _ h i => ?_
  · rw [State.slot_dropRefs]
    exact iterate_slotLessRef_keeps (P := (s.slot i).Serves) (fun _ hy => hy.trans (.slotLessRef _)) _ (.refl _)
  · rw [State.slot_dropRefs]
    exact iterate_slotLessRef_keeps (fun _ hy => hy.slotLessRef) _ (h i)

/-- A layer takes entries on slots that are not FREE, with their references (R11, R31, R32). -/
theorem Keeps.setLayer_addRefs (s : State) (l : Fin 8) (x : Layer) (ps : List Placement)
    (hx : ∀ i, x.placedIn i = (s.layer l).placedIn i + ps.countP fun e => e.slot = i)
    (hfree : ∀ held, Tally held s → SlotsOk s → ∀ e ∈ ps, (s.slot e.slot).state ≠ .free) :
    Keeps s ((s.setLayer l x).addRefs ps) := by
  refine .of_store (by rw [State.addRefs_eq]; rfl) (fun _ h => h.setLayer_addRefs l x ps hx) (fun i => ?_)
    fun held hr h i => ?_
  · rw [State.slot_addRefs]
    exact .refCount _ _
  · rw [State.slot_addRefs]
    by_cases hn : ∃ e ∈ ps, e.slot = i
    · obtain ⟨e, he, rfl⟩ := hn
      exact (h e.slot).moreRefs (hfree held hr h e he) _
    · have hzero : ps.countP (fun e => e.slot = i) = 0 := List.countP_eq_zero.mpr (by simpa using hn)
      rw [hzero]
      exact h i

/-! ### Writes of the input and of requests -/

/-- Requests end and the input moves (R120, R134): what is left of the requests asks for no more than the input gives. -/
theorem Keeps.of_retires {s t : State} (hr : Retires s t)
    (ht : t = { s with vin := t.vin, cap := t.cap, slots := t.slots, ports := t.ports })
    (hin : RequestsOk s → InputOk s.vin s.cap.requests → InputOk t.vin t.cap.requests) : Keeps s t := by
  obtain ⟨gone, hended⟩ := hr
  refine .of_timers (by rw [ht]) (fun _ h => h.of_eq (fun i => ?_) fun _ => by rw [ht]; rfl) (fun _ => by rw [ht]; rfl)
    (by rw [ht]) (by rw [ht]) (fun _ h => ?_) fun _ _ _ _ h i => ?_
  · rw [hended.slots, Slot.unnamed_refCount]
  · obtain ⟨hreq, hinput⟩ := (captureOk_iff s).mp h
    exact (captureOk_iff t).mpr ⟨hended.requestsOk hreq, hin hreq hinput⟩
  · rw [hended.slots]
    exact (h i).unnamed i gone

theorem Keeps.of_only {s t : State} (hr : Retires s t) (ho : OnlyCapture s t) : Keeps s t := by
  refine .of_retires hr (by rw [ho]) fun hs hin => ?_
  have hvin : t.vin = s.vin := by rw [ho]
  rw [hvin]
  exact hin.of_subset (hr.subset hs)

theorem Keeps.setVin (s : State) (v : TrailerInput) (hin : ∀ rs, InputOk s.vin rs → InputOk v rs) : Keeps s (s.setVin v) :=
  .of_retires (s.setVin_retires v) rfl fun _ h => hin _ h

theorem Keeps.setCap {s : State} {c : CaptureUnit} (hr : Retires s (s.setCap c)) : Keeps s (s.setCap c) := .of_only hr rfl

theorem Keeps.activate (s : State) (atMark : Bool) : Keeps s (s.activate atMark) :=
  .of_only (s.activate_retires atMark) (s.activate_only atMark)

end Sys2Proof.Machine
end


section
/-! PROOFS. Requests accepted, thumbnails taken over, and the timers that trigger captures, with the invariants of the Slot
Store (R68, R123, R124, R129, R132, R146 to R150). -/

namespace Sys2Proof.Machine

/-! ### A request accepted (R124) -/

theorem Crop.ok_of_fault {c : Crop} {v : TrailerInput} (h : c.fault v = none) : c.ok := by
  unfold Crop.fault at h
  split at h
  · cases h
  rename_i hrange
  split at h
  · cases h
  rename_i hlow
  split at h
  · cases h
  rename_i hhigh
  obtain ⟨hdx, hdx', hdy, hdy', _⟩ := not_not.mp hrange
  obtain ⟨hw, hh⟩ := not_not.mp hlow
  obtain ⟨hw', hh', harea⟩ := not_not.mp hhigh
  exact ⟨hdx, hdx', hdy, hdy', hw, hw', hh, hh', harea⟩

theorem State.slot_setCaptureFlag (s : State) (i j : Fin 64) (b : Bool) : (s.setCaptureFlag i b).slot j =
    if j = i then { s.slot j with captureFlag := b } else s.slot j := by
  unfold State.setCaptureFlag
  split
  · rename_i h
    subst h
    rw [State.slot_setSlot]
  · rename_i h
    rw [State.slot_setSlot_ne _ _ _ _ h]

/-- What the checks of R123 and R150 have established of a request before it is accepted. -/
structure Admits (s : State) (r : CaptureRequest) : Prop where
  queue : s.cap.queue.length < Config.captureQueueMax
  outstanding : s.outstanding r.requester < Config.outstandingMax
  owner : (s.slot r.slot).owner = some r.requester
  state : (s.slot r.slot).state = .empty ∨ (s.slot r.slot).state = .ready
  clear : (s.slot r.slot).captureFlag = false
  input : s.vin.captureEnabled = true ∧ s.vin.lock ≠ .off

/-- A request joins the tail of the queue, and its slot's flag is set. -/
def State.enqueue (s : State) (r : CaptureRequest) : State :=
  (s.setCap { s.cap with queue := s.cap.queue ++ [r] }).setCaptureFlag r.slot true

theorem State.acceptRequest_eq (s : State) (r : CaptureRequest) (atMark : Bool) :
    s.acceptRequest r atMark = (s.enqueue r).activate atMark := rfl

theorem State.requests_enqueue (s : State) (r : CaptureRequest) :
    (s.enqueue r).cap.requests = s.cap.requests ++ [r] := by
  rw [CaptureUnit.requests, CaptureUnit.requests, List.append_assoc]
  rfl

theorem State.slot_enqueue (s : State) (r : CaptureRequest) (i : Fin 64) : (s.enqueue r).slot i =
    if i = r.slot then { s.slot i with captureFlag := true } else s.slot i :=
  State.slot_setCaptureFlag _ _ _ _

theorem RequestsOk.enqueue {s : State} (h : RequestsOk s) {r : CaptureRequest} (ha : Admits s r) (hcrop : r.crop.ok) :
    RequestsOk (s.enqueue r) := by
  have hfresh : ∀ q ∈ s.cap.requests, q.slot ≠ r.slot := fun q hq he => by
    have hset := (h.flag r.slot).mpr ⟨q, hq, he⟩
    rw [ha.clear] at hset
    cases hset
  refine ⟨?_, fun p => ?_, h.phase.congr rfl rfl rfl, ?_, fun i => ?_, fun q hq => ?_⟩
  · show (s.cap.queue ++ [r]).length ≤ _
    rw [List.length_append]
    exact ha.queue
  · have hp := h.outstanding p
    have hr := ha.outstanding
    rw [State.outstanding_eq] at hr
    rw [State.requests_enqueue, List.countP_append, List.countP_singleton]
    show _ + (s.port p).reports.length ≤ _
    by_cases he : r.requester = p
    · subst he
      rw [if_pos (by simp)]
      omega
    · rw [if_neg (by simpa using he)]
      exact hp
  · rw [State.requests_enqueue, List.map_append, List.nodup_append]
    refine ⟨h.nodup, List.nodup_singleton _, fun a ha b hb => ?_⟩
    obtain ⟨q, hq, rfl⟩ := List.mem_map.mp ha
    obtain rfl := List.mem_singleton.mp hb
    exact hfresh q hq
  · rw [State.slot_enqueue, State.requests_enqueue]
    by_cases hi : i = r.slot
    · rw [if_pos hi]
      exact iff_of_true rfl ⟨r, by simp, hi.symm⟩
    · rw [if_neg hi, h.flag i]
      simp only [List.mem_append, List.mem_singleton, or_and_right, exists_or, exists_eq_left, Ne.symm hi, or_false]
  · rw [State.requests_enqueue, List.mem_append, List.mem_singleton] at hq
    rcases hq with hq | rfl
    · rw [State.slot_enqueue, if_neg (hfresh q hq)]
      exact h.slots q hq
    · rw [State.slot_enqueue, if_pos rfl]
      exact ⟨ha.owner, hcrop, ha.state⟩

theorem Keeps.enqueue {s : State} {r : CaptureRequest} (ha : Admits s r) (hcrop : TemplatesOk s → r.crop.ok) :
    Keeps s (s.enqueue r) := by
  refine .of_timers rfl (fun _ h => h.of_eq (fun i => ?_) fun _ => rfl) (fun _ => rfl) rfl rfl (fun ht h => ?_)
    fun _ _ _ _ h i => ?_
  · rw [State.slot_enqueue]
    split <;> rfl
  · obtain ⟨hreq, hin⟩ := (captureOk_iff s).mp h
    exact (captureOk_iff _).mpr ⟨hreq.enqueue ha (hcrop ht), fun _ => ha.input, hin.enabled, hin.off⟩
  · rw [State.slot_enqueue]
    split
    · rename_i hi
      subst hi
      exact (h _).withFlag fun _ => ha.state
    · exact h i

theorem Keeps.acceptRequest {s : State} {r : CaptureRequest} (ha : Admits s r) (hcrop : TemplatesOk s → r.crop.ok)
    (atMark : Bool) : Keeps s (s.acceptRequest r atMark) := (Keeps.enqueue ha hcrop).trans (.activate _ atMark)

/-! ### A thumbnail taken over (R68, R132) -/

theorem SlotOk.takenOver {x : Slot} (hx : SlotOk x) {w h : Nat} {cs : List Colour} (ho : x.owner ≠ none)
    (hs : x.state = .empty ∨ x.state = .ready) (hw : 1 ≤ w ∧ w ≤ 256) (hh : 1 ≤ h ∧ h ≤ 256)
    (harea : w * h ≤ Config.slotPixels) (hcs : cs.length = w * h) : SlotOk (takenOver x w h cs) := by
  obtain ⟨_, _, _, _, hvis, _⟩ := hx
  refine ⟨.inr ⟨hw.1, hw.2, hh.1, hh.2, harea⟩, le_rfl, ?_, nofun, fun hv => ?_, ho, rfl⟩
  · simp only [Machine.takenOver, List.length_append, List.length_map, hcs]
    exact Nat.le_add_right _ _
  · rcases hs with hs | hs <;> rw [hvis hv] at hs <;> cases hs

/-- The unit after a takeover (R132). -/
def CaptureUnit.handedOver (c : CaptureUnit) : CaptureUnit :=
  { c with active := none, phase := .idle, sampled := .none, result := .empty }

/-- A thumbnail in its slot, and the report of it (R68, R132, R139). -/
def State.handOver (s : State) (r : CaptureRequest) (w h : Nat) (cs : List Colour) : State :=
  ((s.setSlot r.slot (takenOver (s.slot r.slot) w h cs)).setCap s.cap.handedOver).pushReport r.requester
    ⟨r.tag, r.slot, .ok, r.origin⟩

theorem State.takeoverWork_of_held {s : State} {r : CaptureRequest} {w h : Nat} {cs : List Colour}
    (hp : s.cap.phase = .held) (ha : s.cap.active = some r) (hr : s.cap.result = .finished w h cs) :
    s.takeoverWork = (s.handOver r w h cs).activate false := by
  rw [State.takeoverWork, hp, ha, hr]
  rfl

theorem State.takeoverWork_of_ne {s : State} (hp : s.cap.phase ≠ .held) : s.takeoverWork = s := by
  unfold State.takeoverWork
  split
  · contradiction
  · rfl

section
variable {s : State} {r : CaptureRequest} {w h : Nat} {cs : List Colour}

theorem State.slot_handOver_same : (s.handOver r w h cs).slot r.slot = takenOver (s.slot r.slot) w h cs :=
  State.slot_setSlot _ _ _

theorem State.slot_handOver_ne {i : Fin 64} (hi : i ≠ r.slot) : (s.handOver r w h cs).slot i = s.slot i :=
  State.slot_setSlot_ne _ _ _ _ hi

theorem State.reports_handOver (q : Port) : ((s.handOver r w h cs).port q).reports =
    (s.port q).reports ++ if q = r.requester then [⟨r.tag, r.slot, .ok, r.origin⟩] else [] :=
  State.reports_pushReport _ _ _ _

theorem RequestsOk.handOver (hs : RequestsOk s) (ha : s.cap.active = some r) : RequestsOk (s.handOver r w h cs) := by
  refine hs.remove (gone := [r]) ?_ le_rfl (CaptureUnit.phaseOk_idle (.inl rfl) rfl rfl) (fun q => ?_) (fun q hq => ?_)
    fun i hi => State.slot_handOver_ne (Ne.symm (hi r (List.mem_singleton_self r)))
  · rw [CaptureUnit.requests_of_some ha]
    rfl
  · rw [State.reports_handOver, List.countP_singleton]
    by_cases hq : q = r.requester <;> simp [hq]
  · obtain rfl := List.mem_singleton.mp hq
    rw [State.slot_handOver_same]
    rfl

theorem Keeps.handOver (hp : s.cap.phase = .held) (ha : s.cap.active = some r) (hr : s.cap.result = .finished w h cs) :
    Keeps s (s.handOver r w h cs) := by
  refine .of_timers rfl (fun _ hc => hc.of_eq (fun i => ?_) fun _ => rfl) (fun _ => rfl) rfl rfl (fun _ hc => ?_)
    fun _ _ _ hc hok i => ?_
  · by_cases hi : i = r.slot
    · subst hi
      rw [State.slot_handOver_same]
      rfl
    · rw [State.slot_handOver_ne hi]
  · obtain ⟨hreq, hin⟩ := (captureOk_iff s).mp hc
    refine (captureOk_iff _).mpr ⟨hreq.handOver ha, hin.of_subset fun q hq => ?_⟩
    rw [CaptureUnit.requests_of_some ha]
    exact List.mem_cons_of_mem r hq
  · by_cases hi : i = r.slot
    · subst hi
      obtain ⟨hreq, _⟩ := (captureOk_iff s).mp hc
      obtain ⟨ho, ⟨_, _, _, _, hw, hw', hh, hh', harea⟩, hstate⟩ := hreq.slots r (by
        rw [CaptureUnit.requests_of_some ha]; exact List.mem_cons_self)
      obtain ⟨_, hfit⟩ := hreq.phase
      rw [resultFits, hp, ha, hr] at hfit
      obtain ⟨rfl, rfl, hcs⟩ := hfit
      rw [State.slot_handOver_same]
      exact (hok _).takenOver (by rw [ho]; nofun) hstate ⟨hw, hw'⟩ ⟨hh, hh'⟩ harea hcs
    · rw [State.slot_handOver_ne hi]
      exact hok i

end

theorem Keeps.takeoverWork (s : State) : Keeps s s.takeoverWork := by
  unfold State.takeoverWork
  split
  · rename_i r w h cs hp ha hr
    exact (Keeps.handOver hp ha hr).trans (.activate _ false)
  · exact .refl s

end Sys2Proof.Machine
end


section
/-! PROOFS. The frame timers within their ranges (R142, R145 to R150), and their work with the invariants of the Slot
Store. -/

namespace Sys2Proof.Machine

/-! ### Timer records -/

/-- A running timer has a holder (R142, R144). -/
theorem TimerOk.held {m : FrameTimer} (h : TimerOk m) (hr : m.running = true) : m.holder ≠ none := fun hn => by
  obtain ⟨hreset, _⟩ := h
  rw [hreset hn] at hr
  cases hr

theorem TimerOk.reset : TimerOk FrameTimer.reset := by
  refine ⟨fun _ => rfl, .inl rfl, ?_⟩
  simp [FrameTimer.reset, Config.timerMax]

theorem TimerOk.claimed {m : FrameTimer} (h : TimerOk m) (hm : m.holder = none) (p : Port) :
    TimerOk { m with holder := some p } := by
  obtain ⟨hreset, _⟩ := h
  rw [hreset hm]
  refine ⟨nofun, .inl rfl, ?_⟩
  simp [FrameTimer.reset, Config.timerMax]

/-- TMR_SETUP on a stopped timer (R145). -/
theorem TimerOk.setUp {m : FrameTimer} (h : TimerOk m) (hh : m.holder ≠ none) (hr : m.running = false)
    (source : TimerSource) {prescaler : Nat}
    (hp : prescaler = 1 ∨ prescaler = 2 ∨ prescaler = 4 ∨ prescaler = 8) {reload : Nat}
    (hl : 1 ≤ reload ∧ reload ≤ Config.timerMax) (mode : TimerMode) (action : TimerAction) :
    TimerOk { m with
      source := source, prescaler := prescaler, reload := reload, mode := mode, action := action, count := reload
      prescaleCount := 0, measured := 0 } := by
  obtain ⟨_, _, _, _, _, _, _, _, _, hnone, htemplate⟩ := h
  exact ⟨fun hn => absurd hn hh, hp, show 0 < prescaler by omega, hl.1, hl.2, hl.2, Nat.zero_le _,
    fun _ => ⟨hl.1, le_rfl, fun _ => ⟨rfl, rfl⟩⟩, fun hrun => absurd hrun (by simp [hr]), hnone, htemplate⟩

/-- TMR_TEMPLATE on a stopped timer (R146). -/
theorem TimerOk.withTemplate {m : FrameTimer} (h : TimerOk m) (hh : m.holder ≠ none) (hr : m.running = false)
    {k : Template} (hcrop : k.crop.ok) (hcount : 1 ≤ k.count ∧ k.count ≤ 16) (hfirst : k.first + k.count ≤ 64) :
    TimerOk { m with template := some k, templateIndex := 0 } := by
  obtain ⟨_, hpre, hpc, hr1, hr2, hc, hm, hmode, _, _, _⟩ := h
  refine ⟨fun hn => absurd hn hh, hpre, hpc, hr1, hr2, hc, hm, hmode, fun hrun => absurd hrun (by simp [hr]), nofun,
    fun k' hk' => ?_⟩
  obtain rfl := Option.mem_some.mp hk'
  exact ⟨hcount.1, hcount.2, hfirst, hcrop, hcount.1⟩

/-- TMR_START (R147). -/
theorem TimerOk.started {m : FrameTimer} (h : TimerOk m) (hh : m.holder ≠ none)
    (hcapture : ¬ (m.action = .capture ∧ m.mode ≠ .measure ∧ m.template = none)) : TimerOk (startedTimer m) := by
  obtain ⟨_, hpre, hpc, hr1, hr2, hc, hm, hmode, _, hnone, htemplate⟩ := h
  unfold startedTimer
  split
  · rename_i hmeasure
    exact ⟨fun hn => absurd hn hh, hpre, hpc, hr1, hr2, Nat.zero_le _, Nat.zero_le _, fun hne => absurd hmeasure hne,
      fun _ hne => absurd hmeasure hne, hnone, htemplate⟩
  all_goals
    refine ⟨fun hn => absurd hn hh, hpre, hpc, hr1, hr2, hc, hm, fun hne => ?_,
      fun _ hne ha ht => hcapture ⟨ha, hne, ht⟩, hnone, htemplate⟩
    obtain ⟨h1, h2, _⟩ := hmode hne
    exact ⟨h1, h2, nofun⟩

/-- TMR_STOP (R147). -/
theorem TimerOk.stopped {m : FrameTimer} (h : TimerOk m) (hh : m.holder ≠ none) :
    TimerOk { m with running := false, count := m.reload, prescaleCount := 0 } := by
  obtain ⟨_, hpre, _, hr1, hr2, _, hm, _, _, hnone, htemplate⟩ := h
  exact ⟨fun hn => absurd hn hh, hpre, show 0 < m.prescaler by omega, hr1, hr2, hr2, hm,
    fun _ => ⟨hr1, le_rfl, fun _ => ⟨rfl, rfl⟩⟩, nofun, hnone, htemplate⟩

/-- A MEASURE timer's interval (R152). -/
theorem TimerOk.measuring {m : FrameTimer} (h : TimerOk m) (hr : m.running = true) (hmode : m.mode = .measure)
    {count measured : Nat} (hc : count ≤ Config.timerMax) (hm : measured ≤ Config.timerMax) :
    TimerOk { m with count := count, measured := measured } := by
  have hh := h.held hr
  obtain ⟨_, hpre, hpc, hr1, hr2, _, _, _, hcapture, hnone, htemplate⟩ := h
  exact ⟨fun hn => absurd hn hh, hpre, hpc, hr1, hr2, hc, hm, fun hne => absurd hmode hne, hcapture, hnone, htemplate⟩

/-- A source event that the prescaler counts (R148). -/
theorem TimerOk.prescaled {m : FrameTimer} (h : TimerOk m) (hr : m.running = true)
    (hp : m.prescaleCount + 1 < m.prescaler) : TimerOk { m with prescaleCount := m.prescaleCount + 1 } := by
  have hh := h.held hr
  obtain ⟨_, hpre, _, hr1, hr2, hc, hm, hmode, hcapture, hnone, htemplate⟩ := h
  refine ⟨fun hn => absurd hn hh, hpre, hp, hr1, hr2, hc, hm, fun hne => ?_, hcapture, hnone, htemplate⟩
  obtain ⟨h1, h2, _⟩ := hmode hne
  exact ⟨h1, h2, fun hrun => absurd hrun (by simp [hr])⟩

/-- A count that does not yet reach 0 (R148). -/
theorem TimerOk.counted {m : FrameTimer} (h : TimerOk m) (hr : m.running = true) (hcount : 1 < m.count) :
    TimerOk { m with prescaleCount := 0, count := m.count - 1 } := by
  have hh := h.held hr
  obtain ⟨_, hpre, _, hr1, hr2, hc, hm, hmode, hcapture, hnone, htemplate⟩ := h
  refine ⟨fun hn => absurd hn hh, hpre, show 0 < m.prescaler by omega, hr1, hr2, (Nat.sub_le _ _).trans hc, hm,
    fun hne => ?_, hcapture, hnone, htemplate⟩
  obtain ⟨_, h2, _⟩ := hmode hne
  exact ⟨show 1 ≤ m.count - 1 by omega, (Nat.sub_le _ _).trans h2, fun hrun => absurd hrun (by simp [hr])⟩

/-- A timer after an expiry (R149), at place `index` of its template (R150). -/
def FrameTimer.expired (m : FrameTimer) (index : Nat) : FrameTimer :=
  { m with
    templateIndex := index, count := m.reload, prescaleCount := 0, running := m.running && m.mode ≠ .oneshot }

/-- The places of a template that an expiry may lead to: the one it is at, or the next one (R150). -/
def FrameTimer.NextPlace (m : FrameTimer) (index : Nat) : Prop :=
  index = m.templateIndex ∨ ∃ k, m.template = some k ∧ index = nextIndex k m.templateIndex

theorem TimerOk.expired {m : FrameTimer} (h : TimerOk m) (hr : m.running = true) {index : Nat}
    (hindex : m.NextPlace index) : TimerOk (m.expired index) := by
  have hh := h.held hr
  obtain ⟨_, hpre, _, hr1, hr2, _, hm, _, hcapture, hnone, htemplate⟩ := h
  refine ⟨fun hn => absurd hn hh, hpre, show 0 < m.prescaler by omega, hr1, hr2, hr2, hm,
    fun _ => ⟨hr1, le_rfl, fun _ => ⟨rfl, rfl⟩⟩, fun _ => hcapture hr, fun ht => ?_, fun k hk => ?_⟩
  · rcases hindex with rfl | ⟨k, hk, _⟩
    · exact hnone ht
    · exact nomatch hk.symm.trans ht
  · obtain ⟨hk1, hk2, hk3, hk4, hk5⟩ := htemplate k hk
    refine ⟨hk1, hk2, hk3, hk4, ?_⟩
    rcases hindex with rfl | ⟨k', hk', rfl⟩
    · exact hk5
    · obtain rfl := Option.some.inj (hk'.symm.trans hk)
      exact Nat.mod_lt _ hk1

/-! ### Writes of a timer -/

theorem State.timer_setTimer_cases {P : Fin 4 → FrameTimer → Prop} (s : State) (t : Fin 4) (m : FrameTimer) (hm : P t m)
    (hs : ∀ i, i ≠ t → P i (s.timer i)) (i : Fin 4) : P i ((s.setTimer t m).timer i) := by
  by_cases hi : i = t
  · subst hi
    rwa [State.timer_setTimer]
  · rw [State.timer_setTimer_ne _ _ _ _ hi]
    exact hs i hi

theorem State.setTimer_timer_self (s : State) (t : Fin 4) : s.setTimer t (s.timer t) = s := by
  rw [State.setTimer, State.timer, Vector.set_getElem_self]

theorem State.setTimer_twice (s : State) (t : Fin 4) (x y : FrameTimer) :
    (s.setTimer t x).setTimer t y = s.setTimer t y := by simp [State.setTimer]

/-- A write of a timer with the template it had. -/
theorem Holds.setTimer (s : State) (t : Fin 4) (m : FrameTimer) (hm : m.template = (s.timer t).template) :
    Holds s (s.setTimer t m) where
  tally _ h := h
  fallback _ := rfl
  view _ := rfl
  taken h := h
  templates h := State.timer_setTimer_cases (P := fun _ m => ∀ k ∈ m.template, k.crop.ok) s t m (hm ▸ h t) fun i _ => h i
  capture _ h := h
  slots _ _ _ _ h := h

theorem TimersOk.setTimer {s : State} (h : TimersOk s) (t : Fin 4) {m : FrameTimer} (hm : TimerOk m) :
    TimersOk (s.setTimer t m) :=
  State.timer_setTimer_cases (P := fun _ m => TimerOk m) s t m hm fun i _ => h i

theorem Keeps.setTimer (s : State) (t : Fin 4) (m : FrameTimer) (ht : m.template = (s.timer t).template)
    (hm : TimerOk (s.timer t) → TimerOk m) : Keeps s (s.setTimer t m) :=
  { Holds.setTimer s t m ht with timers := fun h => h.setTimer t (hm (h t)) }

/-- A write of a template that triggers may use (R146). -/
theorem Keeps.setTemplate (s : State) (t : Fin 4) (m : FrameTimer) (hcrop : ∀ k ∈ m.template, k.crop.ok)
    (hm : TimerOk (s.timer t) → TimerOk m) : Keeps s (s.setTimer t m) where
  tally _ h := h
  fallback _ := rfl
  view _ := rfl
  taken h := h
  templates h := State.timer_setTimer_cases (P := fun _ m => ∀ k ∈ m.template, k.crop.ok) s t m hcrop fun i _ => h i
  capture _ h := h
  slots _ _ _ _ h := h
  timers h := h.setTimer t (hm (h t))

/-! ### Triggers and expiries (R149, R150) -/

/-- A trigger: ignored, missed, or accepted (R150). -/
theorem State.trigger_cases (s : State) (t : Fin 4) (atMark : Bool) : s.trigger t atMark = s
    ∨ (∃ p, s.trigger t atMark = s.raise p .trigMiss)
    ∨ ∃ r k, (s.timer t).template = some k ∧ Admits s r ∧ r.crop = k.crop ∧ s.trigger t atMark =
      (s.acceptRequest r atMark).setTimer t { s.timer t with templateIndex := nextIndex k (s.timer t).templateIndex } := by
  unfold State.trigger
  dsimp only
  split
  · rename_i p k hp hk
    split
    · exact .inl rfl
    rename_i hin
    split
    · exact .inr (.inl ⟨p, rfl⟩)
    · rename_i i _
      split
      · rename_i hadmit
        obtain ⟨hin, hoff⟩ := not_or.mp hin
        simp only [triggerAdmits, Bool.and_eq_true, Bool.or_eq_true, decide_eq_true_eq, Bool.not_eq_true'] at hadmit
        obtain ⟨⟨⟨⟨⟨_, ho⟩, hs⟩, hf⟩, hq⟩, hout⟩ := hadmit
        exact .inr (.inr ⟨⟨p, 0, i, k.crop, .timer t⟩, k, hk, ⟨hq, hout, ho, hs, hf, by simpa using hin, hoff⟩, rfl, rfl⟩)
      · exact .inr (.inl ⟨p, rfl⟩)
  · exact .inl rfl

theorem Holds.trigger (s : State) (t : Fin 4) (atMark : Bool) : Holds s (s.trigger t atMark) := by
  rcases s.trigger_cases t atMark with h | ⟨p, h⟩ | ⟨r, k, hk, hadmit, hcrop, h⟩
  · rw [h]
    exact .refl s
  · rw [h]
    exact (Keeps.raise s p _).toHolds
  · rw [h]
    refine (Keeps.acceptRequest hadmit (fun ht => hcrop ▸ ht t k hk) atMark).toHolds.trans (.setTimer _ _ _ ?_)
    rw [State.acceptRequest_only]
    rfl

/-- The timers after a trigger. -/
theorem State.timers_trigger (s : State) (t : Fin 4) (atMark : Bool) : ∃ index, (s.timer t).NextPlace index
    ∧ (s.trigger t atMark).timers = (s.setTimer t { s.timer t with templateIndex := index }).timers := by
  rcases s.trigger_cases t atMark with h | ⟨p, h⟩ | ⟨r, k, hk, _, _, h⟩
  · exact ⟨_, .inl rfl, by rw [h, State.setTimer_timer_self]⟩
  · exact ⟨_, .inl rfl, by rw [h, State.setTimer_timer_self]; rfl⟩
  · exact ⟨_, .inr ⟨k, hk, rfl⟩, by rw [h, State.acceptRequest_only]; rfl⟩

theorem Holds.expireTimer (s : State) (t : Fin 4) (atMark : Bool) : Holds s (s.expireTimer t atMark) := by
  unfold State.expireTimer
  refine Holds.trans ?_ (Holds.setTimer _ t _ ?_)
  · refine Holds.trans ?_ (Keeps.raiseAt _ _ _).toHolds
    split
    · exact .trigger s t atMark
    · exact .refl s
  · rfl

/-- The timers after an expiry. -/
theorem State.timers_expireTimer (s : State) (t : Fin 4) (atMark : Bool) : ∃ index, (s.timer t).NextPlace index
    ∧ (s.expireTimer t atMark).timers = (s.setTimer t ((s.timer t).expired index)).timers := by
  have hlast (u : State) (index : Nat) (hu : u.timers = (s.setTimer t { s.timer t with templateIndex := index }).timers)
      (p : Option Port) : (let v := u.raiseAt p .timer
        (v.setTimer t ((v.timer t).expired (v.timer t).templateIndex)).timers) =
        (s.setTimer t ((s.timer t).expired index)).timers := by
    have htimer : u.timer t = { s.timer t with templateIndex := index } := by
      rw [State.timer, hu]
      exact State.timer_setTimer _ _ _
    rw [State.raiseAt_eq]
    show (u.setTimer t ((u.timer t).expired (u.timer t).templateIndex)).timers = _
    rw [htimer]
    simp only [State.setTimer, hu, Vector.set_set]
    rfl
  unfold State.expireTimer
  by_cases ha : (s.timer t).action = .capture
  · rw [if_pos ha]
    obtain ⟨index, hindex, hu⟩ := s.timers_trigger t atMark
    exact ⟨index, hindex, hlast _ index hu _⟩
  · rw [if_neg ha]
    exact ⟨_, .inl rfl, hlast s _ (by rw [State.setTimer_timer_self]) _⟩

/-- One source event of a running timer that counts down (R148, R149). -/
theorem Keeps.countTimer {s : State} {t : Fin 4} (hr : (s.timer t).running = true) (atMark : Bool) :
    Keeps s (s.countTimer t atMark) := by
  unfold State.countTimer
  dsimp only
  split
  · split
    · have hcount : Holds s (s.setTimer t { s.timer t with prescaleCount := 0, count := (s.timer t).count - 1 }) :=
        .setTimer s t _ rfl
      refine { hcount.trans (Holds.expireTimer _ t atMark) with timers := fun h i => ?_ }
      obtain ⟨index, hindex, ht⟩ := State.timers_expireTimer
        (s.setTimer t { s.timer t with prescaleCount := 0, count := (s.timer t).count - 1 }) t atMark
      rw [State.timer_setTimer] at hindex ht
      rw [State.setTimer_twice] at ht
      rw [State.timer, ht]
      exact h.setTimer t ((h t).expired hr (index := index) hindex) i
    · rename_i hcount
      exact .setTimer s t _ rfl fun h => h.counted hr (not_le.mp hcount)
  · rename_i hfull
    exact .setTimer s t _ rfl fun h => h.prescaled hr (by simpa [prescaleFull] using hfull)

theorem Keeps.timerFrameWork (s : State) (t : Fin 4) : Keeps s (s.timerFrameWork t) := by
  unfold State.timerFrameWork
  dsimp only
  split
  · rename_i hr
    split
    · rename_i hmode
      refine .setTimer s t _ rfl fun h => ?_
      have hm : (s.timer t).measured ≤ Config.timerMax := by
        obtain ⟨_, _, _, _, _, _, hm, _⟩ := h
        exact hm
      exact h.measuring hr hmode (Nat.min_le_left _ _) hm
    all_goals
      split
      · exact .countTimer hr false
      · exact .refl s
  · exact .refl s

theorem Keeps.timerMarkWork (s : State) (t : Fin 4) : Keeps s (s.timerMarkWork t) := by
  unfold State.timerMarkWork
  dsimp only
  split
  · rename_i hr
    split
    · rename_i hmode
      refine .setTimer s t _ rfl fun h => ?_
      have hc : (s.timer t).count ≤ Config.timerMax := by
        obtain ⟨_, _, _, _, _, hc, _⟩ := h
        exact hc
      exact h.measuring hr hmode (Nat.zero_le _) hc
    all_goals
      split
      · exact .countTimer hr true
      · exact .refl s
  · exact .refl s

end Sys2Proof.Machine
end


section
/-! PROOFS. The trailer input, frame marks and the blocks' work at an output frame start, but for the fallbacks of the
previous view, with the invariants of the Slot Store (R17 to R23, R55, R107 to R118, R130 to R133, R158). -/

namespace Sys2Proof.Machine

/-! ### The trailer input (R105 to R109, R112 to R114) -/

/-- A move of the lock state, not into OFF, and out of OFF for a holder alone. -/
theorem Keeps.moveLock {s : State} {st : LockState} (hst : st ≠ .off) (hh : s.vin.lock = .off → s.vin.holder ≠ none) :
    Keeps s (s.moveLock st) := by
  refine .of_retires (s.moveLock_retires st) (by rw [State.moveLock_eq]) fun hs hin => ?_
  have hsub := (s.moveLock_retires st).subset hs
  rw [State.vin_moveLock]
  refine ⟨fun hne => ⟨?_, hst⟩, hin.enabled, fun hn => absurd hn ?_⟩
  · obtain ⟨he, _⟩ := (hin.of_subset hsub).serves hne
    exact he
  · intro hn
    exact hh (hin.off hn) hn

/-- A write of the input that leaves its holder, its lock state and its capture enable. -/
theorem Keeps.setVin_same (s : State) (v : TrailerInput) (hl : v.lock = s.vin.lock) (hh : v.holder = s.vin.holder)
    (he : v.captureEnabled = s.vin.captureEnabled) : Keeps s (s.setVin v) :=
  .setVin s v fun _ h => ⟨by rw [hl, he]; exact h.serves, by rw [hh, he]; exact h.enabled, by rw [hh, hl]; exact h.off⟩

theorem Keeps.setVin_moveLock (s : State) (v : TrailerInput) (hl : v.lock = s.vin.lock) (hh : v.holder = s.vin.holder)
    (he : v.captureEnabled = s.vin.captureEnabled) {st : LockState} (hst : st ≠ .off) (hoff : s.vin.lock ≠ .off) :
    Keeps s ((s.setVin v).moveLock st) :=
  (Keeps.setVin_same s v hl hh he).trans (.moveLock hst fun h => absurd (hl.symm.trans h) hoff)

theorem State.recoverIfOff_only (s : State) : OnlyCapture s s.recoverIfOff := by
  unfold State.recoverIfOff
  split <;> rfl

theorem State.inputOff_eq (s : State) : s.inputOff = { s with
    vin := s.inputOff.vin, cap := s.inputOff.cap, slots := s.inputOff.slots, ports := s.inputOff.ports } := by
  unfold State.inputOff
  rw [State.recoverIfOff_only, State.abortAll_only, State.moveLock_eq]
  rfl

/-- Reception switched off: no request is left (R107, R109). -/
theorem Keeps.inputOff (s : State) : Keeps s s.inputOff := by
  obtain ⟨hr, hnone⟩ := s.inputOff_retires
  refine .of_retires hr s.inputOff_eq fun _ hin => ?_
  rw [State.vin_inputOff]
  exact ⟨fun hne => absurd hnone hne, hin.enabled, fun _ => rfl⟩

theorem Keeps.giveUpInput (s : State) : Keeps s s.giveUpInput := by
  obtain ⟨hr, hnone⟩ := s.inputOff_retires
  refine .of_retires (hr.trans (State.setVin_retires _ _)) ?_ fun _ _ => ?_
  · rw [State.giveUpInput, State.inputOff_eq]
    rfl
  · exact ⟨fun hne => absurd hnone hne, nofun, fun _ => by rw [State.giveUpInput, State.setVin_vin, State.vin_inputOff]⟩

theorem Keeps.silenceWork (s : State) : Keeps s s.silenceWork := by
  unfold State.silenceWork
  split
  · exact .refl s
  rename_i hoff
  refine (Keeps.setVin_same s { s.vin with silence := min Config.silenceMax (s.vin.silence + 1) } rfl rfl rfl).trans ?_
  dsimp only
  split
  · refine .setVin_moveLock _ _ ?_ ?_ ?_ ?_ ?_
    exacts [rfl, rfl, rfl, nofun, hoff]
  · exact .refl _

/-! ### Frame marks (R109 to R115, R130, R131, R133) -/

theorem Keeps.lockStep (s : State) (good : Bool) : Keeps s (s.lockStep good) := by
  unfold State.lockStep
  refine (Keeps.setVin_same s { s.vin with silence := 0 } rfl rfl rfl).trans ?_
  dsimp only
  split
  · exact .refl _
  · rename_i hlock
    split
    · exact .setVin_same _ _ rfl rfl rfl
    · refine .setVin_moveLock _ _ ?_ ?_ ?_ ?_ ?_
      exacts [rfl, rfl, rfl, nofun, by rw [hlock]; nofun]
  · exact .setVin_same _ _ rfl rfl rfl
  · exact .setVin_same _ _ rfl rfl rfl
  · rename_i hlock
    split
    · exact .setVin_same _ _ rfl rfl rfl
    · refine .setVin_moveLock _ _ ?_ ?_ ?_ ?_ ?_
      exacts [rfl, rfl, rfl, nofun, by rw [hlock]; nofun]
  · rename_i hlock
    refine .setVin_moveLock _ _ ?_ ?_ ?_ ?_ ?_
    exacts [rfl, rfl, rfl, nofun, by rw [hlock]; nofun]
  · exact .refl _

theorem Keeps.lockAndCapture (s : State) (good : Bool) (f : VideoFrame) (phase : Phase) (sampled : Sampled) :
    Keeps s (s.lockAndCapture good f phase sampled) := by
  unfold State.lockAndCapture
  refine (Keeps.lockStep s good).trans ?_
  dsimp only
  split
  · rename_i hrecover
    refine Keeps.trans (.setCap (.setCap_same { (s.lockStep good).cap with phase := .idle } rfl rfl fun h => ?_))
      (.activate _ true)
    obtain ⟨ha, hr⟩ := h.of_idle (.inr hrecover)
    exact CaptureUnit.phaseOk_idle (.inl rfl) ha hr
  split
  · rename_i hsettle
    exact .setCap (settleStep_retires _ _ good hsettle.2)
  split
  · exact .setCap (sampleStep_retires _ good f)
  · exact (Keeps.setCap (beginSampled_retires _)).trans (.activate _ true)

theorem Keeps.firstMark (s : State) : Keeps s s.firstMark :=
  (Keeps.setVin_same s { s.vin with receiving := some (freshFrame s.vin) } rfl rfl rfl).trans
    (.setCap (beginSampled_retires (s.setVin { s.vin with receiving := some (freshFrame s.vin) })))

theorem Keeps.storeFrame (s : State) (good : Bool) (lines : List (List Half)) : Keeps s (s.storeFrame good lines) := by
  unfold State.storeFrame
  exact .setVin_same s _ rfl rfl rfl

theorem Keeps.markWork (c : MarkContext) (k : MarkWork) (s : State) : Keeps s (markWork c k s) := by
  unfold Machine.markWork
  cases k with
  | lockAndCapture => exact .lockAndCapture s _ _ _ _
  | timer t =>
    dsimp only
    split
    · exact .timerMarkWork s t
    · exact .refl s

theorem Keeps.frameEnd (s : State) (r : ReceivingFrame) (lines : List (List Half)) (order : List MarkWork) :
    Keeps s (s.frameEnd r lines order) :=
  (Keeps.storeFrame s _ lines).trans (.foldl _ (fun u k => Keeps.markWork _ k u) _ _)

/-! ### The Scene Table's and the Slot Store's work (R17 to R21, R55) -/

theorem Layer.placedIn_of_staged {x : Layer} {r : PendingRecord} (h : x.staged = some r) (i : Fin 64) :
    x.placedIn i = x.live.countP (fun e => e.slot = i) + r.list.countP fun e => e.slot = i := by
  rw [Layer.placedIn_eq, Layer.stagedList_of_staged h]

theorem Layer.placedIn_of_none {x : Layer} (h : x.staged = none) (i : Fin 64) :
    x.placedIn i = x.live.countP fun e => e.slot = i := by
  rw [Layer.placedIn_eq, Layer.stagedList, h, List.countP_nil, Nat.add_zero]

theorem Keeps.discardStaged (s : State) (l : Fin 8) : Keeps s (s.discardStaged l) :=
  .setLayer_dropRefs s l _ _ fun i => by rw [Layer.placedIn_of_none rfl, Layer.placedIn_eq (s.layer l)]

theorem Keeps.applyCommit (s : State) (l : Fin 8) : Keeps s (s.applyCommit l) := by
  unfold State.applyCommit
  dsimp only
  split
  · exact .refl s
  · rename_i r hr
    split
    · refine (Keeps.setLayer_dropRefs s l _ _ fun i => ?_).trans (.raiseAt _ _ _)
      rw [Layer.placedIn_of_none rfl, Layer.placedIn_of_staged hr, Nat.add_comm]
    · exact .refl s

theorem Keeps.finishRelease (s : State) (l : Fin 8) : Keeps s (s.finishRelease l) := by
  unfold State.finishRelease
  split
  · refine (Keeps.discardStaged s l).trans (.setLayer_dropRefs _ l _ _ fun i => ?_)
    have hnone : ((s.discardStaged l).layer l).staged = none := by rw [State.layer_discardStaged]
    rw [Layer.placedIn_of_none (x := { Layer.reset with expired := ((s.discardStaged l).layer l).expired }) rfl,
      Layer.placedIn_of_none hnone]
    exact Nat.zero_add _
  · exact .refl s

theorem Keeps.copyScene (s : State) : Keeps s s.copyScene := .scenery s

theorem Keeps.stepOpacity (s : State) (l : Fin 8) : Keeps s (s.stepOpacity l) := .setLayer s l _ rfl

theorem Keeps.sceneWork (s : State) : Keeps s s.sceneWork :=
  (((Keeps.foldl _ Keeps.applyCommit _ s).trans (.foldl _ Keeps.finishRelease _ _)).trans (.copyScene _)).trans
    (.foldl _ Keeps.stepOpacity _ _)

theorem SlotOk.opened {x : Slot} (h : SlotOk x) (hx : x.state = .opening) : SlotOk { x with state := .opened } := by
  obtain ⟨hdim, hpos, hpix, hflag, hvis, hstate⟩ := h
  rw [hx] at hflag hvis hstate
  exact ⟨hdim, hpos, hpix, fun hf => (hflag hf).elim nofun nofun, fun hv => absurd (hvis hv) nofun, hstate.1⟩

theorem Keeps.openSlot (s : State) (i : Fin 64) : Keeps s (s.openSlot i) := by
  unfold State.openSlot
  split
  · rename_i h
    exact (Keeps.setSlot s i { s.slot i with state := .opened } rfl (.of_state (by simp [h]) id)
      fun hok => hok.opened h).trans (.raiseAt _ _ _)
  · exact .refl s

theorem Keeps.slotWork (s : State) : Keeps s s.slotWork := .foldl _ Keeps.openSlot _ s

/-! ### Promotion and the monitors (R116, R118, R158, R159) -/

theorem Keeps.refreshMonitor (s : State) (l : Fin 8) : Keeps s (s.refreshMonitor l) := by
  unfold State.refreshMonitor
  dsimp only
  split
  · exact .setMonitor s l _ rfl
  · exact .refl s

theorem Keeps.promotionWork (s : State) : Keeps s s.promotionWork := by
  unfold State.promotionWork
  split
  · exact .refl s
  · rename_i f _
    exact (Keeps.setVin_same s { s.vin with shown := some f, ready := none } rfl rfl rfl).trans
      (.foldl _ Keeps.refreshMonitor _ _)

theorem Keeps.expireMonitor (s : State) (l : Fin 8) : Keeps s (s.expireMonitor l) := by
  unfold State.expireMonitor
  refine (((Keeps.setLayer s l _ ?_).trans (.raiseAt _ _ _)).trans (.raiseAt _ _ _)).trans (.setMonitor _ l _ ?_)
  · obtain ⟨f, hf, hlist⟩ := stagedAfterExpiry_eq_map (s.monitor l).action (s.layer l).staged
    rw [hf, Layer.entries, Layer.entries, Layer.stagedList_map _ f fun r => (hlist r).1]
  · rw [State.raiseAt_eq, State.raiseAt_eq]
    rfl

theorem Keeps.monitorWork (s : State) (l : Fin 8) : Keeps s (s.monitorWork l) := by
  unfold State.monitorWork
  dsimp only
  split
  · exact .refl s
  split
  · exact .expireMonitor s l
  · exact .setMonitor s l _ rfl

/-- A block's work at an output frame start, but for the fallbacks of the previous view. -/
theorem Keeps.frameWork (s : State) {w : FrameWork} (hw : w ≠ .fallback) : Keeps s (frameWork w s) := by
  cases w with
  | scene => exact .sceneWork s
  | slots => exact .slotWork s
  | fallback => exact absurd rfl hw
  | palette => exact .scenery s
  | promotion => exact .promotionWork s
  | silence => exact .silenceWork s
  | takeover => exact .takeoverWork s
  | monitor l => exact .monitorWork s l
  | timer t => exact .timerFrameWork s t

/-- A part of the coming frame start noted as taken (log 5). -/
theorem Keeps.noteTaken (s : State) {w : FrameWork} (hw : w ≠ .fallback) :
    Keeps s { s with frameTaken := s.frameTaken ++ [w] } where
  tally _ h := h
  fallback _ := rfl
  view _ := rfl
  taken h := (List.mem_append.mp h).resolve_right fun h => hw (List.mem_singleton.mp h).symm
  templates h := h
  capture _ h := h
  slots _ _ _ _ h := h
  timers h := h

end Sys2Proof.Machine
end


section
/-! PROOFS. Every command with the invariants of the Slot Store. The commands of layers and placements move references
(R10, R11, R31, R32, R155, R156), those of slots the records (R51 to R59), those of the input and of capture the requests
(R105 to R109, R122 to R124, R137), those of timers the templates (R143 to R147); the others move none of these. -/

namespace Sys2Proof.Machine

/-! ### The relation for what moves the references of monitors -/

/-- From `s` to `t` the invariants of the Slot Store hold on, with those that each leans on. -/
structure Sound (s t : State) : Prop where
  refs : RefsOk s → RefsOk t
  timers : TimersOk s → TimersOk t
  capture : TimersOk s → CaptureOk s → CaptureOk t
  slots : RefsOk s → TimersOk s → CaptureOk s → SlotsOk s → SlotsOk t

theorem Keeps.sound {s t : State} (h : Keeps s t) : Sound s t where
  refs hr := by
    obtain ⟨htally, htaken⟩ := (refsOk_iff s).mp hr
    refine (refsOk_iff t).mpr ⟨?_, fun ht => htaken (h.taken ht)⟩
    rw [State.heldIn_congr h.fallback h.view]
    exact h.tally _ htally
  timers := h.timers
  capture ht hc := h.capture ht.templates hc
  slots hr ht hc hs := h.slots _ ((refsOk_iff s).mp hr).1 ht.templates hc hs

theorem Sound.refl (s : State) : Sound s s := (Keeps.refl s).sound

theorem Sound.trans {s t u : State} (h : Sound s t) (k : Sound t u) : Sound s u where
  refs hs := k.refs (h.refs hs)
  timers hs := k.timers (h.timers hs)
  capture ht hc := k.capture (h.timers ht) (h.capture ht hc)
  slots hr ht hc hs := k.slots (h.refs hr) (h.timers ht) (h.capture ht hc) (h.slots hr ht hc hs)

theorem Sound.foldl {α : Type} (f : State → α → State) (h : ∀ s a, Sound s (f s a)) (as : List α) (s : State) :
    Sound s (as.foldl f s) := by
  induction as generalizing s with
  | nil => exact .refl s
  | cons a rest ih => exact (h s a).trans (ih (f s a))

/-- A write of monitors and slots. -/
theorem Sound.of_monitors {s t : State} (ht : t = { s with slots := t.slots, monitors := t.monitors })
    (refs : RefsOk s → RefsOk t) (serves : ∀ i, (s.slot i).Serves (t.slot i)) (ok : SlotsOk s → SlotsOk t) :
    Sound s t where
  refs := refs
  timers h := by
    unfold TimersOk State.timer at *
    rwa [ht]
  capture _ h := h.of_serves (by rw [ht]) (by rw [ht]) (fun _ => by rw [ht]; exact le_rfl) serves
  slots _ _ _ h := ok h

theorem Sound.releaseMonitor (s : State) (l : Fin 8) : Sound s (s.releaseMonitor l) := by
  refine .of_monitors (by rw [State.releaseMonitor_eq]) (fun h => h.releaseMonitor l) (fun i => ?_) fun h i => ?_
  · rw [State.slot_releaseMonitor]
    split
    · exact .slotLessRef _
    · exact .refl _
  · rw [State.slot_releaseMonitor]
    split
    · exact (h i).slotLessRef
    · exact h i

theorem Sound.releaseLayer (s : State) (l : Fin 8) : Sound s (s.releaseLayer l) :=
  ((Keeps.discardStaged s l).trans (.setLayer (s.discardStaged l) l
    { (s.discardStaged l).layer l with binding := .releasing } rfl)).sound.trans (.releaseMonitor _ l)

/-- What a slot keeps when it loses a reference, and the slot newly named when it gains one, every slot keeps. -/
theorem State.slot_moveFallback_keeps {P : Slot → Prop} (s : State) (l : Fin 8) (new : Option (Fin 64)) (i : Fin 64)
    (hi : P (s.slot i)) (hless : ∀ x, P x → P (slotLessRef x))
    (hmore : new = some i → P { s.slot i with refCount := (s.slot i).refCount + 1 }) :
    P ((s.moveFallback l new).slot i) := by
  have htake : P ((s.takeFallback l new).slot i) := by
    rw [State.slot_takeFallback]
    split
    · rename_i h
      exact hmore h.1
    · exact hi
  rw [State.moveFallback_eq]
  split
  · exact hi
  · rw [State.slot_dropFallback]
    split
    · exact hless _ htake
    · exact htake

theorem Sound.moveFallback (s : State) (l : Fin 8) (m : Monitor) (hm : fallbackAdmits s m.fallback = true) :
    Sound s ((s.moveFallback l m.fallback).setMonitor l m) := by
  refine .of_monitors (by rw [State.moveFallback_slots]; rfl) (fun h => h.moveFallback l m) (fun i => ?_) fun h i => ?_
  · exact s.slot_moveFallback_keeps (P := (s.slot i).Serves) l _ i (.refl _) (fun _ hx => hx.trans (.slotLessRef _))
      fun _ => .refCount _ _
  · refine s.slot_moveFallback_keeps l _ i (h i) (fun _ hx => hx.slotLessRef) fun hnew => (h i).moreRefs ?_ 1
    rw [hnew] at hm
    simpa [fallbackAdmits] using hm

/-! ### The shared checks -/

section
variable {R : State → State → Prop} (hrefl : ∀ s, R s s) {p : Port} {b : Byte}
include hrefl

theorem ownedLayer_rel {k : Fin 8 → CommandOp} (h : ∀ i s, R s (k i s).1) (s : State) : R s (ownedLayer p b k s).1 := by
  unfold ownedLayer
  split
  · exact hrefl s
  · split
    · exact h _ s
    · exact hrefl s

theorem editable_rel {k : Fin 8 → PendingRecord → CommandOp}
    (h : ∀ i r s, (s.layer i).staged = some r → R s (k i r s).1) (s : State) :
    R s (ownedLayer p b (fun i => editable i (k i)) s).1 := by
  refine ownedLayer_rel hrefl (fun i s => ?_) s
  unfold editable
  split
  · exact hrefl s
  · split
    · exact hrefl s
    · rename_i r hr
      split
      · exact hrefl s
      · exact h i r s hr

theorem ownedSlot_rel {k : Fin 64 → CommandOp} (h : ∀ i s, (s.slot i).owner = some p → R s (k i s).1) (s : State) :
    R s (ownedSlot p b k s).1 := by
  unfold ownedSlot
  split
  · exact hrefl s
  · split
    · rename_i ho
      exact h _ s ho
    · exact hrefl s

theorem writable_rel {k : Fin 64 → CommandOp} (h : ∀ i s, (s.slot i).state = .opened → R s (k i s).1) (s : State) :
    R s (ownedSlot p b (fun i => writable i (k i)) s).1 := by
  refine ownedSlot_rel hrefl (fun i s _ => ?_) s
  unfold writable
  split
  case h_2 hs => exact h i s hs
  all_goals exact hrefl s

theorem heldTimer_rel {k : Fin 4 → CommandOp} (h : ∀ i s, (s.timer i).holder = some p → R s (k i s).1) (s : State) :
    R s (heldTimer p b k s).1 := by
  unfold heldTimer
  split
  · exact hrefl s
  · split
    · rename_i ho
      exact h _ s ho
    · exact hrefl s

theorem byHolder_rel {k : CommandOp} (h : ∀ s, s.vin.holder = some p → R s (k s).1) (s : State) :
    R s (byHolder p k s).1 := by
  unfold byHolder
  split
  · rename_i ho
    exact h s ho
  · exact hrefl s

theorem monitored_rel {k : Fin 8 → CommandOp} (h : ∀ i s, R s (k i s).1) (s : State) : R s (monitored p b k s).1 := by
  refine ownedLayer_rel hrefl (fun i s => ?_) s
  split
  · exact hrefl s
  · exact h i s

end

/-! ### Layers (file 01) -/

section
variable (p : Port) (s : State)

theorem lyrClaim_keeps (b : Byte) : Keeps s (lyrClaim p b s).1 := by
  unfold lyrClaim
  split
  · exact .refl s
  · split
    · exact .setLayer s _ _ rfl
    · exact .refl s

theorem lyrRelease_sound (b : Byte) : Sound s (lyrRelease p b s).1 := by
  refine ownedLayer_rel Sound.refl (fun i s => ?_) s
  split
  · exact .refl s
  · exact .releaseLayer s i

theorem beginFresh_keeps (i : Fin 8) : Keeps s (beginFresh i s).1 := by
  refine (Keeps.discardStaged s i).trans (.setLayer _ i _ ?_)
  rw [State.layer_discardStaged]
  rfl

/-- The entries of a COPY name the slots of live entries (R11). -/
theorem copyEntries_slots {free : List (Fin 128)} {live : List Placement} {e : Placement}
    (he : e ∈ copyEntries free live) : ∃ d ∈ live, d.slot = e.slot := by
  obtain ⟨i, hi⟩ := List.mem_iff_getElem?.mp he
  rw [copyEntries, List.getElem?_zipWith] at hi
  cases hd : live[i]? with
  | none => simp [hd] at hi
  | some d =>
    refine ⟨d, List.mem_iff_getElem?.mpr ⟨i, hd⟩, ?_⟩
    cases hf : free[i]? with
    | none => simp [hf] at hi
    | some n =>
      simp only [hd, hf, Option.some.injEq] at hi
      rw [← hi]

theorem beginCopy_keeps (i : Fin 8) : Keeps s (beginCopy i s).1 := by
  unfold beginCopy
  split
  · exact .refl s
  refine (Keeps.discardStaged s i).trans (.setLayer_addRefs _ i _ _ (fun j => ?_) fun held hr hok e he => ?_)
  · have hnone : ((s.discardStaged i).layer i).staged = none := by rw [State.layer_discardStaged]
    rw [Layer.placedIn_of_none hnone, Layer.placedIn_of_staged rfl]
  · obtain ⟨d, hd, hslot⟩ := copyEntries_slots he
    rw [← hslot]
    exact (hok d.slot).ne_free (hr.pos_of_placed hd)

theorem lyrBegin_keeps (b mode : Byte) : Keeps s (lyrBegin p b mode s).1 := by
  refine ownedLayer_rel Keeps.refl (fun i s => ?_) s
  split
  · exact .refl s
  split
  · exact .refl s
  split
  · exact beginFresh_keeps s i
  split
  · exact beginCopy_keeps s i
  · exact .refl s

/-- A pending record replaced by one with the same list. -/
theorem Keeps.restage (l : Fin 8) {r r' : PendingRecord} (hs : (s.layer l).staged = some r) (hr : r'.list = r.list) :
    Keeps s (s.setLayer l { s.layer l with staged := some r' }) := by
  refine .setLayer s l _ ?_
  rw [Layer.entries, Layer.entries, Layer.stagedList_of_staged rfl, Layer.stagedList_of_staged hs, hr]

theorem lyrAttr_keeps (b visible target fade : Byte) (ox oy : Half) (source : Byte) (x0 y0 x1 y1 : Half) :
    Keeps s (lyrAttr p b visible target fade ox oy source x0 y0 x1 y1 s).1 := by
  refine editable_rel Keeps.refl (fun i r s hs => ?_) s
  split
  · split
    · exact .refl s
    · exact .restage s i hs rfl
  · exact .refl s

theorem commitLayer_keeps (l : Fin 8) : Keeps s (s.commitLayer l) := by
  refine .setLayer s l _ ?_
  rw [Layer.entries, Layer.entries,
    Layer.stagedList_map (s.layer l) (fun r => { r with committed := true, clearsExpiry := true }) (fun _ => rfl)]

theorem lyrCommit_keeps (mask : Byte) : Keeps s (lyrCommit p mask s).1 := by
  unfold lyrCommit
  dsimp only
  split
  · exact .refl s
  split
  · exact .refl s
  split
  · exact .refl s
  · exact .foldl _ commitLayer_keeps _ s

theorem lyrZ_keeps (b index : Byte) : Keeps s (lyrZ p b index s).1 := by
  refine ownedLayer_rel Keeps.refl (fun i s => ?_) s
  split
  · exact .refl s
  split
  · exact .scenery s
  · exact .refl s

/-! ### Placements, cursors, clips and windows (file 02, R81, R82) -/

theorem place_keeps (i : Fin 8) (slot : Fin 64) (x y : Int) {r : PendingRecord} (hs : (s.layer i).staged = some r) :
    Keeps s (place p i slot x y r s).1 := by
  unfold place
  split
  · exact .refl s
  split
  · exact .refl s
  rename_i hfree
  split
  · exact .refl s
  split
  · exact .refl s
  rename_i e _ _
  refine Keeps.setLayer_addRefs s i _ [placementOf (s.port p) e slot x y] (fun j => ?_) fun _ _ _ d hd => ?_
  · rw [Layer.placedIn_of_staged rfl, Layer.placedIn_of_staged hs, List.countP_append, Nat.add_assoc]
  · rw [List.mem_singleton.mp hd]
    exact hfree

theorem plcAdd_keeps (b slot : Byte) (x y : Half) : Keeps s (plcAdd p b slot x y s).1 := by
  refine editable_rel Keeps.refl (fun i r s hs => ?_) s
  split
  · exact .refl s
  · exact place_keeps p s i _ _ _ hs

theorem setCursor_keeps (k : Byte) (c : Cursor) : Keeps s (s.setCursor p k c) := by
  rw [State.setCursor_eq]
  exact .setPort s p _ le_rfl

theorem plcCursor_keeps (b k : Byte) : Keeps s (plcCursor p b k s).1 := by
  refine editable_rel Keeps.refl (fun i r s hs => ?_) s
  dsimp only
  split
  · exact .refl s
  · rename_i c _
    have hplace := place_keeps p s i c.slot c.x c.y hs
    split
    exact hplace.trans (setCursor_keeps p _ k _)
    exact .refl s

theorem curSet_keeps (k : Byte) (x y dx dy : Half) (columns slot fade : Byte) :
    Keeps s (curSet p k x y dx dy columns slot fade s).1 := by
  unfold curSet
  split
  · exact setCursor_keeps p s k _
  · exact .refl s

theorem clipPush_keeps (x0 y0 x1 y1 : Half) : Keeps s (clipPush p x0 y0 x1 y1 s).1 := by
  unfold clipPush
  dsimp only
  split
  · exact .refl s
  · exact .setPort s p _ le_rfl

theorem clipPop_keeps : Keeps s (clipPop p s).1 := by
  unfold clipPop
  dsimp only
  split
  · exact .refl s
  · exact .setPort s p _ le_rfl

theorem palWindow_keeps (w slice : Byte) : Keeps s (palWindow p w slice s).1 := by
  unfold palWindow
  split
  · exact .refl s
  split
  · refine .setPort s p _ ?_
    split <;> exact le_rfl
  · exact .refl s

/-! ### The palette (file 04) -/

theorem palClaim_keeps (b : Byte) : Keeps s (palClaim p b s).1 := by
  unfold palClaim
  split
  · exact .refl s
  split
  · exact .refl s
  split
  · exact .scenery s
  · exact .refl s

theorem palRelease_keeps (b : Byte) : Keeps s (palRelease p b s).1 := by
  unfold palRelease
  split
  · exact .refl s
  split
  · exact .refl s
  split
  · exact .scenery s
  · exact .refl s

theorem writeEntry_keeps (n : Fin 256) (y cb cr alpha : Byte) : Keeps s (writeEntry p n y cb cr alpha s).1 := by
  unfold writeEntry
  split
  · exact .scenery s
  · exact .refl s

theorem palSetcode_keeps (c y cb cr alpha : Byte) : Keeps s (palSetcode p c y cb cr alpha s).1 := by
  unfold palSetcode
  split
  · exact writeEntry_keeps p s _ y cb cr alpha
  · exact .refl s

/-! ### Slots (file 03) -/

theorem Keeps.claimSlot {i : Fin 64} (hi : (s.slot i).state = .free) : Keeps s (s.claimSlot p i) :=
  .setSlot s i { s.slot i with
      state := .empty, owner := some p, format := .direct, width := 0, height := 0, writePos := 0
      captureFlag := false, orphanVisible := false } rfl (.of_state (by simp [hi]) fun _ => rfl)
    fun _ => ⟨.inl ⟨rfl, rfl⟩, Nat.zero_le _, Nat.zero_le _, nofun, nofun, nofun, rfl, rfl⟩

theorem sltClaim_keeps : Keeps s (sltClaim p s).1 := by
  unfold sltClaim
  split
  · exact .refl s
  · rename_i i hi
    exact .claimSlot p s (by simpa using List.find?_some hi)

theorem sltClaimAt_keeps (b : Byte) : Keeps s (sltClaimAt p b s).1 := by
  unfold sltClaimAt
  split
  · exact .refl s
  split
  · rename_i hi
    exact .claimSlot p s hi
  · exact .refl s

theorem sltRelease_keeps (b : Byte) : Keeps s (sltRelease p b s).1 := by
  refine ownedSlot_rel Keeps.refl (fun i s _ => ?_) s
  dsimp only
  split
  · exact .refl s
  rename_i hr
  split
  · exact .refl s
  rename_i hf
  exact .setSlot s i (Slot.freed (s.slot i).pixels) (not_not.mp hr).symm (.of_clear (by simpa using hf) rfl)
    fun _ => .freed _

/-- An image opened on an EMPTY or READY slot (R54). -/
theorem SlotOk.openImage {x : Slot} (h : SlotOk x) (ho : x.owner ≠ none) (hf : x.captureFlag = false)
    (hs : x.state = .empty ∨ x.state = .ready) {w hh : Nat} (hw : 1 ≤ w ∧ w ≤ 256 ∧ 1 ≤ hh ∧ hh ≤ 256)
    (harea : w * hh ≤ Config.slotPixels) (f : Format) : SlotOk { x with
      state := if x.state = .ready then .opening else .opened
      format := f, width := w, height := hh, writePos := 0 } := by
  obtain ⟨_, _, _, _, hvis, _⟩ := h
  obtain ⟨hw1, hw2, hh1, hh2⟩ := hw
  refine ⟨.inr ⟨hw1, hw2, hh1, hh2, harea⟩, Nat.zero_le _, Nat.zero_le _, fun hset => ?_, fun hv => ?_, ?_⟩
  · exact absurd hset (by simp [hf])
  · rcases hs with hs | hs <;> exact absurd (hvis hv) (by simp [hs])
  · by_cases hr : x.state = .ready
    · simp only [if_pos hr]
      exact ⟨ho, trivial⟩
    · simp only [if_neg hr]
      exact ho

theorem sltOpen_keeps (b format : Byte) (width height : Half) : Keeps s (sltOpen p b format width height s).1 := by
  refine ownedSlot_rel Keeps.refl (fun i s ho => ?_) s
  dsimp only
  split
  · exact .refl s
  rename_i hs
  split
  · exact .refl s
  rename_i hf
  split
  · exact .refl s
  rename_i f _
  split
  · exact .refl s
  rename_i hw
  split
  · exact .refl s
  rename_i harea
  have hclear : (s.slot i).captureFlag = false := by simpa using hf
  exact .setSlot s i { s.slot i with
      state := if (s.slot i).state = .ready then .opening else .opened
      format := f, width := width.toNat, height := height.toNat, writePos := 0 } rfl (.of_clear hclear hclear)
    fun h => h.openImage (by simp [ho]) hclear (not_not.mp hs) (not_not.mp hw) (not_lt.mp harea) f

theorem SlotOk.storePixels {x : Slot} (h : SlotOk x) (hs : x.state = .opened) (ps : List Pixel) :
    SlotOk (storePixels x ps) := by
  obtain ⟨hdim, hpos, hpix, hflag, hvis, hstate⟩ := h
  rw [storePixels_eq]
  refine ⟨hdim, ?_, ?_, hflag, hvis, ?_⟩
  · show x.writePos + min ps.length (roomIn x) ≤ x.width * x.height
    unfold roomIn
    omega
  · show x.writePos + min ps.length (roomIn x) ≤ (Machine.storePixels x ps).pixels.length
    rw [storePixels_pixels, List.length_append, List.length_append, List.length_take, List.length_take]
    omega
  · simp only [hs] at hstate ⊢
    exact hstate

theorem storeAnswer_keeps (i : Fin 64) (ps : List PayloadPixel) (tail : Bool) (hs : (s.slot i).state = .opened) :
    Keeps s (storeAnswer i ps tail s).1 :=
  .setSlot s i (storePixels (s.slot i) (ps.map Prod.fst)) rfl (.of_state (by simp [hs]) id) fun h => h.storePixels hs _

theorem sltData_keeps (b : Byte) (data : List Byte) : Keeps s (sltData p b data s).1 := by
  refine writable_rel Keeps.refl (fun i s hs => ?_) s
  split
  · exact storeAnswer_keeps s i _ _ hs
  · exact storeAnswer_keeps s i _ _ hs

theorem sltFill_keeps (b y cb cr : Byte) (count : Half) : Keeps s (sltFill p b y cb cr count s).1 := by
  refine writable_rel Keeps.refl (fun i s hs => ?_) s
  split
  · exact storeAnswer_keeps s i _ _ hs
  split
  · exact .refl s
  · exact storeAnswer_keeps s i _ _ hs

theorem SlotOk.closed {x : Slot} (h : SlotOk x) (hs : x.state = .opened) (hd : ¬ x.writePos < x.width * x.height) :
    SlotOk { x with state := .ready } := by
  obtain ⟨hdim, hpos, hpix, hflag, hvis, hstate⟩ := h
  simp only [hs] at hstate
  exact ⟨hdim, hpos, hpix, fun _ => .inr rfl, fun hv => absurd (hvis hv) (by simp [hs]), hstate,
    le_antisymm hpos (not_lt.mp hd)⟩

theorem sltClose_keeps (b : Byte) : Keeps s (sltClose p b s).1 := by
  refine ownedSlot_rel Keeps.refl (fun i s _ => ?_) s
  dsimp only
  split
  · exact .refl s
  rename_i hs
  split
  · exact .refl s
  rename_i hd
  have hopen := not_not.mp hs
  exact .setSlot s i { s.slot i with state := .ready } rfl (.of_state (by simp [hopen]) id) fun h => h.closed hopen hd

theorem sltInfo_keeps (b : Byte) : Keeps s (sltInfo p b s).1 := by
  unfold sltInfo
  split <;> exact .refl s

end

end Sys2Proof.Machine
end


section
/-! PROOFS. The commands of the input, of capture, of timers, monitors and repeat blocks, and so every command, with the
invariants of the Slot Store. -/

namespace Sys2Proof.Machine

section
variable (p : Port) (s : State)

/-! ### The trailer input (file 06) -/

theorem vinClaim_keeps : Keeps s (vinClaim p s).1 := by
  unfold vinClaim
  split
  · exact .setVin s _ fun _ h => ⟨h.serves, fun _ => nofun, nofun⟩
  · exact .refl s

theorem vinRelease_keeps : Keeps s (vinRelease p s).1 :=
  byHolder_rel Keeps.refl (k := fun s => (s.giveUpInput, { outcome := .ok })) (fun s _ => .giveUpInput s) s

theorem vinFormat_keeps (w h : Half) (settle : Byte) : Keeps s (vinFormat p w h settle s).1 := by
  refine byHolder_rel Keeps.refl (fun s _ => ?_) s
  dsimp only
  refine (Keeps.setVin_same s { s.vin with
    width := evenWidth (clampNat 64 960 w.toNat), height := clampNat 32 540 h.toNat
    settle := clampNat 0 3 settle.toNat } rfl rfl rfl).trans ?_
  split
  · exact .refl _
  · rename_i hoff
    refine .setVin_moveLock _ _ ?_ ?_ ?_ ?_ ?_
    exacts [rfl, rfl, rfl, nofun, hoff]

theorem Keeps.inputOn {s : State} (hh : s.vin.holder ≠ none) : Keeps s s.inputOn :=
  (Keeps.setVin_same s { s.vin with goodCount := 0, badRun := 0, silence := 0 } rfl rfl rfl).trans
    (.moveLock nofun fun _ => hh)

theorem vinEnable_keeps (on : Byte) : Keeps s (vinEnable p on s).1 := by
  refine byHolder_rel Keeps.refl (fun s hh => ?_) s
  split
  · exact .refl s
  dsimp only
  split
  · split
    · exact .inputOn (by simp [hh])
    · exact .refl s
  · split
    · exact .refl s
    · exact .inputOff s

/-! ### Capture (file 07) -/

/-- Capture disabled: no request is left (R122, R136). -/
theorem Keeps.disableCapture : Keeps s ((s.setVin { s.vin with captureEnabled := false }).abortAll .noInput) := by
  refine .of_retires ((s.setVin_retires _).trans (State.abortAll_retires _ _)) (by rw [State.abortAll_only]; rfl)
    fun _ hin => ?_
  rw [State.requests_abortAll, State.vin_abortAll]
  exact ⟨fun hne => absurd rfl hne, nofun, hin.off⟩

theorem capEnable_keeps (on : Byte) : Keeps s (capEnable p on s).1 := by
  refine byHolder_rel Keeps.refl (fun s hh => ?_) s
  split
  · exact .refl s
  rename_i b _
  dsimp only
  split
  · rename_i hwas
    obtain ⟨_, hb⟩ := Bool.and_eq_true_iff.mp hwas
    obtain rfl : b = false := by simpa using hb
    exact .disableCapture s
  · rename_i hwas
    refine .setVin s _ fun rs h => ⟨fun hne => ?_, fun _ => by rw [hh]; nofun, h.off⟩
    obtain ⟨he, hoff⟩ := h.serves hne
    exact ⟨by simpa [he] using hwas, hoff⟩

/-- What the checks of CAP_REQUEST establish (R123, steps 3 to 10). -/
theorem admits_of_captureFault {s : State} {p : Port} {i : Fin 64} {c : Crop} (ho : (s.slot i).owner = some p)
    (h : captureFault s p i c = none) (tag : Byte) (origin : Origin) : Admits s ⟨p, tag, i, c, origin⟩ := by
  unfold captureFault at h
  dsimp only at h
  split at h
  · cases h
  rename_i hstate
  split at h
  · cases h
  rename_i hflag
  split at h
  · cases h
  rename_i hin
  obtain ⟨hoff, henabled⟩ := not_or.mp hin
  split at h
  · cases h
  split at h
  · cases h
  rename_i hqueue
  split at h
  · cases h
  rename_i hout
  exact ⟨not_le.mp hqueue, not_le.mp hout, ho, not_not.mp hstate, by simpa using hflag, by simpa using henabled, hoff⟩

theorem capRequest_keeps (tag b : Byte) (x y w h : Half) (dx dy : Byte) :
    Keeps s (capRequest p tag b x y w h dx dy s).1 := by
  refine ownedSlot_rel Keeps.refl (fun i s ho => ?_) s
  dsimp only
  split
  · exact .refl s
  · rename_i hf
    exact .acceptRequest (admits_of_captureFault ho hf tag .command)
      (fun _ => Crop.ok_of_fault (fault_of_captureFault p hf)) false

theorem State.cancelRequest_only (r : CaptureRequest) : OnlyCapture s (s.cancelRequest r) := by
  unfold State.cancelRequest
  split
  · exact s.abortActive_only _
  · exact (s.setCap_only _).trans (State.endRequest_only _ _ _)

theorem capCancel_keeps (b : Byte) : Keeps s (capCancel p b s).1 := by
  unfold capCancel
  split
  · exact .refl s
  split
  · exact .refl s
  · rename_i r hr
    split
    · exact .of_only (State.cancelRequest_retires (List.mem_of_find?_eq_some hr)) (s.cancelRequest_only r)
    · exact .refl s

/-! ### Frame timers (file 08) -/

theorem tmrClaim_keeps (b : Byte) : Keeps s (tmrClaim p b s).1 := by
  unfold tmrClaim
  split
  · exact .refl s
  split
  · rename_i hn
    exact .setTimer s _ _ rfl fun h => h.claimed hn p
  · exact .refl s

theorem Keeps.resetTimerRecord (t : Fin 4) : Keeps s (s.setTimer t FrameTimer.reset) :=
  .setTemplate s t _ nofun fun _ => .reset

theorem tmrRelease_keeps (b : Byte) : Keeps s (tmrRelease p b s).1 :=
  heldTimer_rel Keeps.refl (k := fun i s => (s.setTimer i FrameTimer.reset, { outcome := .ok, value := i.val }))
    (fun i s _ => .resetTimerRecord s i) s

theorem prescalerOf_cases {b : Byte} {n : Nat} (h : prescalerOf b = some n) : n = 1 ∨ n = 2 ∨ n = 4 ∨ n = 8 := by
  unfold prescalerOf at h
  split at h
  · cases h; decide
  split at h
  · cases h; decide
  split at h
  · cases h; decide
  split at h
  · cases h; decide
  · cases h

theorem tmrSetup_keeps (b source prescaler : Byte) (reload : Half) (mode action : Byte) :
    Keeps s (tmrSetup p b source prescaler reload mode action s).1 := by
  refine heldTimer_rel Keeps.refl (fun i s hh => ?_) s
  split
  · exact .refl s
  rename_i hr
  split
  · rename_i src pre m a _ hpre _ _
    split
    · exact .refl s
    rename_i hreload
    have hpos : reload.toNat ≠ 0 := fun h => hreload (BitVec.eq_of_toNat_eq h)
    have hmax : reload.toNat < 65536 := reload.isLt
    refine .setTimer s i { s.timer i with
      source := src, prescaler := pre, reload := reload.toNat, mode := m, action := a, count := reload.toNat
      prescaleCount := 0, measured := 0 } rfl fun h => ?_
    exact h.setUp (by simp [hh]) (by simpa using hr) src (prescalerOf_cases hpre)
      ⟨by omega, by simp only [Config.timerMax]; omega⟩ m a
  · exact .refl s

theorem tmrTemplate_keeps (b : Byte) (x y w h : Half) (dx dy first count : Byte) :
    Keeps s (tmrTemplate p b x y w h dx dy first count s).1 := by
  refine heldTimer_rel Keeps.refl (fun i s hh => ?_) s
  dsimp only
  split
  · exact .refl s
  rename_i hr
  split
  · exact .refl s
  rename_i hf
  split
  · rename_i hcount
    obtain ⟨_, hc1, hc2, hfirst⟩ := hcount
    have hcrop := Crop.ok_of_fault hf
    refine .setTemplate s i _ (fun k hk => ?_) fun h => h.withTemplate (by simp [hh]) (by simpa using hr) hcrop ⟨hc1, hc2⟩
      hfirst
    obtain rfl := Option.mem_some.mp hk
    exact hcrop
  · exact .refl s

theorem startedTimer_template (m : FrameTimer) : (startedTimer m).template = m.template := by
  unfold startedTimer
  split <;> rfl

theorem tmrStart_keeps (b : Byte) : Keeps s (tmrStart p b s).1 := by
  refine heldTimer_rel Keeps.refl (fun i s hh => ?_) s
  dsimp only
  split
  · exact .refl s
  split
  · exact .refl s
  rename_i hcapture
  exact .setTimer s i _ (startedTimer_template _) fun h => h.started (by simp [hh]) hcapture

theorem tmrStop_keeps (b : Byte) : Keeps s (tmrStop p b s).1 :=
  heldTimer_rel Keeps.refl (k := fun i s => (s.setTimer i { s.timer i with
      running := false, count := (s.timer i).reload, prescaleCount := 0 }, { outcome := .ok, value := (s.timer i).reload }))
    (fun i s hh => .setTimer s i { s.timer i with running := false, count := (s.timer i).reload, prescaleCount := 0 } rfl
      fun h => h.stopped (by simp [hh])) s

theorem tmrRead_keeps (b : Byte) : Keeps s (tmrRead p b s).1 := by
  unfold tmrRead
  split <;> exact .refl s

/-! ### Monitors (file 09) -/

theorem frsSetup_sound (b : Byte) (period : Half) (window action fallback : Byte) :
    Sound s (frsSetup p b period window action fallback s).1 := by
  refine monitored_rel Sound.refl (fun i s => ?_) s
  dsimp only
  split
  · exact .refl s
  split
  · exact .refl s
  split
  · rename_i a fb _ _
    split
    · exact .refl s
    split
    · exact .refl s
    rename_i hfb
    exact .moveFallback s i { s.monitor i with
        period := period.toNat, window := window.toNat, action := a, fallback := fb, remaining := period.toNat }
      (by simpa using (not_or.mp hfb).1)
  · exact .refl s

theorem frsStart_keeps (b : Byte) : Keeps s (frsStart p b s).1 := by
  refine monitored_rel Keeps.refl (fun i s => ?_) s
  dsimp only
  split
  · exact .refl s
  · exact .setMonitor s i _ rfl

theorem frsStop_keeps (b : Byte) : Keeps s (frsStop p b s).1 := by
  refine monitored_rel Keeps.refl (fun i s => ?_) s
  dsimp only
  split
  · exact .refl s
  · exact .setMonitor s i _ rfl

theorem frsTouch_keeps (b : Byte) : Keeps s (frsTouch p b s).1 := by
  refine monitored_rel Keeps.refl (fun i s => ?_) s
  dsimp only
  split
  · exact .refl s
  split
  · exact .setMonitor s i _ rfl
  · exact .expireMonitor s i

theorem frsLock_keeps (b : Byte) : Keeps s (frsLock p b s).1 := by
  unfold frsLock
  split
  · exact .refl s
  dsimp only
  split
  · exact .refl s
  split
  · exact .setMonitor s _ _ rfl
  · exact .refl s

/-! ### Repeat blocks (file 10) -/

theorem Keeps.setRepeat (r : RepeatRecord) : Keeps s (s.setRepeat p r) := .setPort s p _ le_rfl

theorem rptBlock_keeps (tag n k : Byte) : Keeps s (rptBlock p tag n k s).1 := by
  unfold rptBlock
  dsimp only
  split
  · exact .refl s
  split
  · exact .refl s
  · exact .setRepeat p s _

theorem rptAgain_keeps (tag k : Byte) : Keeps s (rptAgain p tag k s).1 := by
  unfold rptAgain
  dsimp only
  split
  · exact .refl s
  split
  · exact .refl s
  · exact .setRepeat p s _

theorem rptLoop_keeps (m : Byte) : Keeps s (rptLoop p m s).1 := by
  unfold rptLoop
  split
  · exact .refl s
  · exact .setRepeat p s _

end

/-! ### Every command -/

theorem badFrame_keeps (s : State) : Keeps s (badFrame s).1 := .refl s

/-- Every command row's operation (R177). -/
theorem commandOf_sound {i : Instr} {p : Port} {f : Frame} {op : CommandOp} (h : commandOf i = some (p, f, op))
    (s : State) : Sound s (op s).1 := by
  cases i with
  | unknownCommand q tag code operands =>
    simp only [commandOf] at h
    split at h
    · cases h
    · cases h; exact (badFrame_keeps s).sound
  | sltData q tag b data =>
    cases h
    split
    · exact (sltData_keeps p s b data).sound
    · exact (badFrame_keeps s).sound
  | lyrRelease => cases h; exact lyrRelease_sound p s _
  | frsSetup => cases h; exact frsSetup_sound p s _ _ _ _ _
  | lyrClaim => cases h; exact (lyrClaim_keeps p s _).sound
  | lyrBegin => cases h; exact (lyrBegin_keeps p s _ _).sound
  | lyrAttr => cases h; exact (lyrAttr_keeps p s _ _ _ _ _ _ _ _ _ _ _).sound
  | lyrCommit => cases h; exact (lyrCommit_keeps p s _).sound
  | lyrZ => cases h; exact (lyrZ_keeps p s _ _).sound
  | backdrop => cases h; exact (Keeps.scenery s).sound
  | plcAdd => cases h; exact (plcAdd_keeps p s _ _ _ _).sound
  | plcCursor => cases h; exact (plcCursor_keeps p s _ _).sound
  | curSet => cases h; exact (curSet_keeps p s _ _ _ _ _ _ _ _).sound
  | clipPush => cases h; exact (clipPush_keeps p s _ _ _ _).sound
  | clipPop => cases h; exact (clipPop_keeps p s).sound
  | palWindow => cases h; exact (palWindow_keeps p s _ _).sound
  | sltClaim => cases h; exact (sltClaim_keeps p s).sound
  | sltClaimAt => cases h; exact (sltClaimAt_keeps p s _).sound
  | sltRelease => cases h; exact (sltRelease_keeps p s _).sound
  | sltOpen => cases h; exact (sltOpen_keeps p s _ _ _ _).sound
  | sltFill => cases h; exact (sltFill_keeps p s _ _ _ _ _).sound
  | sltClose => cases h; exact (sltClose_keeps p s _).sound
  | sltInfo => cases h; exact (sltInfo_keeps p s _).sound
  | palClaim => cases h; exact (palClaim_keeps p s _).sound
  | palRelease => cases h; exact (palRelease_keeps p s _).sound
  | palSet => cases h; exact (writeEntry_keeps p s _ _ _ _ _).sound
  | palSetcode => cases h; exact (palSetcode_keeps p s _ _ _ _ _).sound
  | vinClaim => cases h; exact (vinClaim_keeps p s).sound
  | vinRelease => cases h; exact (vinRelease_keeps p s).sound
  | vinFormat => cases h; exact (vinFormat_keeps p s _ _ _).sound
  | vinEnable => cases h; exact (vinEnable_keeps p s _).sound
  | capEnable => cases h; exact (capEnable_keeps p s _).sound
  | capRequest => cases h; exact (capRequest_keeps p s _ _ _ _ _ _ _ _).sound
  | capCancel => cases h; exact (capCancel_keeps p s _).sound
  | tmrClaim => cases h; exact (tmrClaim_keeps p s _).sound
  | tmrRelease => cases h; exact (tmrRelease_keeps p s _).sound
  | tmrSetup => cases h; exact (tmrSetup_keeps p s _ _ _ _ _ _).sound
  | tmrTemplate => cases h; exact (tmrTemplate_keeps p s _ _ _ _ _ _ _ _ _).sound
  | tmrStart => cases h; exact (tmrStart_keeps p s _).sound
  | tmrStop => cases h; exact (tmrStop_keeps p s _).sound
  | tmrRead => cases h; exact (tmrRead_keeps p s _).sound
  | frsStart => cases h; exact (frsStart_keeps p s _).sound
  | frsStop => cases h; exact (frsStop_keeps p s _).sound
  | frsTouch => cases h; exact (frsTouch_keeps p s _).sound
  | frsLock => cases h; exact (frsLock_keeps p s _).sound
  | rptBlock => cases h; exact (rptBlock_keeps p s _ _ _).sound
  | rptAgain => cases h; exact (rptAgain_keeps p s _ _).sound
  | rptLoop => cases h; exact (rptLoop_keeps p s _).sound
  | _ => cases h

theorem Keeps.dropHead (s : State) (p : Port) : Keeps s (s.dropHead p) := .setPort s p _ le_rfl

theorem Keeps.pushRecord (s : State) (p : Port) (r : ResultRecord) : Keeps s (s.pushRecord p r) := .setPort s p _ le_rfl

/-- Taking a command (R177, R169, R170): beside its effect the port's queue, ring and repeat record alone are written. -/
theorem takeCommand_sound (p : Port) (f : Frame) {op : CommandOp} (h : ∀ s, Sound s (op s).1) (s : State) :
    Sound s (takeCommand p f op s) := by
  have plain (u : State) : Sound u (runPlain u p f op) := by
    unfold runPlain
    dsimp only
    split
    · exact h u
    · exact (h u).trans (Keeps.pushRecord _ p _).sound
  rcases takeCommand_cases p f op s with ⟨_, e⟩ | ⟨_, _, e⟩ | ⟨_, _, e⟩ | ⟨_, e⟩ <;> rw [e]
  · exact .refl s
  · refine (Keeps.dropHead s p).sound.trans ?_
    unfold runCapturing
    split
    · exact ((Keeps.setRepeat p _ _).trans (.pushRecord _ p _)).sound
    · exact (plain _).trans (Keeps.setRepeat p _ _).sound
  · exact (Keeps.dropHead s p).sound.trans (plain _)
  · exact (h s).trans (Keeps.setRepeat p _ _).sound

end Sys2Proof.Machine
end


section
/-! PROOFS. Links, resets and frame starts, and so every row, with the invariants of the Slot Store (R62, R64, R87, R156,
R183, R184). -/

namespace Sys2Proof.Machine

/-! ### The port reset (R183) -/

theorem SlotOk.orphaned {x : Slot} (h : SlotOk x) (hf : x.captureFlag = false) : SlotOk (orphaned x) := by
  unfold Machine.orphaned
  split
  · exact .freed _
  · rename_i hr
    obtain ⟨hdim, hpos, hpix, _, _, _⟩ := h
    exact ⟨hdim, hpos, hpix, fun hset => absurd hset (by simp [hf]), fun _ => rfl, rfl, Nat.one_le_iff_ne_zero.mpr hr⟩

theorem orphaned_refCount (x : Slot) : (orphaned x).refCount = x.refCount := by
  unfold orphaned
  split
  · rename_i h
    exact h.symm
  · rfl

theorem orphaned_captureFlag {x : Slot} (hf : x.captureFlag = false) : (orphaned x).captureFlag = false := by
  unfold orphaned
  split
  · rfl
  · exact hf

theorem State.slot_resetSlot (p : Port) (s : State) (i j : Fin 64) : (s.resetSlot p i).slot j =
    if j = i ∧ (s.slot j).owner = some p then orphaned (s.slot j) else s.slot j := by
  unfold State.resetSlot
  by_cases hj : j = i
  · subst hj
    split <;> simp [*]
  · split
    · rw [State.slot_setSlot_ne _ _ _ _ hj, if_neg (by simp [hj])]
    · rw [if_neg (by simp [hj])]

theorem State.resetSlot_eq (p : Port) (s : State) (i : Fin 64) :
    s.resetSlot p i = { s with slots := (s.resetSlot p i).slots } := by
  unfold State.resetSlot
  split <;> rfl

/-- A slot that its owner's reset frees or orphans serves no request of another port (R49, R64). -/
theorem Keeps.resetSlot {p : Port} {s : State} (hp : ∀ r ∈ s.cap.requests, r.requester ≠ p) (i : Fin 64) :
    Keeps s (s.resetSlot p i) := by
  have hclear (h : CaptureOk s) {j : Fin 64} (ho : (s.slot j).owner = some p) : (s.slot j).captureFlag = false := by
    obtain ⟨hreq, _⟩ := (captureOk_iff s).mp h
    by_contra hf
    obtain ⟨r, hr, hown⟩ := hreq.owner_of_flag (by simpa using hf)
    exact hp r hr (Option.some.inj (hown.symm.trans ho))
  have heq := s.resetSlot_eq p i
  refine .of_timers (by rw [heq]) (fun _ h => h.of_eq (fun j => ?_) fun _ => by rw [heq]; rfl) (fun _ => by rw [heq]; rfl)
    (by rw [heq]) (by rw [heq]) (fun _ h => h.of_serves (by rw [heq]) (by rw [heq]) (fun _ => by rw [heq]; exact le_rfl)
      fun j => ?_) fun _ _ _ hc h j => ?_
  all_goals rw [State.slot_resetSlot]
  · split
    · exact orphaned_refCount _
    · rfl
  · split
    · rename_i ho
      exact .of_clear (hclear h ho.2) (orphaned_captureFlag (hclear h ho.2))
    · exact .refl _
  · split
    · rename_i ho
      exact (h j).orphaned (hclear hc ho.2)
    · exact h j

theorem State.cap_resetSlot (p : Port) (s : State) (i : Fin 64) : (s.resetSlot p i).cap = s.cap := by
  rw [State.resetSlot_eq]

theorem Keeps.resetSlots {p : Port} {s : State} (hp : ∀ r ∈ s.cap.requests, r.requester ≠ p) (is : List (Fin 64)) :
    Keeps s (is.foldl (State.resetSlot p) s) := by
  induction is generalizing s with
  | nil => exact .refl s
  | cons i rest ih => exact (Keeps.resetSlot hp i).trans (ih (by rwa [State.cap_resetSlot]))

theorem Sound.resetLayer (p : Port) (s : State) (l : Fin 8) : Sound s (s.resetLayer p l) := by
  unfold State.resetLayer
  split
  · exact .releaseLayer s l
  · exact .refl s

theorem State.cap_resetLayer (p : Port) (s : State) (l : Fin 8) : (s.resetLayer p l).cap = s.cap := by
  unfold State.resetLayer
  split
  · rw [State.releaseLayer_eq]
  · rfl

theorem Keeps.clearLockingPort (p : Port) (s : State) (l : Fin 8) : Keeps s (s.clearLockingPort p l) := by
  unfold State.clearLockingPort
  split
  · exact .setMonitor s l _ rfl
  · exact .refl s

theorem State.cap_clearLockingPort (p : Port) (s : State) (l : Fin 8) : (s.clearLockingPort p l).cap = s.cap := by
  unfold State.clearLockingPort
  split <;> rfl

theorem Keeps.resetSlice (p : Port) (s : State) (i : Fin 32) : Keeps s (s.resetSlice p i) := by
  unfold State.resetSlice
  split
  · exact .scenery s
  · exact .refl s

theorem Keeps.resetTimer (p : Port) (s : State) (t : Fin 4) : Keeps s (s.resetTimer p t) := by
  unfold State.resetTimer
  split
  · exact .resetTimerRecord s t
  · exact .refl s

theorem Keeps.resetPortState (s : State) (p : Port) : Keeps s (s.resetPortState p) := .setPort s p _ (Nat.zero_le _)

/-- The requests of a port, and all of them when it holds the input, are gone at its reset (R107, R138). -/
theorem Keeps.resetRequests (p : Port) (s : State) :
    let t := if (s.abortOf p).vin.holder = some p then (s.abortOf p).giveUpInput else s.abortOf p
    Keeps s t ∧ ∀ r ∈ t.cap.requests, r.requester ≠ p := by
  obtain ⟨hret, hothers⟩ := s.abortOf_retires p
  have habort : Keeps s (s.abortOf p) := .of_only hret (s.abortOf_only p)
  dsimp only
  split
  · obtain ⟨_, hnone⟩ := (s.abortOf p).inputOff_retires
    refine ⟨habort.trans (.giveUpInput _), fun r hr => ?_⟩
    rw [State.giveUpInput, State.setVin_cap, hnone] at hr
    cases hr
  · exact ⟨habort, hothers⟩

theorem Sound.portReset (s : State) (p : Port) : Sound s (s.portReset p) := by
  obtain ⟨hrequests, hothers⟩ := Keeps.resetRequests p s
  have hlayers (u : State) : Sound u ((List.finRange 8).foldl (State.clearLockingPort p)
      ((List.finRange 8).foldl (State.resetLayer p) u)) :=
    (Sound.foldl _ (Sound.resetLayer p) _ u).trans (Keeps.foldl _ (Keeps.clearLockingPort p) _ _).sound
  have hcap (u : State) : ((List.finRange 8).foldl (State.clearLockingPort p)
      ((List.finRange 8).foldl (State.resetLayer p) u)).cap = u.cap := by
    rw [foldl_keeps _ State.cap (State.cap_clearLockingPort p), foldl_keeps _ State.cap (State.cap_resetLayer p)]
  have hrest (u : State) : Keeps u (((List.finRange 4).foldl (State.resetTimer p)
      ((List.finRange 32).foldl (State.resetSlice p) u)).resetPortState p) :=
    ((Keeps.foldl _ (Keeps.resetSlice p) _ u).trans (.foldl _ (Keeps.resetTimer p) _ _)).trans (.resetPortState _ p)
  exact ((hrequests.sound.trans (hlayers _)).trans (Keeps.resetSlots (by rw [hcap]; exact hothers) _).sound).trans
    (hrest _).sound

/-! ### Links (R174 to R183) -/

theorem transactionEffect_sound (s : State) (p : Port) (kind : Kind) (bytes : List Byte) (l : Latch) :
    Sound s (transactionEffect s p kind bytes l) := by
  unfold transactionEffect
  cases kind with
  | cmd =>
    dsimp only
    unfold State.joinQueue
    split
    · exact (Keeps.raise s p _).sound
    · exact Keeps.sound (.setPort s p _ le_rfl)
  | res =>
    dsimp only
    split
    · exact Keeps.sound (.setPort s p _ le_rfl)
    · exact .refl s
  | caprep =>
    dsimp only
    split
    · exact Keeps.sound (.setPort s p _ (by simp))
    · exact .refl s
  | evt | stat => exact .refl s
  | ack | mask => exact Keeps.sound (.setPort s p _ le_rfl)
  | prst => exact .portReset s p

theorem linkTransaction_sound (p : Port) (bytes : List Byte) (s : State) : Sound s (linkTransaction p bytes s) := by
  have hclose (out : List Byte) : Sound s (s.closeLink p out) := Keeps.sound (.setPort s p _ le_rfl)
  unfold linkTransaction
  split
  · exact Keeps.sound (.setPort s p _ le_rfl)
  split
  · exact hclose []
  rename_i kind rest
  refine (hclose (shiftedOut (latchOf (s.port p) kind) (kind :: rest).length)).trans ?_
  dsimp only
  split
  · exact (Keeps.raise _ p _).sound
  split
  · exact transactionEffect_sound _ p _ _ _
  · exact (Keeps.raise _ p _).sound

/-! ### The output frame start (R87, R156) -/

theorem State.namedIn_congr {s t : State} (hf : ∀ l, (t.monitor l).fallback = (s.monitor l).fallback) :
    t.namedIn = s.namedIn := by
  funext i
  simp only [State.namedIn, hf]

/-- The references while the works `ws` of a frame start are still to come: monitors hold what they name, and what the
previous view took until the work on its fallbacks (R156). -/
def Pending (ws : List FrameWork) (u : State) : Prop :=
  if FrameWork.fallback ∈ ws then Tally u.heldIn u else Tally u.namedIn u

theorem Pending.tally {ws : List FrameWork} {u : State} (h : Pending ws u) : ∃ held, Tally held u := by
  unfold Pending at h
  split at h
  · exact ⟨_, h⟩
  · exact ⟨_, h⟩

theorem Pending.frameWork {w : FrameWork} {ws : List FrameWork} {u : State} (h : Pending (w :: ws) u) (hw : w ∉ ws) :
    Pending ws (frameWork w u) := by
  unfold Pending at *
  by_cases hf : w = .fallback
  · subst hf
    rw [if_pos List.mem_cons_self] at h
    rw [if_neg hw, State.namedIn_congr (s := u)]
    · exact h.fallbackWork
    · intro l
      show (u.fallbackWork.monitor l).fallback = _
      rw [State.fallbackWork_eq]
      rfl
  · have hk := Keeps.frameWork u hf
    have hmem : FrameWork.fallback ∈ w :: ws ↔ FrameWork.fallback ∈ ws := by
      rw [List.mem_cons]
      exact or_iff_right fun e => hf e.symm
    rw [State.heldIn_congr hk.fallback hk.view, State.namedIn_congr hk.fallback]
    simp only [hmem] at h
    split
    · rename_i hin
      rw [if_pos hin] at h
      exact hk.tally _ h
    · rename_i hin
      rw [if_neg hin] at h
      exact hk.tally _ h

theorem Pending.foldl {ws : List FrameWork} (hn : ws.Nodup) {u : State} (h : Pending ws u) :
    Pending [] (ws.foldl (fun s w => Machine.frameWork w s) u) := by
  induction ws generalizing u with
  | nil => exact h
  | cons w rest ih =>
    obtain ⟨hw, hrest⟩ := List.nodup_cons.mp hn
    exact ih hrest (h.frameWork hw)

theorem fallbackWork_timers {s : State} (h : TimersOk s) : TimersOk s.fallbackWork := by
  rw [State.fallbackWork_eq]
  exact h

theorem fallbackWork_capture {s : State} (h : CaptureOk s) : CaptureOk s.fallbackWork := by
  refine h.of_serves (by rw [State.fallbackWork_eq]) (by rw [State.fallbackWork_eq])
    (fun _ => by rw [State.fallbackWork_eq]; exact le_rfl) fun i => ?_
  rw [State.slot_fallbackWork]
  exact iterate_slotLessRef_keeps (P := (s.slot i).Serves) (fun _ hx => hx.trans (.slotLessRef _)) _ (.refl _)

theorem fallbackWork_slots {s : State} (h : SlotsOk s) : SlotsOk s.fallbackWork := fun i => by
  rw [State.slot_fallbackWork]
  exact iterate_slotLessRef_keeps (fun _ hx => hx.slotLessRef) _ (h i)

theorem frameWork_timers {s : State} (w : FrameWork) (h : TimersOk s) : TimersOk (frameWork w s) := by
  by_cases hw : w = .fallback
  · subst hw
    exact fallbackWork_timers h
  · exact (Keeps.frameWork s hw).timers h

theorem frameWork_capture {s : State} (w : FrameWork) (ht : TimersOk s) (h : CaptureOk s) : CaptureOk (frameWork w s) := by
  by_cases hw : w = .fallback
  · subst hw
    exact fallbackWork_capture h
  · exact (Keeps.frameWork s hw).capture ht.templates h

theorem frameWork_slots {s : State} (w : FrameWork) (hr : ∃ held, Tally held s) (ht : TimersOk s) (hc : CaptureOk s)
    (h : SlotsOk s) : SlotsOk (frameWork w s) := by
  by_cases hw : w = .fallback
  · subst hw
    exact fallbackWork_slots h
  · obtain ⟨held, hr⟩ := hr
    exact (Keeps.frameWork s hw).slots held hr ht.templates hc h

theorem foldl_frameWork_capture (ws : List FrameWork) {s : State} (ht : TimersOk s) (hc : CaptureOk s) :
    CaptureOk (ws.foldl (fun s w => frameWork w s) s) := by
  induction ws generalizing s with
  | nil => exact hc
  | cons w rest ih => exact ih (frameWork_timers w ht) (frameWork_capture w ht hc)

theorem foldl_frameWork_slots {ws : List FrameWork} (hn : ws.Nodup) {s : State} (hr : Pending ws s) (ht : TimersOk s)
    (hc : CaptureOk s) (h : SlotsOk s) : SlotsOk (ws.foldl (fun s w => frameWork w s) s) := by
  induction ws generalizing s with
  | nil => exact h
  | cons w rest ih =>
    obtain ⟨hw, hrest⟩ := List.nodup_cons.mp hn
    exact ih hrest (hr.frameWork hw) (frameWork_timers w ht) (frameWork_capture w ht hc)
      (frameWork_slots w hr.tally ht hc h)

/-- Before any work of a frame start the fallbacks of the previous view are all held (R156). -/
theorem RefsOk.pending {s : State} (h : RefsOk s) (order : List FrameWork) : Pending (frameOrder order s.frameTaken) s := by
  obtain ⟨htally, htaken⟩ := (refsOk_iff s).mp h
  have hmem : FrameWork.fallback ∈ frameOrder order s.frameTaken := by
    simp [frameOrder, mem_firsts, mem_allFrameWork, htaken]
  unfold Pending
  rwa [if_pos hmem]

/-- The view taken, monitors hold what they name (R87, R156). -/
theorem Pending.refsOk {u : State} (h : Pending [] u) : RefsOk { u with frameTaken := [], view := some (takeView u) } := by
  have hnamed : Tally u.namedIn u := by
    unfold Pending at h
    rwa [if_neg List.not_mem_nil] at h
  refine (refsOk_iff _).mpr ⟨?_, List.not_mem_nil⟩
  have hheld : State.heldIn { u with frameTaken := [], view := some (takeView u) } = u.namedIn := by
    funext i
    refine List.countP_congr fun l _ => ?_
    have hview : State.viewFallback { u with frameTaken := [], view := some (takeView u) } l = (u.monitor l).fallback :=
      congrArg LayerView.fallback (takeView_layer u l)
    simp only [monitorHolds, hview]
    exact iff_of_eq (congrArg (· = true) (Bool.or_self _))
  rw [hheld]
  exact hnamed

theorem Sound.frameStart (s : State) (order : List FrameWork) : Sound s (s.frameStart order) := by
  have hn : (frameOrder order s.frameTaken).Nodup := (firsts_nodup _).filter _
  exact
    { refs := fun hr => ((hr.pending order).foldl hn).refsOk
      timers := fun ht => List.foldlRecOn (motive := TimersOk) _ _ ht fun _ h w _ => frameWork_timers w h
      capture := fun ht hc => foldl_frameWork_capture (frameOrder order s.frameTaken) ht hc
      slots := fun hr ht hc h => foldl_frameWork_slots hn (hr.pending order) ht hc h }

/-! ### The RESET pin (R66, R184) -/

theorem Sound.pinReset (s : State) : Sound s s.pinReset where
  refs _ := by
    obtain ⟨htally, _⟩ := (refsOk_iff _).mp refsOk_reset
    refine (refsOk_iff _).mpr ⟨?_, List.not_mem_nil⟩
    have hheld : s.pinReset.heldIn = State.reset.heldIn := State.heldIn_congr (fun _ => rfl) fun _ => rfl
    rw [hheld]
    exact htally.of_eq (fun i => by rw [State.slot_pinReset, State.slot_reset]; rfl) fun _ => rfl
  timers _ := timersOk_reset
  capture _ _ := by
    refine captureOk_reset.of_serves rfl rfl (fun q => ?_) fun i => ?_
    · rw [State.port_pinReset]
      exact Nat.zero_le _
    · rw [State.slot_pinReset, State.slot_reset]
      exact .of_clear rfl rfl
  slots _ _ _ _ i := by
    rw [State.slot_pinReset]
    exact .freed _

/-! ### Every row -/

theorem exec_sound (c : Instr) (s : State) : ∃ t, exec c s = .next t ∧ Sound s t := by
  cases hc : commandOf c with
  | some q =>
    obtain ⟨p, f, op⟩ := q
    exact ⟨_, exec_of_commandOf hc s, takeCommand_sound p f (commandOf_sound hc) s⟩
  | none =>
    cases c with
    | cmd p | res p | caprep p | evt p | ack p | mask p | stat p | prst p | invalidTransaction p =>
      exact ⟨_, rfl, linkTransaction_sound p _ s⟩
    | unknownCommand p tag code operands =>
      have hk : (Frame.mk tag code operands).known = true := by
        by_contra h
        simp [commandOf, h] at hc
      exact ⟨s, by simp [exec, execUnknownCommand, hk], .refl s⟩
    | summaryRecord p =>
      refine ⟨_, rfl, ?_⟩
      split
      · exact .refl s
      split
      · exact ((Keeps.setRepeat p s _).trans (.pushRecord _ p _)).sound
      · exact .refl s
    | outputFrameStart order =>
      refine ⟨_, rfl, ?_⟩
      split
      · exact .refl s
      · exact .frameStart s order
    | silenceLimit =>
      refine ⟨_, rfl, ?_⟩
      split
      · exact ((Keeps.silenceWork s).trans (.noteTaken _ (by simp))).sound
      · exact .refl s
    | monitorExpiry l =>
      refine ⟨_, rfl, ?_⟩
      split
      · exact .refl s
      · exact ((Keeps.monitorWork s l).trans (.noteTaken _ (by simp))).sound
    | timerExpiry t =>
      refine ⟨_, rfl, ?_⟩
      split
      · exact .refl s
      · rename_i h
        have hrun : (s.timer t).running = true := by
          by_contra hn
          simp [lastCount, hn] at h
        exact ((Keeps.countTimer hrun false).trans (.noteTaken _ (by simp))).sound
    | captureTakeover =>
      refine ⟨_, rfl, ?_⟩
      split
      · exact ((Keeps.takeoverWork s).trans (.noteTaken _ (by simp))).sound
      · exact .refl s
    | capActivate => exact ⟨_, rfl, (Keeps.activate s false).sound⟩
    | firstFrameMark =>
      refine ⟨_, rfl, ?_⟩
      split
      · exact (Keeps.firstMark s).sound
      · exact .refl s
    | inputFrameEnd bus order =>
      refine ⟨_, rfl, ?_⟩
      split
      · exact .refl s
      split
      · exact (Keeps.firstMark s).sound
      · exact (Keeps.frameEnd s _ _ _).sound
    | resetAsserted => exact ⟨_, rfl, .pinReset s⟩
    | resetReleased => exact ⟨_, rfl, Keeps.sound (.scenery s)⟩
    | selectAsserted p kind =>
      refine ⟨_, rfl, ?_⟩
      split
      · exact Keeps.sound (.setPort s p _ le_rfl)
      · exact Keeps.sound (.setPort s p _ le_rfl)
      · exact .refl s
      · exact .refl s
    | _ => cases hc

theorem step_sound {s t : State} (h : step s = .next t) : Sound s t := by
  unfold step at h
  split at h
  · cases h
    exact .refl s
  · rename_i c rest _
    obtain ⟨u, hu, hsound⟩ := exec_sound c { s with pending := rest }
    obtain rfl := Host.Outcome.next.inj (hu.symm.trans h)
    exact (Keeps.scenery s).sound.trans hsound

/-- Settles O54: references of placements and of monitors are told apart, and every part of a step keeps the count. -/
theorem referenceCountsStayExact : Obligations.ReferenceCountsStayExact :=
  fun _ _ hs he => (step_sound he).refs hs

/-- Settles O55: every part of a step keeps the slot records, with the counts, the requests and the templates they lean
on. -/
theorem slotStoreStaysConsistent : Obligations.SlotStoreStaysConsistent := by
  rintro s t ⟨⟨hr, hc, hs⟩, ht⟩ he
  have h := step_sound he
  exact ⟨⟨h.refs hr, h.capture ht hc, h.slots hr ht hc hs⟩, h.timers ht⟩

end Sys2Proof.Machine
end


section
/-! PROOFS. What the blocks' work at an output frame start leaves of a finished image, of the sticky flags and of the
Capture Unit (R17 to R25, R55, R116, R148, R149, R158). -/

namespace Sys2Proof.Machine

/-! ### Sticky flags -/

/-- Every flag but RESULT stands in its sticky bit (R180). -/
theorem PortState.hasFlag_eq (x : PortState) {f : EventFlag} (hf : f ≠ .result) :
    x.hasFlag f = (x.sticky &&& flagBit f != 0) := by
  have hring : (if x.ring = [] then 0 else flagBit .result) &&& flagBit f = 0#9 := by
    cases f with
    | result => exact absurd rfl hf
    | _ => split <;> decide
  have hmask : (0x1FE : BitVec 9) &&& flagBit f = flagBit f := by
    cases f with
    | result => exact absurd rfl hf
    | _ => decide
  rw [PortState.hasFlag, eventWord, BitVec.and_or_distrib_right, hring, BitVec.and_assoc, hmask, BitVec.or_zero]

/-- Bits that join the sticky flags clear none. -/
theorem PortState.hasFlag_of_sticky {x y : PortState} {f : EventFlag} (hf : f ≠ .result) {more : BitVec 9}
    (hy : y.sticky = x.sticky ||| more) (hx : x.hasFlag f = true) : y.hasFlag f = true := by
  rw [PortState.hasFlag_eq _ hf, bne_iff_ne] at hx ⊢
  intro hzero
  rw [hy, BitVec.and_or_distrib_right] at hzero
  exact hx (BitVec.or_eq_zero_iff.mp hzero).1

/-- A flag's own bit sets it. -/
theorem PortState.hasFlag_of_bit {x : PortState} {f : EventFlag} (hf : f ≠ .result) {before : BitVec 9}
    (hx : x.sticky = before ||| flagBit f) : x.hasFlag f = true := by
  rw [PortState.hasFlag_eq _ hf, bne_iff_ne]
  intro hzero
  rw [hx, BitVec.and_or_distrib_right, BitVec.and_self] at hzero
  have hbit := (BitVec.or_eq_zero_iff.mp hzero).2
  cases f <;> simp [flagBit] at hbit

/-! ### What only grows -/

/-- An image that is READY stays as it is; its slot's references and capture flag may move. -/
def Slot.ImageStays (x y : Slot) : Prop :=
  x.state = .ready → y = { x with refCount := y.refCount, captureFlag := y.captureFlag }

theorem Slot.ImageStays.refl (x : Slot) : x.ImageStays x := fun _ => rfl

theorem Slot.ImageStays.trans {x y z : Slot} (h : x.ImageStays y) (k : y.ImageStays z) : x.ImageStays z := fun hx => by
  have hy := h hx
  have hz := k (by rw [hy]; exact hx)
  rw [hz, hy]

theorem Slot.ImageStays.slotLessRef (x : Slot) : x.ImageStays (slotLessRef x) := fun hx => by
  rw [slotLessRef_of_ne_orphan x (by rw [hx]; nofun)]

theorem Slot.ImageStays.unnamed (x : Slot) (i : Fin 64) (rs : List CaptureRequest) : x.ImageStays (x.unnamed i rs) :=
  fun _ => by
    unfold Slot.unnamed
    split <;> rfl

/-- A held thumbnail stays held (R121). -/
def CaptureUnit.HoldStays (c d : CaptureUnit) : Prop :=
  c.phase = .held → d.phase = .held ∧ d.active = c.active ∧ d.result = c.result

/-- From `s` to `t` READY images stay, and flags and reports only join (R139, R180); while a thumbnail is held it stays
so, and nothing is reported. -/
structure Grows (s t : State) : Prop where
  image : ∀ i, (s.slot i).ImageStays (t.slot i)
  sticky : ∀ q, ∃ more, (t.port q).sticky = (s.port q).sticky ||| more
  reports : ∀ q, ∃ more, (t.port q).reports = (s.port q).reports ++ more
  hold : s.cap.HoldStays t.cap
  silent : s.cap.phase = .held → ∀ q, (t.port q).reports = (s.port q).reports

theorem Grows.of_same {s t : State} (hslots : t.slots = s.slots) (hports : t.ports = s.ports)
    (hcap : s.cap.HoldStays t.cap) : Grows s t where
  image i := by rw [State.slot, State.slot, hslots]; exact .refl _
  sticky q := ⟨0#9, by rw [State.port, State.port, hports, BitVec.or_zero]⟩
  reports q := ⟨[], by rw [State.port, State.port, hports, List.append_nil]⟩
  hold := hcap
  silent _ q := by rw [State.port, State.port, hports]

theorem CaptureUnit.HoldStays.refl (c : CaptureUnit) : c.HoldStays c := fun h => ⟨h, rfl, rfl⟩

theorem Grows.refl (s : State) : Grows s s := .of_same rfl rfl (.refl _)

theorem Grows.trans {s t u : State} (h : Grows s t) (k : Grows t u) : Grows s u where
  image i := (h.image i).trans (k.image i)
  sticky q := by
    obtain ⟨a, ha⟩ := h.sticky q
    obtain ⟨b, hb⟩ := k.sticky q
    exact ⟨a ||| b, by rw [hb, ha, BitVec.or_assoc]⟩
  reports q := by
    obtain ⟨as, ha⟩ := h.reports q
    obtain ⟨bs, hb⟩ := k.reports q
    exact ⟨as ++ bs, by rw [hb, ha, List.append_assoc]⟩
  hold hs := by
    obtain ⟨hp, ha, hr⟩ := h.hold hs
    obtain ⟨hp', ha', hr'⟩ := k.hold hp
    exact ⟨hp', ha'.trans ha, hr'.trans hr⟩
  silent hs q := (k.silent (h.hold hs).1 q).trans (h.silent hs q)

theorem Grows.hasFlag {s t : State} (h : Grows s t) {q : Port} {f : EventFlag} (hf : f ≠ .result)
    (hs : (s.port q).hasFlag f = true) : (t.port q).hasFlag f = true := by
  obtain ⟨_, hmore⟩ := h.sticky q
  exact PortState.hasFlag_of_sticky hf hmore hs

/-- Requests that end without a takeover (R134), with no thumbnail held. -/
theorem Grows.of_told {s t : State} (hp : s.cap.phase ≠ .held) (rs : List CaptureRequest) (o : OutcomeCode)
    (hports : ∀ q, t.port q = (s.port q).told q rs o) (hslots : ∀ i, t.slot i = (s.slot i).unnamed i rs) : Grows s t where
  image i := by rw [hslots]; exact .unnamed _ i rs
  sticky q := by
    rw [hports]
    dsimp only [PortState.told]
    split
    · exact ⟨0#9, (BitVec.or_zero).symm⟩
    · exact ⟨_, rfl⟩
  reports q := ⟨_, by rw [hports]; rfl⟩
  hold h := absurd h hp
  silent h := absurd h hp

/-! ### What the Capture Unit does not notice -/

/-- From `s` to `t` block `k` leaves the Capture Unit, the input but for its frames, the reports and the other blocks'
timers; images and flags only grow, and no capture flag is set. -/
structure Quiet (k : FrameWork) (s t : State) : Prop where
  cap : t.cap = s.cap
  vin : t.vin = { s.vin with ready := t.vin.ready, shown := t.vin.shown }
  reports : ∀ q, (t.port q).reports = (s.port q).reports
  sticky : ∀ q, ∃ more, (t.port q).sticky = (s.port q).sticky ||| more
  image : ∀ i, (s.slot i).ImageStays (t.slot i)
  clear : ∀ i, (s.slot i).captureFlag = false → (t.slot i).captureFlag = false
  timers : ∀ i, k ≠ .timer i → t.timer i = s.timer i

section
variable {k : FrameWork} (s : State)

theorem Quiet.grows {s t : State} (h : Quiet k s t) : Grows s t where
  image := h.image
  sticky := h.sticky
  reports q := ⟨[], by rw [h.reports, List.append_nil]⟩
  hold := h.cap ▸ .refl _
  silent _ := h.reports

theorem Quiet.trans {s t u : State} (h : Quiet k s t) (g : Quiet k t u) : Quiet k s u where
  cap := g.cap.trans h.cap
  vin := by rw [g.vin, h.vin]
  reports q := (g.reports q).trans (h.reports q)
  sticky := (h.grows.trans g.grows).sticky
  image i := (h.image i).trans (g.image i)
  clear i hi := g.clear i (h.clear i hi)
  timers i hi := (g.timers i hi).trans (h.timers i hi)

/-- A write of nothing that a slot, a port, the Capture Unit or a timer shows. -/
theorem Quiet.of_same {s t : State} (hslots : t.slots = s.slots) (hports : t.ports = s.ports) (hcap : t.cap = s.cap)
    (hvin : t.vin = { s.vin with ready := t.vin.ready, shown := t.vin.shown })
    (htimers : ∀ i, k ≠ .timer i → t.timer i = s.timer i) : Quiet k s t where
  cap := hcap
  vin := hvin
  reports q := by rw [State.port, State.port, hports]
  sticky := (Grows.of_same hslots hports (hcap ▸ .refl _)).sticky
  image := (Grows.of_same hslots hports (hcap ▸ .refl _)).image
  clear i hi := by rwa [State.slot, hslots]
  timers := htimers

theorem Quiet.refl : Quiet k s s := .of_same rfl rfl rfl rfl fun _ _ => rfl

theorem Quiet.foldl {α : Type} (f : State → α → State) (h : ∀ s a, Quiet k s (f s a)) (as : List α) (s : State) :
    Quiet k s (as.foldl f s) := by
  induction as generalizing s with
  | nil => exact .refl s
  | cons a rest ih => exact (h s a).trans (ih (f s a))

theorem Quiet.setLayer (l : Fin 8) (x : Layer) : Quiet k s (s.setLayer l x) := .of_same rfl rfl rfl rfl fun _ _ => rfl

theorem Quiet.setMonitor (l : Fin 8) (m : Monitor) : Quiet k s (s.setMonitor l m) :=
  .of_same rfl rfl rfl rfl fun _ _ => rfl

theorem Quiet.setTimer (t : Fin 4) (m : FrameTimer) : Quiet (.timer t) s (s.setTimer t m) :=
  .of_same rfl rfl rfl rfl fun i hi => State.timer_setTimer_ne _ _ _ _ fun e => hi (by rw [e])

/-- A write of the slots alone. -/
theorem Quiet.of_slots {s t : State} (ht : t = { s with slots := t.slots }) (himage : ∀ i, (s.slot i).ImageStays (t.slot i))
    (hclear : ∀ i, (s.slot i).captureFlag = false → (t.slot i).captureFlag = false) : Quiet k s t where
  cap := by rw [ht]
  vin := by rw [ht]
  reports q := by rw [ht]; rfl
  sticky q := ⟨0#9, by rw [ht, BitVec.or_zero]; rfl⟩
  image := himage
  clear := hclear
  timers i _ := by rw [ht]; rfl

/-- References lost (R62, R63). -/
theorem Quiet.of_lessRefs {s t : State} (ht : t = { s with slots := t.slots }) (n : Fin 64 → Nat)
    (hslots : ∀ i, t.slot i = slotLessRef^[n i] (s.slot i)) : Quiet k s t := by
  refine .of_slots ht (fun i => ?_) fun i hi => ?_
  · rw [hslots]
    exact iterate_slotLessRef_keeps (P := (s.slot i).ImageStays) (fun _ h => h.trans (.slotLessRef _)) _ (.refl _)
  · rw [hslots]
    refine iterate_slotLessRef_keeps (P := fun x => x.captureFlag = false) (fun x hx => ?_) _ hi
    unfold slotLessRef
    split
    · rfl
    · exact hx

theorem Quiet.dropRefs (ps : List Placement) : Quiet k s (s.dropRefs ps) :=
  .of_lessRefs (s.dropRefs_eq ps) _ (s.slot_dropRefs ps)

theorem Quiet.raise (p : Port) (f : EventFlag) : Quiet k s (s.raise p f) where
  cap := rfl
  vin := rfl
  reports q := State.reports_raise s p q f
  sticky q := by
    by_cases hq : q = p
    · subst hq
      exact ⟨flagBit f, by rw [State.port_raise]⟩
    · exact ⟨0#9, by rw [State.port_raise_ne _ _ _ _ hq, BitVec.or_zero]⟩
  image _ := .refl _
  clear _ hi := hi
  timers _ _ := rfl

theorem Quiet.raiseAt (p : Option Port) (f : EventFlag) : Quiet k s (s.raiseAt p f) := by
  cases p with
  | none => exact .refl s
  | some p => exact .raise s p f

theorem Quiet.raiseAll (f : EventFlag) : Quiet k s (s.raiseAll f) :=
  ((Quiet.raise s _ f).trans (.raise _ _ f)).trans (.raise _ _ f)

/-! ### The works that the Capture Unit does not notice -/

theorem Quiet.discardStaged (l : Fin 8) : Quiet k s (s.discardStaged l) := (Quiet.setLayer s l _).trans (.dropRefs _ _)

theorem Quiet.applyCommit (l : Fin 8) : Quiet k s (s.applyCommit l) := by
  unfold State.applyCommit
  dsimp only
  split
  · exact .refl s
  split
  · exact ((Quiet.setLayer s l _).trans (.dropRefs _ _)).trans (.raiseAt _ _ _)
  · exact .refl s

theorem Quiet.finishRelease (l : Fin 8) : Quiet k s (s.finishRelease l) := by
  unfold State.finishRelease
  split
  · exact ((Quiet.discardStaged s l).trans (.setLayer _ _ _)).trans (.dropRefs _ _)
  · exact .refl s

theorem Quiet.copyScene : Quiet k s s.copyScene := .of_same rfl rfl rfl rfl fun _ _ => rfl

theorem Quiet.stepOpacity (l : Fin 8) : Quiet k s (s.stepOpacity l) := .setLayer s l _

theorem Quiet.sceneWork : Quiet k s s.sceneWork :=
  (((Quiet.foldl _ Quiet.applyCommit _ s).trans (.foldl _ Quiet.finishRelease _ _)).trans (.copyScene _)).trans
    (.foldl _ Quiet.stepOpacity _ _)

theorem Quiet.openSlot (i : Fin 64) : Quiet k s (s.openSlot i) := by
  unfold State.openSlot
  split
  · rename_i hopening
    refine Quiet.trans (.of_slots (t := s.setSlot i { s.slot i with state := .opened }) rfl (fun j => ?_) fun j hj => ?_)
      (.raiseAt _ _ _)
    all_goals by_cases e : j = i
    · subst e
      intro hready
      rw [hopening] at hready
      cases hready
    · rw [State.slot_setSlot_ne _ _ _ _ e]
      exact .refl _
    · subst e
      rw [State.slot_setSlot]
      exact hj
    · rwa [State.slot_setSlot_ne _ _ _ _ e]
  · exact .refl s

theorem Quiet.fallbackWork : Quiet k s s.fallbackWork := .of_lessRefs s.fallbackWork_eq _ s.slot_fallbackWork

theorem Quiet.refreshMonitor (l : Fin 8) : Quiet k s (s.refreshMonitor l) := by
  unfold State.refreshMonitor
  dsimp only
  split
  · exact .setMonitor s l _
  · exact .refl s

theorem Quiet.promotionWork : Quiet k s s.promotionWork := by
  unfold State.promotionWork
  split
  · exact .refl s
  · rename_i f _
    have hshown : Quiet k s (s.setVin { s.vin with shown := some f, ready := none }) :=
      .of_same rfl rfl rfl rfl fun _ _ => rfl
    exact hshown.trans (.foldl _ Quiet.refreshMonitor _ _)

theorem Quiet.monitorWork (l : Fin 8) : Quiet k s (s.monitorWork l) := by
  unfold State.monitorWork
  dsimp only
  split
  · exact .refl s
  split
  · exact (((Quiet.setLayer s l _).trans (.raiseAt _ _ _)).trans (.raiseAt _ _ _)).trans (.setMonitor _ _ _)
  · exact .setMonitor s l _

end

/-- Every block's work but the silence count's, the Capture Unit's and the timers'. -/
theorem Quiet.frameWork (s : State) {k : FrameWork} (hs : k ≠ .silence) (ht : k ≠ .takeover) (hm : ∀ i, k ≠ .timer i) :
    Quiet k s (frameWork k s) := by
  cases k with
  | scene => exact .sceneWork s
  | slots => exact .foldl _ Quiet.openSlot _ s
  | fallback => exact .fallbackWork s
  | palette => exact .of_same rfl rfl rfl rfl fun _ _ => rfl
  | promotion => exact .promotionWork s
  | silence => exact absurd rfl hs
  | takeover => exact absurd rfl ht
  | monitor l => exact .monitorWork s l
  | timer i => exact absurd rfl (hm i)

/-- A timer whose expiry, if it comes, triggers no capture (R148, R149). -/
theorem Quiet.timerFrameWork (s : State) (i : Fin 4) (h : ¬ (s.timer i).TriggersAt .ofs) :
    Quiet (.timer i) s (s.timerFrameWork i) := by
  unfold State.timerFrameWork
  dsimp only
  split
  case isFalse => exact .refl s
  rename_i hr
  have hcount (hmode : (s.timer i).mode ≠ .measure) (hs : (s.timer i).source = .ofs) :
      Quiet (.timer i) s (s.countTimer i false) := by
    unfold State.countTimer
    dsimp only
    split
    case isFalse => exact .setTimer s i _
    rename_i hfull
    split
    case isFalse => exact .setTimer s i _
    rename_i hlast
    have haction : (s.timer i).action ≠ .capture := fun ha =>
      h ⟨hr, hmode, hs, ha, by simpa [prescaleFull] using hfull, hlast⟩
    unfold State.expireTimer
    rw [State.timer_setTimer, if_neg haction]
    exact ((Quiet.setTimer s i _).trans (.raiseAt _ _ _)).trans (.setTimer _ i _)
  split
  · exact .setTimer s i _
  all_goals
    rename_i hmode
    split
    · rename_i hs
      exact hcount (by rw [hmode]; nofun) hs
    · exact .refl s

end Sys2Proof.Machine
end


section
/-! PROOFS. Requests that end or begin at an output frame start: the queue considered, the silence limit and the timers'
triggers (R113, R129, R133 to R135, R148 to R150). -/

namespace Sys2Proof.Machine

/-! ### The queue considered (R129) -/

theorem CaptureRequest.within_iff (r : CaptureRequest) (v : TrailerInput) : r.within v ↔ r.crop.fits v = true := by
  simp [CaptureRequest.within, Crop.fits]

theorem State.activate_of_not {s : State} (h : ¬ (s.cap.phase = .idle ∧ s.vin.lock = .locked)) (atMark : Bool) :
    s.activate atMark = s := if_neg h

/-- The queue considered in IDLE and LOCKED: what ends, and what is served (R129). -/
theorem State.activate_served {s : State} {dead rest : List CaptureRequest} (hp : s.cap.phase = .idle)
    (hl : s.vin.lock = .locked) (hq : FirstFit s.vin s.cap.queue dead rest) :
    (∀ q, (s.activate false).port q = (s.port q).told q dead .badArg)
      ∧ (∀ i, (s.activate false).slot i = (s.slot i).unnamed i dead)
      ∧ (s.activate false).cap = s.cap.served s.vin.settle .awaited rest := by
  obtain ⟨hqueue, hdead, hrest⟩ := hq
  obtain ⟨hports, hslots, hcap⟩ := activateFrom_told false dead rest s
    (fun d hd => by simpa [CaptureRequest.within_iff] using hdead d hd)
    fun b hb => (b.within_iff s.vin).mp (hrest b hb)
  rw [State.activate, if_pos ⟨hp, hl⟩, hqueue]
  refine ⟨hports, hslots, hcap.trans ?_⟩
  cases rest <;> rfl

theorem Grows.activate (s : State) (atMark : Bool) : Grows s (s.activate atMark) := by
  unfold State.activate
  split
  · rename_i h
    obtain ⟨dead, rest, hqueue, hdead, hrest⟩ := exists_firstFit s.vin s.cap.queue
    obtain ⟨hports, hslots, _⟩ := activateFrom_told atMark dead rest s hdead hrest
    rw [hqueue]
    exact .of_told (by rw [h.1]; nofun) dead .badArg hports hslots
  · exact .refl s

theorem Grows.enqueue (s : State) (r : CaptureRequest) : Grows s (s.enqueue r) where
  image i := by
    rw [State.slot_enqueue]
    split
    · exact fun _ => rfl
    · exact .refl _
  sticky q := ⟨0#9, BitVec.or_zero.symm⟩
  reports q := ⟨[], (List.append_nil _).symm⟩
  hold h := ⟨h, rfl, rfl⟩
  silent _ _ := rfl

/-! ### The active request aborted (R133, R134) -/

theorem State.abortActive_told {s : State} {r : CaptureRequest} (ha : s.cap.active = some r) {o : OutcomeCode}
    (ho : o ≠ .ok) : (∀ q, (s.abortActive (some o)).port q = (s.port q).told q [r] o)
      ∧ (∀ i, (s.abortActive (some o)).slot i = (s.slot i).unnamed i [r])
      ∧ (s.abortActive (some o)).cap = { s.cap with
        active := none, phase := if s.vin.lock = .off then .idle else .recover, sampled := .none, result := .empty } := by
  unfold State.abortActive
  rw [ha]
  exact State.endRequest_told _ r o ho

theorem Grows.abortActive {s : State} (hp : s.cap.phase ≠ .held) {o : OutcomeCode} (ho : o ≠ .ok) :
    Grows s (s.abortActive (some o)) := by
  cases ha : s.cap.active with
  | none =>
    unfold State.abortActive
    rw [ha]
    exact .refl s
  | some r =>
    obtain ⟨hports, hslots, _⟩ := State.abortActive_told ha ho
    exact .of_told hp [r] o hports hslots

/-! ### The silence limit (R113, R135) -/

/-- The next output frame start makes the silence 8 frames long, in LOCKED (R113). -/
def State.lapses (s : State) : Prop := s.vin.lock = .locked ∧ 7 ≤ s.vin.silence

/-- The lock lost to silence, before a request is aborted for it (R113, R114). -/
def State.lockLost (s : State) : State :=
  (s.setVin { s.vin with silence := Config.silenceMax, badRun := 0, lock := .lost }).raiseAll .vinChange

theorem State.silenceWork_of_lapses {s : State} (h : s.lapses) : s.silenceWork =
    if s.cap.phase = .settle ∨ s.cap.phase = .sample then s.lockLost.abortActive (some .noInput) else s.lockLost := by
  obtain ⟨hl, h7⟩ := h
  have hmin : min Config.silenceMax (s.vin.silence + 1) = Config.silenceMax := Nat.min_eq_left (Nat.succ_le_succ h7)
  unfold State.silenceWork
  rw [if_neg (by rw [hl]; nofun), hmin]
  dsimp only
  rw [if_pos ⟨rfl, hl⟩, State.moveLock, if_neg (by show s.vin.lock ≠ .lost; rw [hl]; nofun)]
  dsimp only
  by_cases hp : s.cap.phase = .settle ∨ s.cap.phase = .sample
  · rw [if_pos hp]
    exact if_pos ⟨hl, hp⟩
  · rw [if_neg hp]
    exact if_neg fun hn => hp hn.2

/-- Short of the limit the silence count alone may move. -/
theorem State.silenceWork_of_not_lapses {s : State} (h : ¬ s.lapses) :
    ∃ n, s.silenceWork = s.setVin { s.vin with silence := n } := by
  unfold State.silenceWork
  split
  · exact ⟨s.vin.silence, rfl⟩
  · dsimp only
    rw [if_neg fun hn => h ⟨hn.2, ?_⟩]
    · exact ⟨_, rfl⟩
    · have := hn.1
      simp only [Config.silenceMax] at this
      omega

theorem State.silenceWork_eq (s : State) : s.silenceWork = { s with
    vin := s.silenceWork.vin, cap := s.silenceWork.cap, slots := s.silenceWork.slots, ports := s.silenceWork.ports } := by
  by_cases h : s.lapses
  · rw [State.silenceWork_of_lapses h]
    split
    · rw [State.abortActive_only s.lockLost]
      rfl
    · rfl
  · obtain ⟨n, hn⟩ := State.silenceWork_of_not_lapses h
    rw [hn]
    rfl

/-- The loss of the lock raises VIN_CHANGE, and of the Capture Unit, the slots and the reports it changes nothing. -/
theorem Grows.lockLost (s : State) : Grows s s.lockLost := by
  have hset (x : TrailerInput) : Grows s (s.setVin x) := .of_same rfl rfl (.refl _)
  exact (hset _).trans (Quiet.raiseAll (k := .silence) _ _).grows

theorem State.reports_lockLost (s : State) (q : Port) : (s.lockLost.port q).reports = (s.port q).reports :=
  State.reports_raiseAll _ q _

theorem Grows.silenceWork (s : State) : Grows s s.silenceWork := by
  by_cases h : s.lapses
  · rw [State.silenceWork_of_lapses h]
    split
    · rename_i hp
      exact (Grows.lockLost s).trans (.abortActive (fun hh => by simp [show s.cap.phase = .held from hh] at hp) nofun)
    · exact .lockLost s
  · obtain ⟨n, hn⟩ := State.silenceWork_of_not_lapses h
    rw [hn]
    exact .of_same rfl rfl (.refl _)

/-! ### The timers' work, triggers and all (R148 to R150) -/

theorem Grows.setTimer (s : State) (i : Fin 4) (m : FrameTimer) : Grows s (s.setTimer i m) := .of_same rfl rfl (.refl _)

theorem Grows.trigger (s : State) (i : Fin 4) (atMark : Bool) : Grows s (s.trigger i atMark) := by
  rcases s.trigger_cases i atMark with h | ⟨p, h⟩ | ⟨r, k, _, _, _, h⟩
  · rw [h]
    exact .refl s
  · rw [h]
    exact (Quiet.raise (k := .timer i) s p _).grows
  · rw [h, State.acceptRequest_eq]
    exact ((Grows.enqueue s r).trans (.activate _ _)).trans (.setTimer _ _ _)

theorem Grows.countTimer (s : State) (i : Fin 4) (atMark : Bool) : Grows s (s.countTimer i atMark) := by
  have hexpire (u : State) : Grows u (u.expireTimer i atMark) := by
    unfold State.expireTimer
    refine Grows.trans (Grows.trans ?_ (Quiet.raiseAt (k := .timer i) _ _ _).grows) (.setTimer _ i _)
    split
    · exact .trigger u i atMark
    · exact .refl u
  unfold State.countTimer
  dsimp only
  split
  · split
    · exact (Grows.setTimer s i _).trans (hexpire _)
    · exact .setTimer s i _
  · exact .setTimer s i _

theorem Grows.timerFrameWork (s : State) (i : Fin 4) : Grows s (s.timerFrameWork i) := by
  unfold State.timerFrameWork
  dsimp only
  split
  case isFalse => exact .refl s
  split
  · exact .setTimer s i _
  all_goals
    split
    · exact .countTimer s i false
    · exact .refl s

/-- Every block's work but the takeover. -/
theorem Grows.frameWork (s : State) {k : FrameWork} (hk : k ≠ .takeover) : Grows s (frameWork k s) := by
  by_cases hs : k = .silence
  · subst hs
    exact .silenceWork s
  by_cases hm : ∃ i, k = .timer i
  · obtain ⟨i, rfl⟩ := hm
    exact .timerFrameWork s i
  · exact (Quiet.frameWork s hs hk fun i hi => hm ⟨i, hi⟩).grows

end Sys2Proof.Machine
end


section
/-! PROOFS. The takeover of a held thumbnail, on its own and at an output frame start (R68, R113, R129 to R135, R139,
R140). -/

namespace Sys2Proof.Machine

/-! ### What a takeover leaves -/

/-- A slot that holds a thumbnail of colours `cs` (R68). -/
def Slot.Shows (x : Slot) (w h : Nat) (cs : List Colour) : Prop :=
  x.state = .ready ∧ x.format = .direct ∧ x.width = w ∧ x.height = h ∧ x.writePos = w * h
    ∧ ∀ (k : Nat) (c : Colour), cs[k]? = some c →
      x.pixels[k]? = some (.direct ⟨max 16 (min 235 c.y), max 16 (min 240 c.cb), max 16 (min 240 c.cr)⟩)

theorem Slot.shows_takenOver (x : Slot) (w h : Nat) (cs : List Colour) : (takenOver x w h cs).Shows w h cs := by
  refine ⟨rfl, rfl, rfl, rfl, rfl, fun k c hc => ?_⟩
  have hk : k < (cs.map fun c => Pixel.direct (clampColour c.y c.cb c.cr)).length := by
    simpa using (List.getElem?_eq_some_iff.mp hc).1
  rw [takenOver, List.getElem?_append_left hk, List.getElem?_map, hc, ← clampColour_eq]
  rfl

theorem Slot.Shows.stays {x y : Slot} {w h : Nat} {cs : List Colour} (hx : x.Shows w h cs) (hy : x.ImageStays y) :
    y.Shows w h cs := by
  rw [hy hx.1]
  exact hx

/-- A port after the takeover of request `r` (R132, R139, R140). -/
def PortState.delivered (x : PortState) (q : Port) (r : CaptureRequest) : PortState :=
  if q = r.requester then
    { x with reports := x.reports ++ [⟨r.tag, r.slot, .ok, r.origin⟩], sticky := x.sticky ||| 0x004 }
  else x

theorem PortState.hasFlag_delivered (x : PortState) (r : CaptureRequest) :
    (x.delivered r.requester r).hasFlag .capDone = true := by
  rw [PortState.delivered, if_pos rfl]
  exact PortState.hasFlag_of_bit (before := x.sticky) nofun rfl

theorem PortState.reports_delivered {x y : PortState} (h : x.reports = y.reports) (q : Port) (r : CaptureRequest) :
    (x.delivered q r).reports = (y.delivered q r).reports := by
  unfold PortState.delivered
  split
  · dsimp only
    rw [h]
  · exact h

theorem PortState.told_nil (x : PortState) (q : Port) (o : OutcomeCode) : x.told q [] o = x := by
  simp [PortState.told]

theorem PortState.reports_told_congr {x y : PortState} (h : x.reports = y.reports) (q : Port) (rs : List CaptureRequest)
    (o : OutcomeCode) : (x.told q rs o).reports = (y.told q rs o).reports := by
  dsimp only [PortState.told]
  rw [h]

theorem PortState.hasFlag_told (x : PortState) {d : CaptureRequest} {rs : List CaptureRequest} (hd : d ∈ rs)
    (o : OutcomeCode) : (x.told d.requester rs o).hasFlag .capAbort = true := by
  have hown : rs.filter (fun r => r.requester = d.requester) ≠ [] :=
    List.ne_nil_of_mem (List.mem_filter.mpr ⟨hd, decide_eq_true rfl⟩)
  exact PortState.hasFlag_of_bit (before := x.sticky) nofun (if_neg hown)

/-- A slot whose flag is clear has nothing to lose by a request's end. -/
theorem Slot.unnamed_of_clear {x : Slot} (hx : x.captureFlag = false) (i : Fin 64) (rs : List CaptureRequest) :
    x.unnamed i rs = x := by
  unfold Slot.unnamed
  rw [← hx]
  exact ite_self x

theorem Slot.unnamed_clear {x : Slot} (hx : x.captureFlag = false) (i : Fin 64) (rs : List CaptureRequest) :
    (x.unnamed i rs).captureFlag = false := by rwa [Slot.unnamed_of_clear hx]

theorem Slot.unnamed_of_mem (x : Slot) {d : CaptureRequest} {rs : List CaptureRequest} (hd : d ∈ rs) :
    (x.unnamed d.slot rs).captureFlag = false := by
  rw [Slot.unnamed, if_pos ⟨d, hd, rfl⟩]

section
variable {s : State} {r : CaptureRequest} {w h : Nat} {cs : List Colour}

theorem State.port_handOver (q : Port) : (s.handOver r w h cs).port q = (s.port q).delivered q r := by
  unfold PortState.delivered
  by_cases hq : q = r.requester
  · subst hq
    rw [if_pos rfl, State.handOver, State.pushReport, if_pos rfl, State.port_raise, State.port_setPort]
    rfl
  · rw [if_neg hq, State.handOver, State.pushReport, State.port_raise_ne _ _ _ _ hq, State.port_setPort_ne _ _ _ _ hq]
    rfl

/-- A takeover, and the queue considered after it where the input is LOCKED (R129, R132). -/
theorem State.takeoverWork_served {dead rest : List CaptureRequest} (hp : s.cap.phase = .held)
    (ha : s.cap.active = some r) (hr : s.cap.result = .finished w h cs) (hq : FirstFit s.vin s.cap.queue dead rest) :
    let ended := if s.vin.lock = .locked then dead else []
    (∀ q, s.takeoverWork.port q = ((s.port q).delivered q r).told q ended .badArg)
      ∧ (∀ i, s.takeoverWork.slot i = ((s.handOver r w h cs).slot i).unnamed i ended)
      ∧ s.takeoverWork.cap = (if s.vin.lock = .locked then s.cap.handedOver.served s.vin.settle .awaited rest
        else s.cap.handedOver) := by
  rw [State.takeoverWork_of_held hp ha hr]
  by_cases hl : s.vin.lock = .locked
  · simp only [if_pos hl]
    obtain ⟨hports, hslots, hcap⟩ := State.activate_served (s := s.handOver r w h cs) rfl hl hq
    exact ⟨fun q => by rw [hports, State.port_handOver], hslots, hcap⟩
  · simp only [if_neg hl]
    rw [State.activate_of_not (s := s.handOver r w h cs) fun hn => hl hn.2]
    exact ⟨fun q => by rw [State.port_handOver, PortState.told_nil], fun i => (Slot.unnamed_nil _ i).symm, rfl⟩

theorem State.takeoverWork_only (hp : s.cap.phase = .held) (ha : s.cap.active = some r)
    (hr : s.cap.result = .finished w h cs) : OnlyCapture s s.takeoverWork := by
  rw [State.takeoverWork_of_held hp ha hr]
  exact OnlyCapture.trans (t := s.handOver r w h cs) rfl (State.activate_only _ _)

end

/-! ### The takeover at an output frame start, whatever the timers do -/

/-- What stands of request `r`, whose thumbnail was held in `s`, once the works `done` have been taken. -/
structure TakeoverStands (s : State) (r : CaptureRequest) (w h : Nat) (cs : List Colour) (done : List FrameWork)
    (u : State) : Prop where
  held : .takeover ∉ done → u.cap.phase = .held ∧ u.cap.active = some r ∧ u.cap.result = .finished w h cs
    ∧ ∀ q, (u.port q).reports = (s.port q).reports
  taken : .takeover ∈ done → (u.slot r.slot).Shows w h cs ∧ (u.port r.requester).hasFlag .capDone = true
    ∧ ∃ more, (u.port r.requester).reports = ((s.port r.requester).delivered r.requester r).reports ++ more

theorem TakeoverStands.step {s u : State} {r : CaptureRequest} {w h : Nat} {cs : List Colour} {done : List FrameWork}
    {k : FrameWork} (hk : k ∉ done) (hu : TakeoverStands s r w h cs done u) :
    TakeoverStands s r w h cs (k :: done) (frameWork k u) := by
  by_cases e : k = .takeover
  · subst e
    obtain ⟨hp, ha, hr, hreports⟩ := hu.held hk
    have hwork : frameWork .takeover u = (u.handOver r w h cs).activate false := State.takeoverWork_of_held hp ha hr
    have hgrows := Grows.activate (u.handOver r w h cs) false
    refine ⟨fun hn => absurd List.mem_cons_self hn, fun _ => ?_⟩
    rw [hwork]
    refine ⟨?_, hgrows.hasFlag nofun ?_, ?_⟩
    · refine Slot.Shows.stays ?_ (hgrows.image r.slot)
      rw [State.slot_handOver_same]
      exact Slot.shows_takenOver _ w h cs
    · rw [State.port_handOver]
      exact PortState.hasFlag_delivered _ r
    · obtain ⟨more, hmore⟩ := hgrows.reports r.requester
      exact ⟨more, by rw [hmore, State.port_handOver, PortState.reports_delivered (hreports _)]⟩
  · have hgrows := Grows.frameWork u e
    have hmem := mem_cons_of_ne e done
    refine ⟨fun hn => ?_, fun hm => ?_⟩
    · obtain ⟨hp, ha, hr, hreports⟩ := hu.held (mt hmem.mpr hn)
      obtain ⟨hp', ha', hr'⟩ := hgrows.hold hp
      exact ⟨hp', ha'.trans ha, hr'.trans hr, fun q => (hgrows.silent hp q).trans (hreports q)⟩
    · obtain ⟨hshows, hflag, more, hmore⟩ := hu.taken (hmem.mp hm)
      obtain ⟨more', hmore'⟩ := hgrows.reports r.requester
      exact ⟨hshows.stays (hgrows.image r.slot), hgrows.hasFlag nofun hflag, more ++ more',
        by rw [hmore', hmore, List.append_assoc]⟩

end Sys2Proof.Machine
end


section
/-! PROOFS. The takeover at an output frame start at which no timer triggers a capture, and the rows CAPTURE_TAKEOVER and
CAP_ACTIVATE (R68, R113, R129 to R135, R139, R140). -/

namespace Sys2Proof.Machine

/-! ### The input and the timers -/

/-- What stands of the input and the timers once the works `done` have been taken from `s` (R113, R148). -/
structure InputStands (s : State) (done : List FrameWork) (u : State) : Prop where
  lockStays : ¬ s.lapses ∨ .silence ∉ done → u.vin.lock = s.vin.lock
  lockLost : s.lapses → .silence ∈ done → u.vin.lock = .lost
  silence : .silence ∉ done → u.vin.silence = s.vin.silence
  settle : u.vin.settle = s.vin.settle
  width : u.vin.width = s.vin.width
  height : u.vin.height = s.vin.height
  timers : ∀ i, .timer i ∉ done → u.timer i = s.timer i

theorem InputStands.start (s : State) : InputStands s [] s :=
  ⟨fun _ => rfl, nofun, fun _ => rfl, rfl, rfl, rfl, fun _ _ => rfl⟩

section
variable {s u : State} {done : List FrameWork}

/-- Before the silence count's work the lock is lost at it exactly where `s` says so. -/
theorem InputStands.lapses_iff (hu : InputStands s done u) (hs : .silence ∉ done) : u.lapses ↔ s.lapses := by
  unfold State.lapses
  rw [hu.lockStays (.inr hs), hu.silence hs]

theorem InputStands.firstFit (hu : InputStands s done u) {queue dead rest : List CaptureRequest}
    (h : FirstFit s.vin queue dead rest) : FirstFit u.vin queue dead rest := by
  unfold FirstFit CaptureRequest.within at *
  rwa [hu.width, hu.height]

/-- A work that leaves the lock, the silence count, the format and the other blocks' timers. -/
theorem InputStands.of_vin {k : FrameWork} (hk : k ≠ .silence) (hu : InputStands s done u) {t : State}
    (hv : t.vin = { u.vin with ready := t.vin.ready, shown := t.vin.shown })
    (ht : ∀ i, k ≠ .timer i → t.timer i = u.timer i) : InputStands s (k :: done) t := by
  have hmem := mem_cons_of_ne hk done
  refine ⟨fun h => ?_, fun hl hm => ?_, fun hn => ?_, ?_, ?_, ?_, fun i hn => ?_⟩
  · rw [hv]
    exact hu.lockStays (h.imp_right (mt hmem.mpr))
  · rw [hv]
    exact hu.lockLost hl (hmem.mp hm)
  · rw [hv]
    exact hu.silence (mt hmem.mpr hn)
  · rw [hv]
    exact hu.settle
  · rw [hv]
    exact hu.width
  · rw [hv]
    exact hu.height
  · obtain ⟨hi, hd⟩ := not_or.mp (mt List.mem_cons.mpr hn)
    exact (ht i (Ne.symm hi)).trans (hu.timers i hd)

theorem InputStands.silenceWork (hk : .silence ∉ done) (hu : InputStands s done u) :
    InputStands s (.silence :: done) u.silenceWork := by
  have hin : .silence ∈ FrameWork.silence :: done := List.mem_cons_self
  have htimers (i : Fin 4) (hn : .timer i ∉ FrameWork.silence :: done) : u.silenceWork.timer i = s.timer i := by
    rw [State.silenceWork_eq]
    exact hu.timers i fun hm => hn (List.mem_cons_of_mem _ hm)
  by_cases hl : u.lapses
  · have hvin : u.silenceWork.vin = { u.vin with silence := Config.silenceMax, badRun := 0, lock := .lost } := by
      rw [State.silenceWork_of_lapses hl]
      split
      · rw [State.abortActive_only u.lockLost]
        rfl
      · rfl
    refine ⟨fun h => (h.elim (fun h => h ((hu.lapses_iff hk).mp hl)) fun h => h hin).elim, fun _ _ => by rw [hvin],
      fun hn => absurd hin hn, ?_, ?_, ?_, htimers⟩
    all_goals rw [hvin]
    exacts [hu.settle, hu.width, hu.height]
  · obtain ⟨n, hn⟩ := State.silenceWork_of_not_lapses hl
    refine ⟨fun _ => ?_, fun h => absurd ((hu.lapses_iff hk).mpr h) hl, fun hn => absurd hin hn, ?_, ?_, ?_, htimers⟩
    all_goals rw [hn]
    exacts [hu.lockStays (.inr hk), hu.settle, hu.width, hu.height]

end

/-! ### The unit and its reports -/

/-- The unit is `c`, and the ports' reports are those of `x`. -/
def State.Stands (u : State) (c : CaptureUnit) (x : Port → PortState) : Prop :=
  u.cap = c ∧ ∀ q, (u.port q).reports = (x q).reports

theorem State.Stands.quiet {k : FrameWork} {u t : State} {c : CaptureUnit} {x : Port → PortState} (h : u.Stands c x)
    (hq : Quiet k u t) : t.Stands c x := ⟨hq.cap.trans h.1, fun q => (hq.reports q).trans (h.2 q)⟩

section
variable (s : State) (r : CaptureRequest) (dead rest : List CaptureRequest)

/-- The requests that end at the takeover because they no longer fit (R129). -/
def State.endedBy : List CaptureRequest := if s.vin.lock = .locked then dead else []

/-- The unit after the takeover (R129, R132). -/
def State.nextServed : CaptureUnit :=
  if s.vin.lock = .locked then s.cap.handedOver.served s.vin.settle .awaited rest else s.cap.handedOver

/-- The ports after the takeover of `r` and the end of the requests `rs` (R129, R132, R139). -/
def State.toldOf (rs : List CaptureRequest) (q : Port) : PortState := ((s.port q).delivered q r).told q rs .badArg

/-- After the takeover and the loss of the lock: the queue waits, it is used up, or the request that became active is
aborted (R129, R135). -/
def LossStands (u : State) : Prop :=
  u.Stands s.cap.handedOver (s.toldOf r [])
    ∨ (rest = [] ∧ u.Stands { s.cap.handedOver with queue := [] } (s.toldOf r dead))
    ∨ ∃ b behind, rest = b :: behind ∧ (u.slot b.slot).captureFlag = false
      ∧ u.Stands ⟨behind, none, .recover, 0, .none, .empty⟩ fun q => (s.toldOf r dead q).told q [b] .noInput

/-- What stands of the Capture Unit, where `r` was held in `s`, once the works `done` have been taken. -/
structure QueueStands (done : List FrameWork) (u : State) : Prop where
  held : .takeover ∉ done → u.Stands s.cap s.port
  clear : .takeover ∈ done → (u.slot r.slot).captureFlag = false
  considered : .takeover ∈ done → ¬ s.lapses ∨ .silence ∉ done →
    u.Stands (s.nextServed rest) (s.toldOf r (s.endedBy dead))
      ∧ ∀ d ∈ s.endedBy dead, (u.slot d.slot).captureFlag = false ∧ (u.port d.requester).hasFlag .capAbort = true
  lost : .takeover ∈ done → s.lapses → .silence ∈ done → LossStands s r dead rest u

end

section
variable {s u : State} {r : CaptureRequest} {dead rest : List CaptureRequest} {done : List FrameWork}

theorem LossStands.quiet {k : FrameWork} {t : State} (h : LossStands s r dead rest u) (hq : Quiet k u t) :
    LossStands s r dead rest t := by
  rcases h with h | ⟨hrest, h⟩ | ⟨b, behind, hrest, hflag, h⟩
  · exact .inl (h.quiet hq)
  · exact .inr (.inl ⟨hrest, h.quiet hq⟩)
  · exact .inr (.inr ⟨b, behind, hrest, hq.clear _ hflag, h.quiet hq⟩)

/-- A work that the Capture Unit does not notice. -/
theorem QueueStands.quiet {k : FrameWork} (hs : k ≠ .silence) (ht : k ≠ .takeover)
    (hu : QueueStands s r dead rest done u) {t : State} (hq : Quiet k u t) :
    QueueStands s r dead rest (k :: done) t := by
  have hms := mem_cons_of_ne hs done
  have hmt := mem_cons_of_ne ht done
  refine ⟨fun hn => (hu.held (mt hmt.mpr hn)).quiet hq, fun hm => hq.clear _ (hu.clear (hmt.mp hm)), fun hm hn => ?_,
    fun hm hl hd => (hu.lost (hmt.mp hm) hl (hms.mp hd)).quiet hq⟩
  obtain ⟨hstands, hends⟩ := hu.considered (hmt.mp hm) (hn.imp_right (mt hms.mpr))
  refine ⟨hstands.quiet hq, fun d hd => ?_⟩
  obtain ⟨hclear, hflag⟩ := hends d hd
  exact ⟨hq.clear _ hclear, hq.grows.hasFlag nofun hflag⟩

/-- The loss of the lock after the takeover (R113, R135). -/
theorem LossStands.of_silenceWork (hl : u.lapses)
    (hu : u.Stands (s.cap.handedOver.served s.vin.settle .awaited rest) (s.toldOf r dead)) :
    LossStands s r dead rest u.silenceWork := by
  obtain ⟨hcap, hreports⟩ := hu
  rw [State.silenceWork_of_lapses hl]
  cases rest with
  | nil =>
    rw [if_neg (by rw [hcap]; nofun)]
    exact .inr (.inl ⟨rfl, hcap, fun q => (u.reports_lockLost q).trans (hreports q)⟩)
  | cons b behind =>
    have hphase : u.cap.phase = .settle ∨ u.cap.phase = .sample := by
      rw [hcap, CaptureUnit.served]
      split
      · exact .inr rfl
      · exact .inl rfl
    have hactive : u.lockLost.cap.active = some b := by
      show u.cap.active = _
      rw [hcap, CaptureUnit.served]
      split <;> rfl
    rw [if_pos hphase]
    obtain ⟨hports, hslots, habort⟩ := State.abortActive_told hactive (o := .noInput) nofun
    refine .inr (.inr ⟨b, behind, rfl, ?_, ?_, fun q => ?_⟩)
    · rw [hslots]
      exact Slot.unnamed_of_mem _ (List.mem_singleton_self b)
    · rw [habort]
      show { u.cap with active := none, phase := .recover, sampled := .none, result := .empty } = _
      rw [hcap, CaptureUnit.served]
      split <;> rfl
    · rw [hports]
      exact PortState.reports_told_congr ((u.reports_lockLost q).trans (hreports q)) q [b] .noInput

/-- The silence count's work sets no capture flag. -/
theorem State.clear_silenceWork {i : Fin 64} (hi : (u.slot i).captureFlag = false) :
    (u.silenceWork.slot i).captureFlag = false := by
  by_cases hl : u.lapses
  · rw [State.silenceWork_of_lapses hl]
    split
    · cases ha : u.lockLost.cap.active with
      | none =>
        rw [State.abortActive, ha]
        exact hi
      | some b =>
        obtain ⟨_, hslots, _⟩ := State.abortActive_told ha (o := .noInput) nofun
        rw [hslots]
        exact Slot.unnamed_clear hi _ _
    · exact hi
  · obtain ⟨n, hn⟩ := State.silenceWork_of_not_lapses hl
    rw [hn]
    exact hi

/-- The silence count's work (R113, R135). -/
theorem QueueStands.silenceWork (hk : .silence ∉ done) (hp : s.cap.phase = .held) (hi : InputStands s done u)
    (hu : QueueStands s r dead rest done u) : QueueStands s r dead rest (.silence :: done) u.silenceWork := by
  have hmt := mem_cons_of_ne (show FrameWork.silence ≠ .takeover by nofun) done
  have hgrows := Grows.silenceWork u
  refine ⟨fun hn => ?_, fun hm => ?_, fun hm hn => ?_, fun hm hl _ => ?_⟩
  · obtain ⟨hcap, hreports⟩ := hu.held (mt hmt.mpr hn)
    have hheld : u.cap.phase = .held := by rw [hcap, hp]
    refine ⟨?_, fun q => (hgrows.silent hheld q).trans (hreports q)⟩
    by_cases hl : u.lapses
    · rw [State.silenceWork_of_lapses hl, if_neg (by rw [hheld]; nofun)]
      exact hcap
    · obtain ⟨n, hn⟩ := State.silenceWork_of_not_lapses hl
      rw [hn]
      exact hcap
  · exact State.clear_silenceWork (hu.clear (hmt.mp hm))
  · have hl : ¬ u.lapses := fun hl => hn.elim (fun h => h ((hi.lapses_iff hk).mp hl)) fun h => h List.mem_cons_self
    obtain ⟨n, hn⟩ := State.silenceWork_of_not_lapses hl
    rw [hn]
    exact hu.considered (hmt.mp hm) (.inr hk)
  · obtain ⟨hstands, _⟩ := hu.considered (hmt.mp hm) (.inr hk)
    rw [State.nextServed, State.endedBy, if_pos hl.1, if_pos hl.1] at hstands
    exact LossStands.of_silenceWork ((hi.lapses_iff hk).mpr hl) hstands

/-- The takeover itself (R129, R132). -/
theorem QueueStands.takeoverWork {w h : Nat} {cs : List Colour} (hk : .takeover ∉ done) (hp : s.cap.phase = .held)
    (ha : s.cap.active = some r) (hr : s.cap.result = .finished w h cs) (hq : FirstFit s.vin s.cap.queue dead rest)
    (hi : InputStands s done u) (hu : QueueStands s r dead rest done u) :
    QueueStands s r dead rest (.takeover :: done) u.takeoverWork := by
  have hms := mem_cons_of_ne (show FrameWork.takeover ≠ .silence by nofun) done
  have hmem : .takeover ∈ FrameWork.takeover :: done := List.mem_cons_self
  obtain ⟨hcap, hreports⟩ := hu.held hk
  rw [← hcap] at hp ha hr hq
  obtain ⟨hports, hslots, hnext⟩ := State.takeoverWork_served hp ha hr (hi.firstFit hq)
  have htold (rs : List CaptureRequest) (q : Port) :
      (((u.port q).delivered q r).told q rs .badArg).reports = (s.toldOf r rs q).reports :=
    PortState.reports_told_congr (PortState.reports_delivered (hreports q) q r) q rs .badArg
  refine ⟨fun hn => absurd hmem hn, fun _ => ?_, fun _ hn => ?_, fun _ hl hd => .inl ?_⟩
  · rw [hslots, State.slot_handOver_same]
    exact Slot.unnamed_clear rfl _ _
  · have hlock := hi.lockStays (hn.imp_right (mt hms.mpr))
    rw [hlock] at hports hslots hnext
    refine ⟨⟨?_, fun q => by rw [hports]; exact htold _ q⟩, fun d hd => ⟨?_, ?_⟩⟩
    · rw [hnext, hcap, hi.settle]
      rfl
    · rw [hslots]
      exact Slot.unnamed_of_mem _ hd
    · rw [hports]
      exact PortState.hasFlag_told _ hd _
  · have hlock : u.vin.lock ≠ .locked := by rw [hi.lockLost hl (hms.mp hd)]; nofun
    rw [if_neg hlock] at hports hnext
    exact ⟨hnext.trans (by rw [hcap]), fun q => by rw [hports]; exact htold [] q⟩

end

/-! ### The frame start without triggers -/

/-- What stands of input, timers and Capture Unit, where no timer triggers a capture. -/
structure UntriggeredStands (s : State) (r : CaptureRequest) (dead rest : List CaptureRequest) (done : List FrameWork)
    (u : State) : Prop where
  input : InputStands s done u
  queue : QueueStands s r dead rest done u

theorem UntriggeredStands.start (s : State) (r : CaptureRequest) (dead rest : List CaptureRequest) :
    UntriggeredStands s r dead rest [] s :=
  ⟨.start s, fun _ => ⟨rfl, fun _ => rfl⟩, nofun, nofun, nofun⟩

theorem UntriggeredStands.step {s u : State} {r : CaptureRequest} {w h : Nat} {cs : List Colour}
    {dead rest : List CaptureRequest} {done : List FrameWork} {k : FrameWork} (hp : s.cap.phase = .held)
    (ha : s.cap.active = some r) (hr : s.cap.result = .finished w h cs) (hq : FirstFit s.vin s.cap.queue dead rest)
    (hno : ∀ i, ¬ (s.timer i).TriggersAt .ofs) (hk : k ∉ done) (hu : UntriggeredStands s r dead rest done u) :
    UntriggeredStands s r dead rest (k :: done) (frameWork k u) := by
  have hquiet (hs : k ≠ .silence) (ht : k ≠ .takeover) (h : Quiet k u (frameWork k u)) :
      UntriggeredStands s r dead rest (k :: done) (frameWork k u) :=
    ⟨hu.input.of_vin hs h.vin h.timers, hu.queue.quiet hs ht h⟩
  by_cases hs : k = .silence
  · subst hs
    exact ⟨hu.input.silenceWork hk, hu.queue.silenceWork hk hp hu.input⟩
  by_cases ht : k = .takeover
  · subst ht
    refine ⟨?_, hu.queue.takeoverWork hk hp ha hr hq hu.input⟩
    obtain ⟨hcap, _⟩ := hu.queue.held hk
    rw [← hcap] at hp ha hr
    have honly := State.takeoverWork_only hp ha hr
    have hvin : u.takeoverWork.vin = u.vin := by rw [honly]
    refine hu.input.of_vin hs ?_ fun i _ => ?_
    · show u.takeoverWork.vin = { u.vin with ready := u.takeoverWork.vin.ready, shown := u.takeoverWork.vin.shown }
      rw [hvin]
    · show u.takeoverWork.timer i = _
      rw [honly]
      rfl
  by_cases hm : ∃ i, k = .timer i
  · obtain ⟨i, rfl⟩ := hm
    exact hquiet hs ht (.timerFrameWork u i (by rw [hu.input.timers i hk]; exact hno i))
  · exact hquiet hs ht (.frameWork u hs ht fun i hi => hm ⟨i, hi⟩)

end Sys2Proof.Machine
end


section
/-! PROOFS. The rows CAPTURE_TAKEOVER, OUTPUT_FRAME_START and CAP_ACTIVATE on a held thumbnail and a waiting queue (R68,
R129 to R132, R135). -/

namespace Sys2Proof.Machine

section
variable {s : State} {r : CaptureRequest} {w h : Nat} {cs : List Colour} {dead rest : List CaptureRequest}

/-- The row CAPTURE_TAKEOVER with a thumbnail held (R68, R129, R132). -/
theorem exec_captureTakeover (hpin : s.resetPin = false) (hp : s.cap.phase = .held) (ha : s.cap.active = some r)
    (hr : s.cap.result = .finished w h cs) (hq : FirstFit s.vin s.cap.queue dead rest)
    (hn : FrameWork.takeover ∉ s.frameTaken) : ∃ t, exec .captureTakeover s = .next t
      ∧ t.slot r.slot = { s.slot r.slot with
          state := .ready, format := .direct, width := w, height := h, writePos := w * h, captureFlag := false
          pixels := (t.slot r.slot).pixels }
      ∧ (t.slot r.slot).Shows w h cs ∧ (∀ j, j ≠ r.slot → t.slot j = (s.slot j).unnamed j (s.endedBy dead))
      ∧ t.cap = s.nextServed rest ∧ (∀ q, t.port q = s.toldOf r (s.endedBy dead) q)
      ∧ t.vin = s.vin ∧ t.layers = s.layers := by
  obtain ⟨hports, hslots, hcap⟩ := State.takeoverWork_served hp ha hr hq
  have honly := State.takeoverWork_only hp ha hr
  have hsame : s.takeoverWork.slot r.slot = takenOver (s.slot r.slot) w h cs := by
    rw [hslots, State.slot_handOver_same]
    exact Slot.unnamed_of_clear rfl _ _
  refine ⟨s.takeFrameWork .takeover, congrArg _ (if_pos ⟨hpin, hp, hn⟩), ?_, ?_, fun j hj => ?_, hcap, hports, ?_, ?_⟩
  · show s.takeoverWork.slot r.slot = { s.slot r.slot with
      state := .ready, format := .direct, width := w, height := h, writePos := w * h, captureFlag := false
      pixels := (s.takeoverWork.slot r.slot).pixels }
    rw [hsame]
    rfl
  · show (s.takeoverWork.slot r.slot).Shows w h cs
    rw [hsame]
    exact Slot.shows_takenOver _ w h cs
  · show s.takeoverWork.slot j = _
    rw [hslots, State.slot_handOver_ne hj]
    rfl
  · show s.takeoverWork.vin = _
    rw [honly]
  · show s.takeoverWork.layers = _
    rw [honly]

/-- An output frame start with a thumbnail held: what stands after it, with triggers and without (R68, R129 to R135). -/
theorem exec_outputFrameStart_held (order : List FrameWork) (hpin : s.resetPin = false) (hp : s.cap.phase = .held)
    (ha : s.cap.active = some r) (hr : s.cap.result = .finished w h cs) (hq : FirstFit s.vin s.cap.queue dead rest)
    (hs : s.frameTaken = []) : ∃ done t, exec (.outputFrameStart order) s = .next t ∧ (∀ k, k ∈ done)
      ∧ TakeoverStands s r w h cs done t
      ∧ ((∀ i, ¬ (s.timer i).TriggersAt .ofs) → QueueStands s r dead rest done t) := by
  obtain ⟨done, u, hall, ⟨htaken, hqueue⟩, he⟩ := State.frameStart_of_steps
    (P := fun done u => TakeoverStands s r w h cs done u
      ∧ ((∀ i, ¬ (s.timer i).TriggersAt .ofs) → UntriggeredStands s r dead rest done u))
    (fun _ _ _ hk hu => ⟨hu.1.step hk, fun hno => (hu.2 hno).step hp ha hr hq hno hk⟩) s order hs
    ⟨⟨fun _ => ⟨hp, ha, hr, fun _ => rfl⟩, nofun⟩, fun _ => .start s r dead rest⟩
  refine ⟨done, { u with frameTaken := [], view := some (takeView u) }, ?_, hall, ⟨htaken.held, htaken.taken⟩, fun hno => ?_⟩
  · show Host.Outcome.next _ = _
    rw [if_neg (by simp [hpin]), he]
  · obtain ⟨hheld, hclear, hconsidered, hlost⟩ := (hqueue hno).queue
    exact ⟨hheld, hclear, hconsidered, hlost⟩

/-- The row CAPTURE_TAKEOVER with none held. -/
theorem exec_captureTakeover_of_ne (hp : s.cap.phase ≠ .held) : exec .captureTakeover s = .next s :=
  congrArg _ (if_neg fun hn => hp hn.2.1)

/-- The row CAP_ACTIVATE where there is nothing to consider (R129). -/
theorem exec_capActivate_of_not (hn : s.cap.phase ≠ .idle ∨ s.vin.lock ≠ .locked ∨ s.cap.queue = []) :
    exec .capActivate s = .next s := by
  refine congrArg Host.Outcome.next ?_
  by_cases hact : s.cap.phase = .idle ∧ s.vin.lock = .locked
  · have hqueue : s.cap.queue = [] := hn.elim (absurd hact.1) fun hn => hn.elim (absurd hact.2) id
    rw [State.activate, if_pos hact, hqueue, activateFrom, ← hqueue]
    rfl
  · exact State.activate_of_not hact false

/-- The row CAP_ACTIVATE in IDLE and LOCKED (R129). -/
theorem exec_capActivate (hp : s.cap.phase = .idle) (hl : s.vin.lock = .locked)
    (hq : FirstFit s.vin s.cap.queue dead rest) : ∃ t, exec .capActivate s = .next t
      ∧ t.cap = s.cap.served s.vin.settle .awaited rest ∧ (∀ q, t.port q = (s.port q).told q dead .badArg)
      ∧ (∀ i, t.slot i = (s.slot i).unnamed i dead) ∧ OnlyCapture s t := by
  obtain ⟨hports, hslots, hcap⟩ := State.activate_served hp hl hq
  exact ⟨s.activate false, rfl, hcap, hports, hslots, State.activate_only s false⟩

end

/-- Settles O43: the blocks' works other than the silence count's and the takeover leave the Capture Unit, and those two
give the stated results in either order. -/
theorem takeoverAndActivation : Obligations.TakeoverAndActivation := by
  refine ⟨fun r w h cs dead rest s hpin hp ha hr hq => ⟨fun hn => ?_, fun order hs => ?_⟩,
    fun s => exec_captureTakeover_of_ne, fun s => exec_capActivate_of_not, fun dead rest s => exec_capActivate⟩
  · obtain ⟨t, ht, hslot, ⟨_, _, _, _, _, hholds⟩, hrest⟩ := exec_captureTakeover hpin hp ha hr hq hn
    exact ⟨t, ht, hslot, hholds, hrest⟩
  obtain ⟨done, t, ht, hall, htaken, hqueue⟩ := exec_outputFrameStart_held order hpin hp ha hr hq hs
  obtain ⟨⟨hstate, hformat, hwidth, hheight, hpos, hholds⟩, hflag, hmore⟩ := htaken.taken (hall _)
  refine ⟨t, ht, hstate, hformat, hwidth, hheight, hpos, hholds, hflag, hmore, fun hno => ?_⟩
  obtain ⟨_, hclear, hconsidered, hlost⟩ := hqueue hno
  refine ⟨hclear (hall _), fun hl => ?_, fun hl h7 => ?_⟩
  · obtain ⟨⟨hcap, hreports⟩, hends⟩ := hconsidered (hall _) (.inl hl)
    exact ⟨hcap, hreports, hends⟩
  · rcases hlost (hall _) ⟨hl, h7⟩ (hall _) with ⟨hcap, hreports⟩ | hused | ⟨b, behind, hrest, hb, hcap, hreports⟩
    · refine .inl ⟨hcap, fun q => (hreports q).trans ?_⟩
      rw [State.toldOf, PortState.told_nil]
      rfl
    · exact .inr (.inl hused)
    · exact .inr (.inr ⟨b, behind, hrest, hcap, hb, hreports⟩)

end Sys2Proof.Machine
end


section
/-! PROOFS. The palette commands (R75 to R80, R83): who owns a slice, and what a palette write stores. -/

namespace Sys2Proof.Machine

/-! ### Slices -/

section
variable {p : Port} {b : Byte} {s : State} {i : Fin 32}

/-- A slice operand that PAL_CLAIM and PAL_RELEASE refuse: no slice, or one of the common area's (R75, R76). -/
theorem sliceOf_common (h : b.toNat < 2 ∨ 32 ≤ b.toNat) : sliceOf b = none ∨ ∃ i, sliceOf b = some i ∧ i.val < 2 := by
  rcases h with h | h
  · exact .inr ⟨⟨b.toNat, by omega⟩, sliceOf_of_eq rfl, h⟩
  · exact .inl (sliceOf_of_le h)

theorem palClaim_of_common (h : b.toNat < 2 ∨ 32 ≤ b.toNat) : palClaim p b s = (s, refuse .badArg) := by
  rcases sliceOf_common h with h | ⟨i, h, hi⟩
  · rw [palClaim, h]
  · rw [palClaim, h]
    exact if_pos hi

theorem palClaim_of_eq (h : b.toNat = i.val) (hi : 2 ≤ i.val) : palClaim p b s =
    if s.sliceHolder i = none then (s.setSliceHolder i (some p), { outcome := .ok, value := i.val })
    else (s, refuse .taken) := by
  rw [palClaim, sliceOf_of_eq h]
  exact if_neg (not_lt.mpr hi)

theorem palRelease_of_common (h : b.toNat < 2 ∨ 32 ≤ b.toNat) : palRelease p b s = (s, refuse .badArg) := by
  rcases sliceOf_common h with h | ⟨i, h, hi⟩
  · rw [palRelease, h]
  · rw [palRelease, h]
    exact if_pos hi

theorem palRelease_of_eq (h : b.toNat = i.val) (hi : 2 ≤ i.val) : palRelease p b s =
    if s.sliceHolder i = some p then (s.setSliceHolder i none, { outcome := .ok, value := i.val })
    else (s, refuse .notOwner) := by
  rw [palRelease, sliceOf_of_eq h]
  exact if_neg (not_lt.mpr hi)

end

/-- Settles O25, by the slice operand and then by who owns the slice. -/
theorem sliceClaimAndReleaseMoveTheOwner : Obligations.SliceClaimAndReleaseMoveTheOwner := by
  intro p tag b s
  refine ⟨fun ht => ⟨fun hb => exec_refused rfl ht (palClaim_of_common hb), fun i hb hi => ?_⟩,
    fun ht => ⟨fun hb => exec_refused rfl ht (palRelease_of_common hb), fun i hb hi => ?_⟩⟩
  · have hop : palClaim p b (s.dropHead p) = _ := palClaim_of_eq hb hi
    exact ⟨fun ho => exec_answered ((s.dropHead p).setSliceHolder i (some p)) .ok i.val [] rfl ht (hop.trans (if_pos ho)),
      fun ho => exec_refused rfl ht (hop.trans (if_neg ho))⟩
  · have hop : palRelease p b (s.dropHead p) = _ := palRelease_of_eq hb hi
    exact ⟨fun ho => exec_answered ((s.dropHead p).setSliceHolder i none) .ok i.val [] rfl ht (hop.trans (if_pos ho)),
      fun ho => exec_refused rfl ht (hop.trans (if_neg ho))⟩

/-! ### Entries -/

/-- R78: an entry of the common area, or one in the port's own slice. -/
theorem mayWrite_iff (s : State) (p : Port) (n : Fin 256) :
    mayWrite s p n = true ↔ n.val < 16 ∨ ∃ i : Fin 32, i.val = n.val / 8 ∧ s.sliceHolder i = some p := by
  simp only [mayWrite, Bool.or_eq_true, decide_eq_true_eq]
  refine or_congr_right ⟨fun h => ⟨sliceOfEntry n, rfl, h⟩, fun ⟨i, hi, h⟩ => ?_⟩
  rwa [palette_div_eight n i hi.symm]

theorem clampEntry_eq (y cb cr alpha : Nat) : clampEntry y cb cr alpha =
    ⟨⟨max 16 (min 235 y), max 16 (min 240 cb), max 16 (min 240 cr)⟩, min 16 alpha⟩ := by
  rw [clampEntry, clampColour_eq, clampNat_zero]

theorem clampEntry_eq_self_iff (y cb cr alpha : Nat) : clampEntry y cb cr alpha = ⟨⟨y, cb, cr⟩, alpha⟩ ↔
    16 ≤ y ∧ y ≤ 235 ∧ 16 ≤ cb ∧ cb ≤ 240 ∧ 16 ≤ cr ∧ cr ≤ 240 ∧ alpha ≤ 16 := by
  simp [clampEntry, clampColour_eq_self_iff, clampNat_eq_self_iff, and_assoc]

/-- The entry that a code resolves to (R83). -/
theorem resolveCode_eq {w0 w1 : Fin 32} {c : Fin 16} {n : Fin 256}
    (h : n.val = if c.val < 8 then 8 * w0.val + c.val else 8 * w1.val + (c.val - 8)) : resolveCode w0 w1 c = n := by
  refine Fin.ext ?_
  rw [h, resolveCode]
  split
  · rename_i hc
    simp [Nat.mod_eq_of_lt hc]
  · rfl

theorem palSetcode_of_le {p : Port} {c y cb cr alpha : Byte} {s : State} (h : 16 ≤ c.toNat) :
    palSetcode p c y cb cr alpha s = (s, refuse .badArg) := dif_neg (not_lt.mpr h)

theorem palSetcode_of_lt {p : Port} {c y cb cr alpha : Byte} {s : State} {n : Fin 256} (h : c.toNat < 16)
    (hn : n.val = if c.toNat < 8 then 8 * (s.port p).wp0.val + c.toNat else 8 * (s.port p).wp1.val + (c.toNat - 8)) :
    palSetcode p c y cb cr alpha s = writeEntry p n y cb cr alpha s := by
  rw [← resolveCode_eq (c := ⟨c.toNat, h⟩) hn]
  exact dif_pos h

/-- A command row that is a palette write to entry `n` (R77, R78). -/
theorem exec_writeEntry {i : Instr} {p : Port} {f : Frame} {op : CommandOp} {s : State} {n : Fin 256}
    {y cb cr alpha : Byte} (hc : commandOf i = some (p, f, op)) (ht : Takes s p f)
    (hop : op (s.dropHead p) = writeEntry p n y cb cr alpha (s.dropHead p)) :
    let e := clampEntry y.toNat cb.toNat cr.toNat alpha.toNat
    (mayWrite s p n = true → exec i s = .next ((s.answered p f (okIf (16 ≤ y.toNat ∧ y.toNat ≤ 235 ∧ 16 ≤ cb.toNat
        ∧ cb.toNat ≤ 240 ∧ 16 ≤ cr.toNat ∧ cr.toNat ≤ 240 ∧ alpha.toNat ≤ 16)) n.val (entryBytes e)).setPalPending n e))
      ∧ (¬ mayWrite s p n = true → exec i s = .next (s.answered p f .notOwner n.val [])) := by
  intro e
  refine ⟨fun hm => ?_, fun hm => exec_answered (s.dropHead p) .notOwner n.val [] hc ht (hop.trans (if_neg hm))⟩
  have hclamp := clampOutcome_eq_okIf (decide_eq_true_iff.trans
    (clampEntry_eq_self_iff y.toNat cb.toNat cr.toNat alpha.toNat))
  rw [← hclamp]
  exact exec_answered ((s.dropHead p).setPalPending n e) _ n.val (entryBytes e) hc ht (hop.trans (if_pos hm))

/-- Settles O26: both commands are `writeEntry` of the entry that they name. -/
theorem paletteWritesReachThePendingCopy : Obligations.PaletteWritesReachThePendingCopy := by
  intro p tag y cb cr alpha s entry bytes outcome may
  have hentry : clampEntry y.toNat cb.toNat cr.toNat alpha.toNat = entry := clampEntry_eq _ _ _ _
  have hmay n : mayWrite s p n = true ↔ may n := mayWrite_iff s p n
  refine ⟨fun b n hb ht => ?_, fun c ht => ⟨fun hc => exec_refused rfl ht (palSetcode_of_le hc), fun n hc hn => ?_⟩⟩
  · have hop : palSet p b y cb cr alpha (s.dropHead p) = writeEntry p n y cb cr alpha (s.dropHead p) := by
      rw [palSet, show b.toFin = n from Fin.ext hb]
    have hexec := exec_writeEntry (i := .palSet p tag b y cb cr alpha) rfl ht hop
    rwa [hentry, hmay] at hexec
  · have hop := palSetcode_of_lt (p := p) (s := s.dropHead p) (y := y) (cb := cb) (cr := cr) (alpha := alpha) hc
      (by rwa [State.port_dropHead])
    have hexec := exec_writeEntry (i := .palSetcode p tag c y cb cr alpha) rfl ht hop
    rwa [hentry, hmay] at hexec

end Sys2Proof.Machine
end


section
/-! PROOFS. What one layer draws at a raster point (R83, R89 to R95, R97 to R99, R101). -/

namespace Sys2Proof.Machine

/-! ### Samples of an image and of a frame -/

theorem Rect.contains_iff (r : Rect) (x y : Int) :
    r.contains x y = true ↔ r.x0 ≤ x ∧ x ≤ r.x1 ∧ r.y0 ≤ y ∧ y ≤ r.y1 := by
  simp [Rect.contains, and_assoc]

theorem clipContains_iff (clip : Option Rect) (x y : Int) : clipContains clip x y = true ↔
    ∀ r, clip = some r → r.x0 ≤ x ∧ x ≤ r.x1 ∧ r.y0 ≤ y ∧ y ≤ r.y1 := by
  cases clip <;> simp [clipContains, Rect.contains_iff]

/-- A code yields the colour and alpha of the entry it resolves to (R83, R93). -/
theorem pixelSample_indexed (v : View) {w0 w1 : Fin 32} {code : Fin 16} {n : Fin 256}
    (h : n.val = if code.val < 8 then 8 * w0.val + code.val else 8 * w1.val + (code.val - 8)) :
    pixelSample v w0 w1 (.indexed code) = ⟨(v.entry n).colour, (v.entry n).alpha⟩ := by
  rw [pixelSample, resolveCode_eq h]

/-- The pixel stored for column `m` and row `k` (R92, R93), the point counted from the image's corner (`cx`, `cy`). -/
theorem imageSample_of_pixel {v : View} {img : Image} {w0 w1 : Fin 32} {x y cx cy : Int} {m k : Nat} {px : Pixel}
    (hx : x = cx + m) (hy : y = cy + k) (hm : m < img.width) (hk : k < img.height)
    (hpx : img.pixels[k * img.width + m]? = some px) :
    imageSample v img w0 w1 (x - cx) (y - cy) = some (pixelSample v w0 w1 px) := by
  obtain rfl : m = (x - cx).toNat := by omega
  obtain rfl : k = (y - cy).toNat := by omega
  rw [imageSample, if_pos (by omega), hpx]
  rfl

/-- A point beside the image (R92). -/
theorem imageSample_of_beside {v : View} {img : Image} {w0 w1 : Fin 32} {x y cx cy : Int}
    (h : x < cx ∨ y < cy ∨ cx + img.width ≤ x ∨ cy + img.height ≤ y) :
    imageSample v img w0 w1 (x - cx) (y - cy) = none := if_neg (by omega)

/-- The stored trailer pixel in column `m` and row `k` (R94). -/
theorem frameSample_of_pixel {f : VideoFrame} {x y cx cy : Int} {m k : Nat} {row : List Colour} {c : Colour}
    (hx : x = cx + m) (hy : y = cy + k) (hm : m < f.width) (hk : k < f.height) (hrow : f.lines[k]? = some row)
    (hc : row[m]? = some c) : frameSample f (x - cx) (y - cy) = some ⟨c, 16⟩ := by
  obtain rfl : m = (x - cx).toNat := by omega
  obtain rfl : k = (y - cy).toNat := by omega
  rw [frameSample, if_pos (by omega), hrow, Option.bind_some, hc]
  rfl

/-- A point beside the frame (R94). -/
theorem frameSample_of_beside {f : VideoFrame} {x y cx cy : Int}
    (h : x < cx ∨ y < cy ∨ cx + f.width ≤ x ∨ cy + f.height ≤ y) : frameSample f (x - cx) (y - cy) = none :=
  if_neg (by omega)

/-! ### Samples of a placement -/

/-- A placement that does not cover a raster point (R92): its clip or its image leaves the point out, or there is no
image in the view. -/
def Placement.Misses (e : Placement) (v : View) (ox oy x y : Int) : Prop :=
  (∃ r, e.clip = some r ∧ (x < r.x0 ∨ r.x1 < x ∨ y < r.y0 ∨ r.y1 < y))
    ∨ v.image e.slot = none ∨ x < ox + e.px ∨ y < oy + e.py
    ∨ ∃ img, v.image e.slot = some img ∧ (ox + e.px + img.width ≤ x ∨ oy + e.py + img.height ≤ y)

theorem placementSample_of_misses {v : View} {e : Placement} {ox oy x y : Int} (h : e.Misses v ox oy x y) :
    placementSample v ox oy e x y = none := by
  unfold placementSample
  split
  case isFalse => rfl
  rename_i hclip
  cases himg : v.image e.slot with
  | none => rfl
  | some img =>
    refine imageSample_of_beside ?_
    rcases h with ⟨r, hr, hout⟩ | hnone | hx | hy | ⟨img', himg', hout⟩
    · have hin := (clipContains_iff _ _ _).mp hclip r hr
      omega
    · rw [himg] at hnone
      cases hnone
    · exact .inl hx
    · exact .inr (.inl hy)
    · rw [himg] at himg'
      cases himg'
      exact .inr (.inr hout)

theorem placementSample_of_pixel {v : View} {e : Placement} {ox oy x y : Int} {img : Image} {m k : Nat} {px : Pixel}
    (hclip : ∀ r, e.clip = some r → r.x0 ≤ x ∧ x ≤ r.x1 ∧ r.y0 ≤ y ∧ y ≤ r.y1) (himg : v.image e.slot = some img)
    (hx : x = ox + e.px + m) (hy : y = oy + e.py + k) (hm : m < img.width) (hk : k < img.height)
    (hpx : img.pixels[k * img.width + m]? = some px) :
    placementSample v ox oy e x y = some (pixelSample v e.w0 e.w1 px) := by
  rw [placementSample, if_pos ((clipContains_iff _ _ _).mpr hclip), himg, Option.bind_some,
    imageSample_of_pixel hx hy hm hk hpx]

/-! ### Samples of a layer -/

section
variable {v : View} {l : LayerView} {x y : Int}

/-- R90. -/
theorem LayerView.visited_iff (l : LayerView) : l.visited = true ↔
    l.binding = .bound ∧ l.attrs.visible = true ∧ l.expired ≠ .hidden ∧ 1 ≤ l.current := by
  simp [LayerView.visited, and_assoc, Nat.succ_le_iff]

theorem layerSamples_of_placements (hl : l.visited = true) (he : l.expired = .none) (hs : l.attrs.source = .placements) :
    layerSamples v l x y = l.live.filterMap fun e => placementSample v l.attrs.ox l.attrs.oy e x y := by
  rw [layerSamples, if_neg (by simp [hl]), he, hs]

theorem layerSamples_of_vin (hl : l.visited = true) (he : l.expired = .none) (hs : l.attrs.source = .vin) :
    layerSamples v l x y = (vinSample v l.attrs x y).toList := by
  rw [layerSamples, if_neg (by simp [hl]), he, hs]

theorem layerSamples_of_fallback (hl : l.visited = true) (he : l.expired = .fallback) :
    layerSamples v l x y = (fallbackSample v l x y).toList := by
  rw [layerSamples, if_neg (by simp [hl]), he]

/-! ### What a layer draws -/

theorem blendLayer_of_nil (h : layerSamples v l x y = []) (b : Colour) : blendLayer v l x y b = b := by
  rw [blendLayer, h]
  rfl

/-- A layer with one sample blends it alone (R99). -/
theorem blendLayer_of_singleton {e : Sample} (h : layerSamples v l x y = [e]) (b : Colour) :
    blendLayer v l x y b = blend (effectiveAlpha e.alpha l.current) e.colour b := by
  rw [blendLayer, h]
  rfl

/-- A layer that is not visited draws nothing (R90). -/
theorem blendLayer_of_not_visited (h : l.binding ≠ .bound ∨ l.attrs.visible = false ∨ l.expired = .hidden ∨ l.current = 0)
    (b : Colour) : blendLayer v l x y b = b := by
  refine blendLayer_of_nil (if_pos ?_) b
  rw [← Bool.not_eq_true, LayerView.visited_iff]
  rintro ⟨hbound, hvisible, hshown, hopacity⟩
  rcases h with h | h | h | h
  · exact h hbound
  · simp [h] at hvisible
  · exact hshown h
  · omega

/-- The samples of a list end with that of its last covering placement, after those of the entries before it (R91). -/
theorem layerSamples_of_covering {before after : List Placement} {e : Placement} {a : Sample} (hl : l.visited = true)
    (he : l.expired = .none) (hs : l.attrs.source = .placements) (hlive : l.live = before ++ e :: after)
    (hafter : ∀ z ∈ after, z.Misses v l.attrs.ox l.attrs.oy x y)
    (ha : placementSample v l.attrs.ox l.attrs.oy e x y = some a) :
    layerSamples v l x y = layerSamples v { l with live := before } x y ++ [a] := by
  have hbefore : layerSamples v { l with live := before } x y = _ := layerSamples_of_placements hl he hs
  have hnone : after.filterMap (fun z => placementSample v l.attrs.ox l.attrs.oy z x y) = [] :=
    List.filterMap_eq_nil_iff.mpr fun z hz => placementSample_of_misses (hafter z hz)
  rw [layerSamples_of_placements hl he hs, hbefore, hlive, List.filterMap_append, List.filterMap_cons, ha, hnone]

/-- Of a list, the last entry that covers the point is blended over what the entries before it give (R91, R99). -/
theorem blendLayer_of_covering {before after : List Placement} {e : Placement} {a : Sample} (hl : l.visited = true)
    (he : l.expired = .none) (hs : l.attrs.source = .placements) (hlive : l.live = before ++ e :: after)
    (hafter : ∀ z ∈ after, z.Misses v l.attrs.ox l.attrs.oy x y)
    (ha : placementSample v l.attrs.ox l.attrs.oy e x y = some a) (b : Colour) : blendLayer v l x y b =
      blend (effectiveAlpha a.alpha l.current) a.colour (blendLayer v { l with live := before } x y b) := by
  rw [blendLayer, layerSamples_of_covering hl he hs hlive hafter ha, List.foldl_append]
  rfl

/-- A list of which no entry covers the point draws nothing (R92). -/
theorem blendLayer_of_misses (hl : l.visited = true) (he : l.expired = .none) (hs : l.attrs.source = .placements)
    (h : ∀ e ∈ l.live, e.Misses v l.attrs.ox l.attrs.oy x y) (b : Colour) : blendLayer v l x y b = b := by
  refine blendLayer_of_nil ((layerSamples_of_placements hl he hs).trans ?_) b
  exact List.filterMap_eq_nil_iff.mpr fun e hmem => placementSample_of_misses (h e hmem)

/-- A VIN layer with a sample at the point (R94). -/
theorem blendLayer_of_vin {f : VideoFrame} {c : Colour} (hl : l.visited = true) (he : l.expired = .none)
    (hs : l.attrs.source = .vin) (hclip : l.attrs.clip.contains x y = true) (hf : v.shown = some f)
    (hc : frameSample f (x - l.attrs.ox) (y - l.attrs.oy) = some ⟨c, 16⟩) (b : Colour) :
    blendLayer v l x y b = blend (effectiveAlpha 16 l.current) c b := by
  refine blendLayer_of_singleton (e := ⟨c, 16⟩) ?_ b
  rw [layerSamples_of_vin hl he hs, vinSample, if_pos hclip, hf, Option.bind_some, hc]
  rfl

/-- Outside its clip and beside the shown frame a VIN layer draws nothing (R94). -/
theorem vinSample_of_outside {a : Attributes}
    (h : x < a.clip.x0 ∨ a.clip.x1 < x ∨ y < a.clip.y0 ∨ a.clip.y1 < y ∨ v.shown = none ∨ x < a.ox ∨ y < a.oy
      ∨ ∃ f, v.shown = some f ∧ (a.ox + f.width ≤ x ∨ a.oy + f.height ≤ y)) : vinSample v a x y = none := by
  unfold vinSample
  split
  case isFalse => rfl
  rename_i hclip
  have hin := (Rect.contains_iff _ _ _).mp hclip
  cases hf : v.shown with
  | none => rfl
  | some f =>
    refine frameSample_of_beside ?_
    simp only [hf, Option.some.injEq, exists_eq_left', reduceCtorEq, false_or] at h
    omega

/-- A FALLBACK layer with a pixel of its slot's image at the point (R95). -/
theorem blendLayer_of_fallback {i : Fin 64} {img : Image} {m k : Nat} {px : Pixel} (hl : l.visited = true)
    (he : l.expired = .fallback) (hi : l.fallback = some i) (himg : v.image i = some img) (hx : x = l.attrs.ox + m)
    (hy : y = l.attrs.oy + k) (hm : m < img.width) (hk : k < img.height)
    (hpx : img.pixels[k * img.width + m]? = some px) (b : Colour) : blendLayer v l x y b =
      blend (effectiveAlpha (pixelSample v 0 1 px).alpha l.current) (pixelSample v 0 1 px).colour b := by
  refine blendLayer_of_singleton ?_ b
  rw [layerSamples_of_fallback hl he, fallbackSample, hi, Option.bind_some, himg, Option.bind_some,
    imageSample_of_pixel hx hy hm hk hpx]
  rfl

/-- Without an image in the view, and beside it, a FALLBACK layer draws nothing (R95). -/
theorem fallbackSample_of_beside (h : l.fallback = none ∨ x < l.attrs.ox ∨ y < l.attrs.oy
      ∨ ∃ i, l.fallback = some i ∧ (v.image i = none
        ∨ ∃ img, v.image i = some img ∧ (l.attrs.ox + img.width ≤ x ∨ l.attrs.oy + img.height ≤ y))) :
    fallbackSample v l x y = none := by
  unfold fallbackSample
  cases hi : l.fallback with
  | none => rfl
  | some i =>
    rw [Option.bind_some]
    cases himg : v.image i with
    | none => rfl
    | some img =>
      refine imageSample_of_beside ?_
      simp only [hi, himg, Option.some.injEq, exists_eq_left', reduceCtorEq, false_or] at h
      exact h

end

/-! ### Opacity and order -/

/-- A sample of alpha 16 under opacity 16 replaces the running colour (R101). -/
theorem blend_full (f b : Colour) : blend (effectiveAlpha 16 16) f b = f := by
  have hcomponent (m n : Nat) : blendComponent 16 m n = m := by
    unfold blendComponent
    omega
  simp [effectiveAlpha, blend, hcomponent]

/-- The topmost layer is drawn over what those below it give; what a layer draws asks nothing of the z-order (R89). -/
theorem composePixel_of_top {v : View} {below : List (Fin 8)} {top : Fin 8} (h : v.zOrder = below ++ [top]) (x y : Int) :
    composePixel v x y = blendLayer v (v.layer top) x y (composePixel { v with zOrder := below } x y) := by
  have hbelow : composePixel { v with zOrder := below } x y =
      below.foldl (fun b l => blendLayer v (v.layer l) x y b) v.backdrop := rfl
  rw [composePixel, h, List.foldl_append, hbelow]
  rfl

/-- Settles O48: the samples of a layer, by what it draws from, are those of its covering placements, its shown frame or
its fallback. -/
theorem layersDrawTheirSamplesInOrder : Obligations.LayersDrawTheirSamplesInOrder := by
  refine ⟨fun v l x y b => ?_, fun v x y => ⟨fun h => by rw [composePixel, h]; rfl, fun below top h => composePixel_of_top h x y⟩⟩
  intro missed
  refine ⟨fun h => blendLayer_of_not_visited h b, fun hbound hvisible hopacity => ?_⟩
  have hvisited (h : l.expired ≠ .hidden) : l.visited = true := l.visited_iff.mpr ⟨hbound, hvisible, h, hopacity⟩
  refine ⟨fun he hs => ?_, fun he hs => ?_, fun he => ?_⟩
  · have hl := hvisited (by simp [he])
    refine ⟨fun before after e img m k hlive hafter hclip himg hx hy hm hk => ?_, fun h => blendLayer_of_misses hl he hs h b⟩
    have hdraws {px} (hpx : img.pixels[k * img.width + m]? = some px) :=
      blendLayer_of_covering hl he hs hlive hafter (placementSample_of_pixel hclip himg hx hy hm hk hpx) b
    refine ⟨fun c hpx => ⟨hdraws hpx, fun hfull => (hdraws hpx).trans ?_⟩, fun code n hpx hn => ?_⟩
    · rw [hfull]
      exact blend_full c _
    · rw [hdraws hpx, pixelSample_indexed v hn]
  · have hl := hvisited (by simp [he])
    refine ⟨fun f row c m k hx0 hx1 hy0 hy1 hf hx hy hm hk hrow hc => ?_, fun h => ?_⟩
    · exact blendLayer_of_vin hl he hs ((Rect.contains_iff _ _ _).mpr ⟨hx0, hx1, hy0, hy1⟩) hf
        (frameSample_of_pixel hx hy hm hk hrow hc) b
    · exact blendLayer_of_nil (by rw [layerSamples_of_vin hl he hs, vinSample_of_outside h]; rfl) b
  · have hl := hvisited (by simp [he])
    refine ⟨fun i img m k hi himg hx hy hm hk => ⟨fun c hpx => ?_, fun code n hpx hn => ?_⟩, fun h => ?_⟩
    · exact blendLayer_of_fallback hl he hi himg hx hy hm hk hpx b
    · have hpair : n.val = if code.val < 8 then 8 * (0 : Fin 32).val + code.val else 8 * (1 : Fin 32).val + (code.val - 8) := by
        rw [hn]
        split
        · simp
        · simp only [Fin.val_one]
          omega
      rw [blendLayer_of_fallback hl he hi himg hx hy hm hk hpx b, pixelSample_indexed v hpair]
    · exact blendLayer_of_nil (by rw [layerSamples_of_fallback hl he, fallbackSample_of_beside h]; rfl) b

end Sys2Proof.Machine
end

section
/-! PROOFS. The arithmetic of composition: the effective alpha and the exact cases of the blend (R97, R98, R101), the range
of every sample and so of every composed pixel (R96, R100), and the word on the bus (R88, R103). -/

namespace Sys2Proof.Machine

/-! ### The effective alpha (R97) -/

theorem effectiveAlpha_le {pa opacity : Nat} (hp : pa ≤ 16) (ho : opacity ≤ 16) : effectiveAlpha pa opacity ≤ 16 := by
  have hprod : pa * opacity ≤ 16 * 16 := Nat.mul_le_mul hp ho
  unfold effectiveAlpha
  omega

theorem effectiveAlpha_eq_zero_iff (pa opacity : Nat) : effectiveAlpha pa opacity = 0 ↔ pa * opacity ≤ 7 := by
  unfold effectiveAlpha
  omega

theorem effectiveAlpha_opaque (pa : Nat) : effectiveAlpha pa 16 = pa := by
  unfold effectiveAlpha
  omega

theorem effectiveAlpha_direct (opacity : Nat) : effectiveAlpha 16 opacity = opacity := by
  unfold effectiveAlpha
  omega

/-- A factor below 16 leaves the product at 240 or less, and so the effective alpha at 15 or less. -/
theorem effectiveAlpha_eq_sixteen_iff {pa opacity : Nat} (hp : pa ≤ 16) (ho : opacity ≤ 16) :
    effectiveAlpha pa opacity = 16 ↔ pa = 16 ∧ opacity = 16 := by
  refine ⟨fun h => ?_, fun ⟨hpa, hopacity⟩ => by rw [hpa, hopacity, effectiveAlpha_opaque]⟩
  have hprod : 248 ≤ pa * opacity := by
    unfold effectiveAlpha at h
    omega
  have hopacity : pa * opacity ≤ 16 * opacity := Nat.mul_le_mul_right _ hp
  have hpa : pa * opacity ≤ pa * 16 := Nat.mul_le_mul_left _ ho
  omega

/-! ### One component (R98, R100, R101) -/

/-- Blending upward by a difference of `d` moves the component by `a * d` sixteenths, rounded. -/
theorem blendComponent_up {a : Nat} (ha : a ≤ 16) (b d : Nat) : blendComponent a (b + d) b = b + (a * d + 8) / 16 := by
  have hsum : a * (b + d) + (16 - a) * b = 16 * b + a * d := by
    calc a * (b + d) + (16 - a) * b = (a + (16 - a)) * b + a * d := by ring
      _ = 16 * b + a * d := by rw [Nat.add_sub_cancel' ha]
  unfold blendComponent
  omega

/-- Blending downward by a difference of `d` is blending upward with the complement of the alpha. -/
theorem blendComponent_down {a : Nat} (ha : a ≤ 16) (b d : Nat) :
    blendComponent a b (b + d) = b + ((16 - a) * d + 8) / 16 := by
  rw [← blendComponent_up (Nat.sub_le 16 a), blendComponent, blendComponent, Nat.sub_sub_self ha, Nat.add_comm (a * b)]

/-- A component moving upward stays when `a * d` rounds to nothing (R101). -/
theorem blendComponent_up_eq_iff {a : Nat} (ha : a ≤ 16) (b d : Nat) : blendComponent a (b + d) b = b ↔ a * d ≤ 7 := by
  rw [blendComponent_up ha]
  omega

/-- A component moving downward stays one sixteenth longer than one moving upward (R101). -/
theorem blendComponent_down_eq_iff {a : Nat} (ha : a ≤ 16) (b d : Nat) :
    blendComponent a b (b + d) = b + d ↔ a * d ≤ 8 := by
  have hprod : a * d ≤ 16 * d := Nat.mul_le_mul_right d ha
  rw [blendComponent_down ha, Nat.sub_mul]
  omega

/-- The result of a blend lies between the two values it mixes (R100). -/
theorem blendComponent_mem_uIcc {a : Nat} (ha : a ≤ 16) (f b : Nat) : blendComponent a f b ∈ Set.uIcc b f := by
  rcases Nat.le_total b f with h | h
  · obtain ⟨d, rfl⟩ := Nat.exists_eq_add_of_le h
    have hprod : a * d ≤ 16 * d := Nat.mul_le_mul_right d ha
    rw [blendComponent_up ha, Set.uIcc_of_le h, Set.mem_Icc]
    omega
  · obtain ⟨d, rfl⟩ := Nat.exists_eq_add_of_le h
    have hprod : (16 - a) * d ≤ 16 * d := Nat.mul_le_mul_right d (Nat.sub_le 16 a)
    rw [blendComponent_down ha, Set.uIcc_of_ge h, Set.mem_Icc]
    omega

/-- A blend of two values of an interval stays in it (R100). -/
theorem blendComponent_mem_Icc {a f b lo hi : Nat} (ha : a ≤ 16) (hf : f ∈ Set.Icc lo hi) (hb : b ∈ Set.Icc lo hi) :
    blendComponent a f b ∈ Set.Icc lo hi :=
  Set.uIcc_subset_Icc hb hf (blendComponent_mem_uIcc ha f b)

/-! ### A colour (R98, R100, R101) -/

/-- A sample of effective alpha 0 leaves the running colour (R101). -/
theorem blend_zero (f b : Colour) : blend 0 f b = b := by
  have hcomponent (m n : Nat) : blendComponent 0 m n = n := by
    unfold blendComponent
    omega
  simp [blend, hcomponent]

/-- A sample of the running colour itself leaves it (R101). -/
theorem blend_self {a : Nat} (ha : a ≤ 16) (b : Colour) : blend a b b = b := by
  have hcomponent (n : Nat) : blendComponent a n n = n := (blendComponent_up_eq_iff ha n 0).mpr (Nat.zero_le 7)
  simp [blend, hcomponent]

theorem Colour.inRange_iff (c : Colour) : c.inRange = true ↔
    c.y ∈ Set.Icc 16 235 ∧ c.cb ∈ Set.Icc 16 240 ∧ c.cr ∈ Set.Icc 16 240 := by
  simp [Colour.inRange, and_assoc]

theorem blend_inRange {a : Nat} {f b : Colour} (ha : a ≤ 16) (hf : f.inRange = true) (hb : b.inRange = true) :
    (blend a f b).inRange = true := by
  obtain ⟨hfy, hfcb, hfcr⟩ := f.inRange_iff.mp hf
  obtain ⟨hby, hbcb, hbcr⟩ := b.inRange_iff.mp hb
  exact (Colour.inRange_iff _).mpr
    ⟨blendComponent_mem_Icc ha hfy hby, blendComponent_mem_Icc ha hfcb hbcb, blendComponent_mem_Icc ha hfcr hbcr⟩

/-- Settles O47: the consequences of R97 and the exact cases of R101, each read off its formula. -/
theorem blendIsExactAtTheEnds : Obligations.BlendIsExactAtTheEnds := by
  refine ⟨fun _ _ => rfl, fun _ _ _ => rfl, fun pa opacity hp ho => ?_, fun f b => ?_, fun a b d ha => ?_⟩
  · exact ⟨effectiveAlpha_le hp ho, effectiveAlpha_eq_zero_iff pa opacity, effectiveAlpha_eq_sixteen_iff hp ho,
      effectiveAlpha_opaque pa, effectiveAlpha_direct opacity⟩
  · exact ⟨blend_zero f b, blend_full f b, fun _ ha => blend_self ha b⟩
  · exact ⟨blendComponent_up_eq_iff ha b d, blendComponent_down_eq_iff ha b d⟩

/-! ### The range of the samples (R96) -/

/-- A sample whose colour lies in video range and whose alpha is at most 16 (R96). -/
def Sample.InRange (e : Sample) : Prop := e.colour.inRange = true ∧ e.alpha ≤ 16

section
variable {v : View} (hv : v.InRange)
include hv

theorem pixelSample_inRange (w0 w1 : Fin 32) {px : Pixel} (hpx : px.inRange = true) : (pixelSample v w0 w1 px).InRange := by
  obtain ⟨_, _, hentry, _, _⟩ := hv
  cases px with
  | direct c => exact ⟨hpx, le_rfl⟩
  | indexed code =>
    have he := hentry (resolveCode w0 w1 code)
    rw [PaletteEntry.inRange, Bool.and_eq_true, decide_eq_true_iff] at he
    exact he

theorem imageSample_inRange {i : Fin 64} {img : Image} (himg : v.image i = some img) {w0 w1 : Fin 32} {x y : Int}
    {e : Sample} (he : imageSample v img w0 w1 x y = some e) : e.InRange := by
  have ⟨_, _, _, himages, _⟩ := hv
  unfold imageSample at he
  split at he
  case isFalse => cases he
  obtain ⟨px, hpx, rfl⟩ := Option.map_eq_some_iff.mp he
  exact pixelSample_inRange hv w0 w1 (himages i img himg px (List.mem_of_getElem? hpx))

theorem placementSample_inRange {ox oy x y : Int} {p : Placement} {e : Sample}
    (he : placementSample v ox oy p x y = some e) : e.InRange := by
  unfold placementSample at he
  split at he
  case isFalse => cases he
  obtain ⟨img, himg, he⟩ := Option.bind_eq_some_iff.mp he
  exact imageSample_inRange hv himg he

theorem vinSample_inRange {a : Attributes} {x y : Int} {e : Sample} (he : vinSample v a x y = some e) : e.InRange := by
  obtain ⟨_, _, _, _, hshown⟩ := hv
  unfold vinSample at he
  split at he
  case isFalse => cases he
  obtain ⟨f, hf, he⟩ := Option.bind_eq_some_iff.mp he
  unfold frameSample at he
  split at he
  case isFalse => cases he
  obtain ⟨c, hc, rfl⟩ := Option.map_eq_some_iff.mp he
  obtain ⟨row, hrow, hc⟩ := Option.bind_eq_some_iff.mp hc
  have hrows := List.all_eq_true.mp (hshown f hf) row (List.mem_of_getElem? hrow)
  exact ⟨List.all_eq_true.mp hrows c (List.mem_of_getElem? hc), le_rfl⟩

theorem fallbackSample_inRange {l : LayerView} {x y : Int} {e : Sample} (he : fallbackSample v l x y = some e) :
    e.InRange := by
  obtain ⟨img, himg, he⟩ := Option.bind_eq_some_iff.mp he
  obtain ⟨i, _, himg⟩ := Option.bind_eq_some_iff.mp himg
  exact imageSample_inRange hv himg he

/-- Whatever a layer draws from, its samples lie in range (R96). -/
theorem layerSamples_inRange (l : LayerView) (x y : Int) : ∀ e ∈ layerSamples v l x y, e.InRange := by
  intro e he
  unfold layerSamples at he
  split at he
  case isTrue => cases he
  split at he
  · obtain ⟨p, _, he⟩ := List.mem_filterMap.mp he
    exact placementSample_inRange hv he
  · exact vinSample_inRange hv (Option.mem_toList.mp he)
  · exact fallbackSample_inRange hv (Option.mem_toList.mp he)
  · cases he

/-! ### The range of a composed pixel (R100) -/

theorem blendLayer_inRange {l : LayerView} (hl : l.current ≤ 16) (x y : Int) {b : Colour} (hb : b.inRange = true) :
    (blendLayer v l x y b).inRange = true := by
  refine List.foldlRecOn (motive := (Colour.inRange · = true)) _ _ hb fun c hc e he => ?_
  obtain ⟨hcolour, halpha⟩ := layerSamples_inRange hv l x y e he
  exact blend_inRange (effectiveAlpha_le halpha hl) hcolour hc

/-- The backdrop lies in range, and every layer keeps the running colour there (R100). -/
theorem composePixel_inRange (x y : Int) : (composePixel v x y).inRange = true := by
  have ⟨hbackdrop, hcurrent, _⟩ := hv
  exact List.foldlRecOn (motive := (Colour.inRange · = true)) _ _ hbackdrop fun c hc l _ =>
    blendLayer_inRange hv (hcurrent l) x y hc

end

/-! ### The output bus (R88, R103) -/

theorem State.outputPixel_eq_some_iff (s : State) (x y : Nat) (c : Colour) : s.outputPixel x y = some c ↔
    (x < 960 ∧ y < 540) ∧ ∃ v, s.view = some v ∧ composePixel v x y = c := by
  rw [State.outputPixel, Option.ite_none_right_eq_some, Option.map_eq_some_iff]

theorem State.outputPixel_isSome_iff (s : State) (x y : Nat) :
    (s.outputPixel x y).isSome = true ↔ x < 960 ∧ y < 540 ∧ s.view ≠ none := by
  simp [Option.isSome_iff_exists, State.outputPixel_eq_some_iff, Option.ne_none_iff_exists', and_assoc]

theorem State.outputPixel_inRange {s : State} (h : ColoursOk s) {x y : Nat} {c : Colour}
    (hc : s.outputPixel x y = some c) : c.inRange = true := by
  obtain ⟨_, _, _, _, _, _, _, hview⟩ := h
  obtain ⟨_, v, hv, rfl⟩ := (s.outputPixel_eq_some_iff x y c).mp hc
  exact composePixel_inRange (hview v hv) x y

/-- The active pixels leave the bus in raster order (R88). -/
theorem State.outputBus_raster (s : State) {x : Nat} (hx : x < 960) (y : Nat) :
    s.outputBus (960 * y + x) = (s.outputPixel x y).map busWord := by
  have hcolumn : (960 * y + x) % 960 = x := by omega
  have hrow : (960 * y + x) / 960 = y := by omega
  rw [State.outputBus, hcolumn, hrow]

/-- The raster has 960 × 540 = 518400 active pixels (R88). -/
theorem State.outputBus_isSome_iff (s : State) (n : Nat) :
    (s.outputBus n).isSome = true ↔ n < 518400 ∧ s.view ≠ none := by
  rw [State.outputBus, Option.isSome_map, State.outputPixel_isSome_iff, show Config.rasterWidth = 960 from rfl,
    ← and_assoc]
  refine and_congr_left fun _ => ?_
  omega

theorem toNat_natByte {n : Nat} (h : n ≤ 240) : (natByte n).toNat = n := by
  rw [natByte, BitVec.toNat_ofNat, Nat.mod_eq_of_lt (by omega)]

/-- Y is the high byte of the bus word, then Cb, then Cr (R88). -/
theorem busWord_bytes (c : Colour) : (busWord c).extractLsb' 16 8 = natByte c.y
    ∧ (busWord c).extractLsb' 8 8 = natByte c.cb ∧ (busWord c).extractLsb' 0 8 = natByte c.cr :=
  ⟨(BitVec.extractLsb'_append_eq_of_le (by decide)).trans BitVec.extractLsb'_append_eq_left,
    (BitVec.extractLsb'_append_eq_of_le (by decide)).trans BitVec.extractLsb'_append_eq_right,
    BitVec.extractLsb'_append_eq_right⟩

/-- Settles O49: the pixel lies in range by induction over its blends, and its bus index gives back its point. -/
theorem outputPixelsLieInVideoRange : Obligations.OutputPixelsLieInVideoRange := by
  intro x y n s h
  refine ⟨fun c hc => ?_, s.outputPixel_isSome_iff x y, s.outputBus_isSome_iff n⟩
  have hin := State.outputPixel_inRange h hc
  obtain ⟨⟨hx, _⟩, _⟩ := (s.outputPixel_eq_some_iff x y c).mp hc
  obtain ⟨⟨_, hy⟩, ⟨_, hcb⟩, ⟨_, hcr⟩⟩ := c.inRange_iff.mp hin
  obtain ⟨hybyte, hcbbyte, hcrbyte⟩ := busWord_bytes c
  refine ⟨hin, busWord c, by rw [s.outputBus_raster hx, hc, Option.map_some], ?_, ?_, ?_⟩
  · rw [hybyte, toNat_natByte (hy.trans (by norm_num))]
  · rw [hcbbyte, toNat_natByte hcb]
  · rw [hcrbyte, toNat_natByte hcr]

end Sys2Proof.Machine
end


section
/-! PROOFS. The ranges of the trailer input's record (R104, R105, R108, R112, R113) and of the monitors (R154, R155, R158,
R165), and the writes that keep them. -/

namespace Sys2Proof.Machine

/-! ### The input's record -/

/-- What `TrailerOk` says of the input's record, by name. -/
structure TrailerInput.InRange (v : TrailerInput) : Prop where
  width : 64 ≤ v.width ∧ v.width ≤ 960 ∧ v.width % 2 = 0
  height : 32 ≤ v.height ∧ v.height ≤ 540
  settle : v.settle ≤ 3
  silence : v.silence ≤ Config.silenceMax
  counts : lockCounts v
  unheld : v.holder = none → v.lock = .off ∧ v.captureEnabled = false
  receiving : ∀ r ∈ v.receiving, r.stale = false → r.width = v.width ∧ r.height = v.height
  ready : ∀ f ∈ v.ready, f.whole = true
  shown : ∀ f ∈ v.shown, f.whole = true

theorem trailerOk_iff (s : State) : TrailerOk s ↔ s.vin.InRange := by
  constructor
  · rintro ⟨hw1, hw2, hw3, hh1, hh2, hset, hsil, hcounts, hun, hrec, hready, hshown⟩
    exact ⟨⟨hw1, hw2, hw3⟩, ⟨hh1, hh2⟩, hset, hsil, hcounts, hun, hrec, hready, hshown⟩
  · rintro ⟨⟨hw1, hw2, hw3⟩, ⟨hh1, hh2⟩, hset, hsil, hcounts, hun, hrec, hready, hshown⟩
    exact ⟨hw1, hw2, hw3, hh1, hh2, hset, hsil, hcounts, hun, hrec, hready, hshown⟩

section
variable {v : TrailerInput}

theorem TrailerInput.InRange.reset : TrailerInput.reset.InRange :=
  ⟨by decide, by decide, by decide, by decide, ⟨rfl, rfl, rfl, rfl⟩, fun _ => ⟨rfl, rfl⟩, nofun, nofun, nofun⟩

theorem lockCounts_off (hl : v.lock = .off) :
    lockCounts v ↔ v.goodCount = 0 ∧ v.badRun = 0 ∧ v.silence = 0 ∧ v.receiving = none := by
  simp only [lockCounts, hl]

theorem lockCounts_locked (hl : v.lock = .locked) :
    lockCounts v ↔ v.goodCount = 3 ∧ v.badRun < 2 ∧ v.silence < Config.silenceMax := by
  simp only [lockCounts, hl]

theorem lockCounts_acquiring (hl : v.lock = .acquiring) : lockCounts v ↔ v.goodCount < 3 ∧ v.badRun = 0 := by
  simp only [lockCounts, hl]

theorem lockCounts_lost (hl : v.lock = .lost) : lockCounts v ↔ v.goodCount ≤ 3 ∧ v.badRun = 0 := by
  simp only [lockCounts, hl]

/-- A record that only differs in its lock state and counts keeps its ranges, where the new counts are those of the new
state. -/
theorem TrailerInput.InRange.withCounts (h : v.InRange) {lock : LockState} {good bad silence : Nat}
    (hs : silence ≤ Config.silenceMax)
    (hc : lockCounts { v with lock := lock, goodCount := good, badRun := bad, silence := silence })
    (hh : v.lock ≠ .off ∨ v.holder ≠ none) :
    TrailerInput.InRange { v with lock := lock, goodCount := good, badRun := bad, silence := silence } := by
  refine { h with silence := hs, counts := hc, unheld := fun hn => ?_ }
  exact absurd (h.unheld hn).1 (hh.resolve_right fun hne => hne hn)

theorem TrailerInput.InRange.claimed (h : v.InRange) (p : Port) : TrailerInput.InRange { v with holder := some p } :=
  { h with unheld := nofun }

/-- Reception switched off (R107, R109), for whatever holder. -/
theorem TrailerInput.InRange.switchedOff (h : v.InRange) {holder : Option Port} {enabled : Bool}
    (hun : holder = none → enabled = false) : TrailerInput.InRange { v with
      goodCount := 0, badRun := 0, silence := 0, receiving := none, lock := .off, captureEnabled := enabled
      holder := holder } :=
  { h with
    silence := Nat.zero_le _, counts := ⟨rfl, rfl, rfl, rfl⟩, unheld := fun hn => ⟨rfl, hun hn⟩, receiving := nofun }

theorem TrailerInput.InRange.enabled (h : v.InRange) (hh : v.holder ≠ none) (b : Bool) :
    TrailerInput.InRange { v with captureEnabled := b } :=
  { h with unheld := fun hn => absurd hn hh }

/-- An operand width in range, lowered to an even one (R108). -/
theorem evenWidth_range {w : Nat} (h : 64 ≤ w ∧ w ≤ 960) :
    64 ≤ evenWidth w ∧ evenWidth w ≤ 960 ∧ evenWidth w % 2 = 0 := by
  unfold evenWidth
  omega

/-- A format in range recorded in OFF, where no frame is in reception (R108). -/
theorem TrailerInput.InRange.formatOff (h : v.InRange) (hl : v.lock = .off) {w hh t : Nat}
    (hw : 64 ≤ w ∧ w ≤ 960 ∧ w % 2 = 0) (hr : 32 ≤ hh ∧ hh ≤ 540) (ht : t ≤ 3) :
    TrailerInput.InRange { v with width := w, height := hh, settle := t } := by
  obtain ⟨_, _, _, hnone⟩ := (lockCounts_off hl).mp h.counts
  refine { h with width := hw, height := hr, settle := ht, receiving := ?_ }
  rw [hnone]
  nofun

/-- A format in range recorded with reception on: acquisition starts again, and a frame in reception began under the
earlier format (R108). -/
theorem TrailerInput.InRange.formatOn (h : v.InRange) (hl : v.lock ≠ .off) {w hh t : Nat}
    (hw : 64 ≤ w ∧ w ≤ 960 ∧ w % 2 = 0) (hr : 32 ≤ hh ∧ hh ≤ 540) (ht : t ≤ 3) : TrailerInput.InRange { v with
      width := w, height := hh, settle := t, goodCount := 0, badRun := 0, receiving := staleFrame v.receiving
      lock := .acquiring } := by
  refine { h with
    width := hw, height := hr, settle := ht, counts := ⟨Nat.zero_lt_succ _, rfl⟩
    unheld := fun hn => absurd (h.unheld hn).1 hl, receiving := fun r hrec hstale => ?_ }
  obtain ⟨old, _, rfl⟩ := Option.map_eq_some_iff.mp hrec
  cases hstale

/-- A frame that begins under the format in force (R109, R111), with reception on. -/
theorem TrailerInput.InRange.begun (h : v.InRange) (hl : v.lock ≠ .off) {ready : Option VideoFrame}
    (hr : ∀ f ∈ ready, f.whole = true) :
    TrailerInput.InRange { v with receiving := some (freshFrame v), ready := ready } := by
  refine { h with counts := ?_, receiving := fun r hrec _ => ?_, ready := hr }
  · have hc := h.counts
    unfold lockCounts at hc ⊢
    dsimp only
    split at hc
    · rename_i hoff
      exact absurd hoff hl
    all_goals exact hc
  · obtain rfl := Option.some.inj hrec
    exact ⟨rfl, rfl⟩

/-- A ready frame becomes the shown frame (R116). -/
theorem TrailerInput.InRange.promoted (h : v.InRange) {f : VideoFrame} (hf : v.ready = some f) :
    TrailerInput.InRange { v with shown := some f, ready := none } :=
  { h with ready := nofun, shown := hf ▸ h.ready }

end

/-! ### Frames as stored (R110, R111, R115) -/

/-- A line is stored with one colour for each of its pixels (R110). -/
theorem lineColours_length (line : List Half) : (lineColours line).length = line.length := by
  induction line using lineColours.induct with
  | case1 a b rest ih => simp [lineColours, ih]
  | case2 a => rfl
  | case3 => rfl

/-- The judgement of a frame, condition by condition (R111). -/
theorem goodFrame_iff (v : TrailerInput) (r : ReceivingFrame) (lines : List (List Half)) :
    goodFrame v r lines = true ↔ r.stale = false ∧ r.width = v.width ∧ r.height = v.height
      ∧ lines.length = v.height ∧ ∀ line ∈ lines, line.length = v.width := by
  simp [goodFrame, and_assoc]

/-- A good frame is stored whole: its format is no larger than a frame buffer (R110, R115). -/
theorem storedLines_whole {v : TrailerInput} (h : v.InRange) {r : ReceivingFrame} {lines : List (List Half)}
    (hg : goodFrame v r lines = true) : (VideoFrame.mk v.width v.height (storedLines lines)).whole = true := by
  obtain ⟨_, _, _, hlen, hline⟩ := (goodFrame_iff v r lines).mp hg
  obtain ⟨hw1, hw2, _⟩ := h.width
  obtain ⟨hh1, hh2⟩ := h.height
  have hrows : ∀ row ∈ storedLines lines, row.length = v.width := by
    intro row hrow
    obtain ⟨line, hmem, rfl⟩ := List.mem_map.mp hrow
    rw [List.length_take, lineColours_length, hline line (List.mem_of_mem_take hmem)]
    exact min_eq_right hw2
  have hcount : (storedLines lines).length = v.height := by
    rw [storedLines, List.length_map, List.length_take, hlen]
    exact min_eq_right hh2
  simp only [VideoFrame.whole, hcount, Bool.and_eq_true, decide_eq_true_eq, List.all_eq_true]
  exact ⟨⟨⟨⟨⟨hw1, hw2⟩, hh1⟩, hh2⟩, trivial⟩, hrows⟩

theorem storedReady_whole {v : TrailerInput} (h : v.InRange) (r : ReceivingFrame) (lines : List (List Half)) :
    ∀ f ∈ storedReady v (goodFrame v r lines) lines, f.whole = true := by
  unfold storedReady
  split
  · rename_i hg
    rintro f ⟨⟩
    exact storedLines_whole h hg
  · exact h.ready

/-! ### Monitors -/

theorem MonitorOk.reset : MonitorOk Monitor.reset := by
  simp [MonitorOk, Monitor.reset, Config.periodMax]

/-- A count between 1 and the period (R158). -/
theorem MonitorOk.withRemaining {m : Monitor} (h : MonitorOk m) {n : Nat} (hn : 1 ≤ n) (hp : n ≤ m.period) :
    MonitorOk { m with remaining := n } := by
  obtain ⟨hp1, hp2, hw1, hw2, _, _, hlocked, hport, hact⟩ := h
  exact ⟨hp1, hp2, hw1, hw2, hp.trans hp2, fun _ => ⟨hn, hp⟩, hlocked, hport, hact⟩

/-- A monitor reloaded (R118, R159, R160). -/
theorem MonitorOk.reloaded {m : Monitor} (h : MonitorOk m) : MonitorOk { m with remaining := m.period } :=
  h.withRemaining h.1 le_rfl

theorem MonitorOk.started {m : Monitor} (h : MonitorOk m) : MonitorOk { m with running := true, remaining := m.period } := by
  obtain ⟨hp1, hp2, hw1, hw2, _, _, _, hport, hact⟩ := h
  exact ⟨hp1, hp2, hw1, hw2, hp2, fun _ => ⟨hp1, le_rfl⟩, fun _ => rfl, hport, hact⟩

/-- An unlocked monitor stopped (R157, R165). -/
theorem MonitorOk.stopped {m : Monitor} (h : MonitorOk m) (hl : m.locked = false) :
    MonitorOk { m with running := false, remaining := m.period } := by
  obtain ⟨hp1, hp2, hw1, hw2, _, _, _, hport, hact⟩ := h
  exact ⟨hp1, hp2, hw1, hw2, hp2, nofun, fun hlocked => absurd hlocked (by simp [hl]), hport, hact⟩

/-- A monitor locked again, or locked while it runs (R164). -/
theorem MonitorOk.lockedBy {m : Monitor} (h : MonitorOk m) (hr : m.locked = true ∨ m.running = true) (p : Port) :
    MonitorOk { m with locked := true, lockingPort := some p } := by
  obtain ⟨hp1, hp2, hw1, hw2, hrem, hrun, hlocked, _, hact⟩ := h
  exact ⟨hp1, hp2, hw1, hw2, hrem, hrun, fun _ => hr.elim hlocked id, fun _ => rfl, hact⟩

/-- A locking port forgotten (R165). -/
theorem MonitorOk.portCleared {m : Monitor} (h : MonitorOk m) : MonitorOk { m with lockingPort := none } := by
  obtain ⟨hp1, hp2, hw1, hw2, hrem, hrun, hlocked, _, hact⟩ := h
  exact ⟨hp1, hp2, hw1, hw2, hrem, hrun, hlocked, fun hne => absurd rfl hne, hact⟩

/-- An unlocked monitor of a released layer at its reset values (R163). -/
theorem MonitorOk.released {m : Monitor} (h : MonitorOk m) (hl : m.locked = false) :
    MonitorOk { Monitor.reset with locked := m.locked, lockingPort := m.lockingPort } := by
  obtain ⟨_, _, _, _, _, _, _, hport, _⟩ := h
  obtain ⟨hp1, hp2, hw1, hw2, hrem, hrun, _, _, hact⟩ := MonitorOk.reset
  exact ⟨hp1, hp2, hw1, hw2, hrem, hrun, fun hlocked => absurd hlocked (by simp [hl]), hport, hact⟩

/-- A stopped, unlocked monitor set up with values in range (R155). -/
theorem MonitorOk.setUp {m : Monitor} (h : MonitorOk m) (hl : m.locked = false) (hr : m.running = false)
    {period window : Nat} (hv : 1 ≤ period ∧ period ≤ Config.periodMax ∧ 1 ≤ window ∧ window ≤ 4) (a : MonitorAction)
    (fb : Option (Fin 64)) (hfb : ¬ (a = .fallback ∧ fb = none)) : MonitorOk { m with
      period := period, window := window, action := a, fallback := fb, remaining := period } := by
  obtain ⟨_, _, _, _, _, _, _, hport, _⟩ := h
  obtain ⟨hp1, hp2, hw1, hw2⟩ := hv
  exact ⟨hp1, hp2, hw1, hw2, hp2, fun hrun => absurd hrun (by simp [hr]), fun hlocked => absurd hlocked (by simp [hl]),
    hport, fun ha hn => hfb ⟨ha, hn⟩⟩

/-! ### What writes keep -/

/-- Neither the input nor a monitor is written. -/
structure Steady (s t : State) : Prop where
  vin : t.vin = s.vin
  monitors : t.monitors = s.monitors

theorem Steady.refl (s : State) : Steady s s := ⟨rfl, rfl⟩

theorem Steady.trans {s t u : State} (h : Steady s t) (k : Steady t u) : Steady s u :=
  ⟨k.vin.trans h.vin, k.monitors.trans h.monitors⟩

theorem Steady.foldl {α : Type} (f : State → α → State) (h : ∀ s a, Steady s (f s a)) (as : List α) (s : State) :
    Steady s (as.foldl f s) := by
  induction as generalizing s with
  | nil => exact .refl s
  | cons a rest ih => exact (h s a).trans (ih (f s a))

theorem Steady.monitor {s t : State} (h : Steady s t) (l : Fin 8) : t.monitor l = s.monitor l := by
  rw [State.monitor, State.monitor, h.monitors]

theorem Steady.setPort (s : State) (p : Port) (x : PortState) : Steady s (s.setPort p x) := ⟨rfl, rfl⟩

theorem Steady.setLayer (s : State) (l : Fin 8) (x : Layer) : Steady s (s.setLayer l x) := ⟨rfl, rfl⟩

theorem OnlyCapture.steady {s t : State} (h : OnlyCapture s t) : Steady s t := ⟨by rw [h], by rw [h]⟩

/-- From `s` to `t` the input's record and the monitors stay within their ranges. -/
structure Ranged (s t : State) : Prop where
  input : TrailerOk s → TrailerOk t
  monitors : MonitorsOk s → MonitorsOk t

theorem monitorsOk_of_eq {s t : State} (h : t.monitors = s.monitors) (hs : MonitorsOk s) : MonitorsOk t := by
  unfold MonitorsOk State.monitor at *
  rwa [h]

theorem Steady.ranged {s t : State} (h : Steady s t) : Ranged s t where
  input hs := (trailerOk_iff t).mpr (h.vin ▸ (trailerOk_iff s).mp hs)
  monitors := monitorsOk_of_eq h.monitors

theorem Ranged.refl (s : State) : Ranged s s := ⟨id, id⟩

theorem Ranged.trans {s t u : State} (h : Ranged s t) (k : Ranged t u) : Ranged s u :=
  ⟨fun hs => k.input (h.input hs), fun hs => k.monitors (h.monitors hs)⟩

theorem Ranged.foldl {α : Type} (f : State → α → State) (h : ∀ s a, Ranged s (f s a)) (as : List α) (s : State) :
    Ranged s (as.foldl f s) := by
  induction as generalizing s with
  | nil => exact .refl s
  | cons a rest ih => exact (h s a).trans (ih (f s a))

/-- A write that leaves the monitors and, of an input in range, makes one in range. -/
theorem Ranged.of_vin {s t : State} (hm : t.monitors = s.monitors) (hv : s.vin.InRange → t.vin.InRange) : Ranged s t where
  input hs := (trailerOk_iff t).mpr (hv ((trailerOk_iff s).mp hs))
  monitors := monitorsOk_of_eq hm

/-- The input written, and then its lock state moved (R112, R114). -/
theorem Ranged.setVin_moveLock (s : State) (v : TrailerInput) (st : LockState)
    (h : s.vin.InRange → TrailerInput.InRange { v with lock := st }) : Ranged s ((s.setVin v).moveLock st) :=
  .of_vin (by rw [State.moveLock_eq]; rfl) (by rwa [State.vin_moveLock])

theorem Ranged.setMonitor (s : State) (l : Fin 8) (m : Monitor) (h : MonitorOk (s.monitor l) → MonitorOk m) :
    Ranged s (s.setMonitor l m) where
  input := id
  monitors hs i := by
    by_cases hi : i = l
    · subst hi
      rw [State.monitor_setMonitor]
      exact h (hs i)
    · rw [State.monitor_setMonitor_ne _ _ _ _ hi]
      exact hs i

end Sys2Proof.Machine
end


section
/-! PROOFS. Every command with the ranges of the trailer input and of the monitors: those of the input (R105 to R109, R122)
and of monitors (R10, R155 to R164) write them within their ranges, and the others leave both. -/

namespace Sys2Proof.Machine

/-! ### Shared operations -/

theorem Steady.raiseAt (s : State) (p : Option Port) (f : EventFlag) : Steady s (s.raiseAt p f) := by
  rw [State.raiseAt_eq]
  exact ⟨rfl, rfl⟩

theorem Steady.dropRefs (s : State) (ps : List Placement) : Steady s (s.dropRefs ps) := by
  rw [State.dropRefs_eq]
  exact ⟨rfl, rfl⟩

theorem Steady.addRefs (s : State) (ps : List Placement) : Steady s (s.addRefs ps) := by
  rw [State.addRefs_eq]
  exact ⟨rfl, rfl⟩

theorem Steady.discardStaged (s : State) (l : Fin 8) : Steady s (s.discardStaged l) :=
  (Steady.setLayer s l _).trans (.dropRefs _ _)

theorem Steady.dropFallback (s : State) (l : Fin 8) (old : Option (Fin 64)) : Steady s (s.dropFallback l old) := by
  rw [State.dropFallback_eq]
  exact ⟨rfl, rfl⟩

theorem Steady.setCursor (s : State) (p : Port) (k : Byte) (c : Cursor) : Steady s (s.setCursor p k c) := by
  rw [State.setCursor_eq]
  exact ⟨rfl, rfl⟩

section
variable (p : Port) (s : State)

/-! ### Layers (file 01) -/

theorem lyrClaim_steady (b : Byte) : Steady s (lyrClaim p b s).1 := by
  unfold lyrClaim
  split
  · exact .refl s
  split
  · exact ⟨rfl, rfl⟩
  · exact .refl s

theorem beginCopy_steady (i : Fin 8) : Steady s (beginCopy i s).1 := by
  unfold beginCopy
  split
  · exact .refl s
  · exact ((Steady.discardStaged s i).trans (.setLayer _ i _)).trans (.addRefs _ _)

theorem lyrBegin_steady (b mode : Byte) : Steady s (lyrBegin p b mode s).1 := by
  refine ownedLayer_rel Steady.refl (fun i s => ?_) s
  split
  · exact .refl s
  split
  · exact .refl s
  split
  · exact (Steady.discardStaged s i).trans (.setLayer _ i _)
  split
  · exact beginCopy_steady s i
  · exact .refl s

theorem lyrAttr_steady (b visible target fade : Byte) (ox oy : Half) (source : Byte) (x0 y0 x1 y1 : Half) :
    Steady s (lyrAttr p b visible target fade ox oy source x0 y0 x1 y1 s).1 := by
  refine editable_rel Steady.refl (fun i r s _ => ?_) s
  split
  · split
    · exact .refl s
    · exact ⟨rfl, rfl⟩
  · exact .refl s

theorem lyrCommit_steady (mask : Byte) : Steady s (lyrCommit p mask s).1 := by
  unfold lyrCommit
  dsimp only
  split
  · exact .refl s
  split
  · exact .refl s
  split
  · exact .refl s
  · exact .foldl State.commitLayer (fun _ _ => ⟨rfl, rfl⟩) _ s

theorem lyrZ_steady (b index : Byte) : Steady s (lyrZ p b index s).1 := by
  refine ownedLayer_rel Steady.refl (fun i s => ?_) s
  split
  · exact .refl s
  split
  · exact ⟨rfl, rfl⟩
  · exact .refl s

/-! ### Placements, cursors, clips and windows (file 02, R81, R82) -/

theorem place_steady (i : Fin 8) (slot : Fin 64) (x y : Int) (r : PendingRecord) :
    Steady s (place p i slot x y r s).1 := by
  unfold place
  split
  · exact .refl s
  split
  · exact .refl s
  split
  · exact .refl s
  split
  · exact .refl s
  · exact ⟨rfl, rfl⟩

theorem plcAdd_steady (b slot : Byte) (x y : Half) : Steady s (plcAdd p b slot x y s).1 := by
  refine editable_rel Steady.refl (fun i r s _ => ?_) s
  split
  · exact .refl s
  · exact place_steady p s i _ _ _ r

theorem plcCursor_steady (b k : Byte) : Steady s (plcCursor p b k s).1 := by
  refine editable_rel Steady.refl (fun i r s _ => ?_) s
  dsimp only
  split
  · exact .refl s
  · rename_i c _
    split
    · exact (place_steady p s i c.slot c.x c.y r).trans (.setCursor _ p k _)
    · exact .refl s

theorem curSet_steady (k : Byte) (x y dx dy : Half) (columns slot fade : Byte) :
    Steady s (curSet p k x y dx dy columns slot fade s).1 := by
  unfold curSet
  split
  · exact .setCursor s p k _
  · exact .refl s

theorem clipPush_steady (x0 y0 x1 y1 : Half) : Steady s (clipPush p x0 y0 x1 y1 s).1 := by
  unfold clipPush
  dsimp only
  split
  · exact .refl s
  · exact ⟨rfl, rfl⟩

theorem clipPop_steady : Steady s (clipPop p s).1 := by
  unfold clipPop
  dsimp only
  split
  · exact .refl s
  · exact ⟨rfl, rfl⟩

theorem palWindow_steady (w slice : Byte) : Steady s (palWindow p w slice s).1 := by
  unfold palWindow
  split
  · exact .refl s
  split
  · exact ⟨rfl, rfl⟩
  · exact .refl s

/-! ### The palette (file 04) -/

theorem palClaim_steady (b : Byte) : Steady s (palClaim p b s).1 := by
  unfold palClaim
  split
  · exact .refl s
  split
  · exact .refl s
  split
  · exact ⟨rfl, rfl⟩
  · exact .refl s

theorem palRelease_steady (b : Byte) : Steady s (palRelease p b s).1 := by
  unfold palRelease
  split
  · exact .refl s
  split
  · exact .refl s
  split
  · exact ⟨rfl, rfl⟩
  · exact .refl s

theorem writeEntry_steady (n : Fin 256) (y cb cr alpha : Byte) : Steady s (writeEntry p n y cb cr alpha s).1 := by
  unfold writeEntry
  split
  · exact ⟨rfl, rfl⟩
  · exact .refl s

theorem palSetcode_steady (c y cb cr alpha : Byte) : Steady s (palSetcode p c y cb cr alpha s).1 := by
  unfold palSetcode
  split
  · exact writeEntry_steady p s _ y cb cr alpha
  · exact .refl s

/-! ### Slots (file 03) -/

theorem sltClaim_steady : Steady s (sltClaim p s).1 := by
  unfold sltClaim
  split
  · exact .refl s
  · exact ⟨rfl, rfl⟩

theorem sltClaimAt_steady (b : Byte) : Steady s (sltClaimAt p b s).1 := by
  unfold sltClaimAt
  split
  · exact .refl s
  split
  · exact ⟨rfl, rfl⟩
  · exact .refl s

theorem sltRelease_steady (b : Byte) : Steady s (sltRelease p b s).1 := by
  refine ownedSlot_rel Steady.refl (fun i s _ => ?_) s
  dsimp only
  split
  · exact .refl s
  split
  · exact .refl s
  · exact ⟨rfl, rfl⟩

theorem sltOpen_steady (b format : Byte) (width height : Half) : Steady s (sltOpen p b format width height s).1 := by
  refine ownedSlot_rel Steady.refl (fun i s _ => ?_) s
  dsimp only
  split
  · exact .refl s
  split
  · exact .refl s
  split
  · exact .refl s
  split
  · exact .refl s
  split
  · exact .refl s
  · exact ⟨rfl, rfl⟩

theorem sltData_steady (b : Byte) (data : List Byte) : Steady s (sltData p b data s).1 := by
  refine writable_rel Steady.refl (fun i s _ => ?_) s
  split <;> exact ⟨rfl, rfl⟩

theorem sltFill_steady (b y cb cr : Byte) (count : Half) : Steady s (sltFill p b y cb cr count s).1 := by
  refine writable_rel Steady.refl (fun i s _ => ?_) s
  split
  · exact ⟨rfl, rfl⟩
  split
  · exact .refl s
  · exact ⟨rfl, rfl⟩

theorem sltClose_steady (b : Byte) : Steady s (sltClose p b s).1 := by
  refine ownedSlot_rel Steady.refl (fun i s _ => ?_) s
  dsimp only
  split
  · exact .refl s
  split
  · exact .refl s
  · exact ⟨rfl, rfl⟩

theorem sltInfo_steady (b : Byte) : Steady s (sltInfo p b s).1 := by
  unfold sltInfo
  split <;> exact .refl s

/-! ### The trailer input (file 06) -/

theorem vinClaim_ranged : Ranged s (vinClaim p s).1 := by
  unfold vinClaim
  split
  · exact .of_vin rfl fun h => h.claimed p
  · exact .refl s

theorem Ranged.inputOff (s : State) : Ranged s s.inputOff := by
  refine .of_vin (by rw [State.inputOff_eq]) fun h => ?_
  rw [State.vin_inputOff]
  exact h.switchedOff fun hn => (h.unheld hn).2

theorem Ranged.giveUpInput (s : State) : Ranged s s.giveUpInput := by
  refine .of_vin (by rw [State.giveUpInput, State.inputOff_eq]; rfl) fun h => ?_
  rw [State.giveUpInput, State.setVin_vin, State.vin_inputOff]
  exact h.switchedOff fun _ => rfl

theorem vinRelease_ranged : Ranged s (vinRelease p s).1 :=
  byHolder_rel Ranged.refl (k := fun s => (s.giveUpInput, { outcome := .ok })) (fun s _ => .giveUpInput s) s

theorem vinFormat_ranged (w h : Half) (settle : Byte) : Ranged s (vinFormat p w h settle s).1 := by
  have hw := evenWidth_range ⟨le_clampNat 64 960 w.toNat (by decide), clampNat_le 64 960 w.toNat (by decide)⟩
  have hh := And.intro (le_clampNat 32 540 h.toNat (by decide)) (clampNat_le 32 540 h.toNat (by decide))
  have ht := clampNat_le 0 3 settle.toNat (by decide)
  refine byHolder_rel Ranged.refl (fun s _ => ?_) s
  dsimp only
  split
  · rename_i hoff
    exact .of_vin rfl fun hin => hin.formatOff hoff hw hh ht
  · rename_i hon
    exact .of_vin (by rw [State.moveLock_eq]; rfl) fun hin => by
      rw [State.vin_moveLock]
      exact hin.formatOn hon hw hh ht

theorem Ranged.inputOn {s : State} (hh : s.vin.holder ≠ none) : Ranged s s.inputOn :=
  .setVin_moveLock s _ _ fun h =>
    h.withCounts (lock := .acquiring) (Nat.zero_le _) ⟨Nat.zero_lt_succ _, rfl⟩ (.inr hh)

theorem vinEnable_ranged (on : Byte) : Ranged s (vinEnable p on s).1 := by
  refine byHolder_rel Ranged.refl (fun s hh => ?_) s
  split
  · exact .refl s
  dsimp only
  split
  · split
    · exact .inputOn (by simp [hh])
    · exact .refl s
  · split
    · exact .refl s
    · exact .inputOff s

/-! ### Capture (file 07) -/

theorem capEnable_ranged (on : Byte) : Ranged s (capEnable p on s).1 := by
  refine byHolder_rel Ranged.refl (fun s hh => ?_) s
  split
  · exact .refl s
  rename_i b _
  dsimp only
  have henable : Ranged s (s.setVin { s.vin with captureEnabled := b }) :=
    .of_vin rfl fun h => h.enabled (by simp [hh]) b
  split
  · exact henable.trans (State.abortAll_only _ _).steady.ranged
  · exact henable

theorem capRequest_steady (tag b : Byte) (x y w h : Half) (dx dy : Byte) :
    Steady s (capRequest p tag b x y w h dx dy s).1 := by
  refine ownedSlot_rel Steady.refl (fun i s _ => ?_) s
  dsimp only
  split
  · exact .refl s
  · exact (State.acceptRequest_only s _ false).steady

theorem capCancel_steady (b : Byte) : Steady s (capCancel p b s).1 := by
  unfold capCancel
  split
  · exact .refl s
  split
  · exact .refl s
  split
  · exact (s.cancelRequest_only _).steady
  · exact .refl s

/-! ### Frame timers (file 08) -/

theorem tmrClaim_steady (b : Byte) : Steady s (tmrClaim p b s).1 := by
  unfold tmrClaim
  split
  · exact .refl s
  split
  · exact ⟨rfl, rfl⟩
  · exact .refl s

theorem tmrRelease_steady (b : Byte) : Steady s (tmrRelease p b s).1 :=
  heldTimer_rel Steady.refl (k := fun i s => (s.setTimer i FrameTimer.reset, { outcome := .ok, value := i.val }))
    (fun _ _ _ => ⟨rfl, rfl⟩) s

theorem tmrSetup_steady (b source prescaler : Byte) (reload : Half) (mode action : Byte) :
    Steady s (tmrSetup p b source prescaler reload mode action s).1 := by
  refine heldTimer_rel Steady.refl (fun i s _ => ?_) s
  split
  · exact .refl s
  split
  · split
    · exact .refl s
    · exact ⟨rfl, rfl⟩
  · exact .refl s

theorem tmrTemplate_steady (b : Byte) (x y w h : Half) (dx dy first count : Byte) :
    Steady s (tmrTemplate p b x y w h dx dy first count s).1 := by
  refine heldTimer_rel Steady.refl (fun i s _ => ?_) s
  dsimp only
  split
  · exact .refl s
  split
  · exact .refl s
  split
  · exact ⟨rfl, rfl⟩
  · exact .refl s

theorem tmrStart_steady (b : Byte) : Steady s (tmrStart p b s).1 := by
  refine heldTimer_rel Steady.refl (fun i s _ => ?_) s
  dsimp only
  split
  · exact .refl s
  split
  · exact .refl s
  · exact ⟨rfl, rfl⟩

theorem tmrStop_steady (b : Byte) : Steady s (tmrStop p b s).1 := by
  refine heldTimer_rel Steady.refl (fun i s _ => ?_) s
  exact ⟨rfl, rfl⟩

theorem tmrRead_steady (b : Byte) : Steady s (tmrRead p b s).1 := by
  unfold tmrRead
  split <;> exact .refl s

/-! ### Monitors (R10, R155 to R164) -/

theorem Ranged.expireMonitor (s : State) (l : Fin 8) : Ranged s (s.expireMonitor l) := by
  have hbefore := ((Steady.setLayer s l { s.layer l with
    expired := expiredBy (s.monitor l).action (s.layer l).expired
    staged := stagedAfterExpiry (s.monitor l).action (s.layer l).staged }).trans
    (.raiseAt _ (s.layer l).notified .expired)).trans (.raiseAt _ (s.monitor l).lockingPort .expired)
  refine hbefore.ranged.trans (.setMonitor _ l _ fun h => ?_)
  rw [hbefore.monitor] at h
  exact h.reloaded

theorem Ranged.releaseMonitor (s : State) (l : Fin 8) : Ranged s (s.releaseMonitor l) := by
  unfold State.releaseMonitor
  dsimp only
  split
  · exact .refl s
  · rename_i hl
    exact (Ranged.setMonitor s l _ fun h => h.released (by simpa using hl)).trans (Steady.dropFallback _ _ _).ranged

theorem Ranged.releaseLayer (s : State) (l : Fin 8) : Ranged s (s.releaseLayer l) :=
  (Steady.ranged (.discardStaged s l)).trans
    ((Steady.setLayer _ l _).ranged.trans (.releaseMonitor _ l))

theorem lyrRelease_ranged (b : Byte) : Ranged s (lyrRelease p b s).1 := by
  refine ownedLayer_rel Ranged.refl (fun i s => ?_) s
  split
  · exact .refl s
  · exact .releaseLayer s i

theorem Steady.moveFallback (s : State) (l : Fin 8) (new : Option (Fin 64)) : Steady s (s.moveFallback l new) := by
  unfold State.moveFallback
  dsimp only
  split
  · exact .refl s
  refine Steady.trans ?_ (.dropFallback _ l _)
  split
  · exact .refl s
  split
  · exact .refl s
  · exact ⟨rfl, rfl⟩

theorem frsSetup_ranged (b : Byte) (period : Half) (window action fallback : Byte) :
    Ranged s (frsSetup p b period window action fallback s).1 := by
  refine monitored_rel Ranged.refl (fun i s => ?_) s
  dsimp only
  split
  · exact .refl s
  rename_i hlocked
  split
  · exact .refl s
  rename_i hrun
  split
  · rename_i a fb _ _
    split
    · exact .refl s
    rename_i hv
    split
    · exact .refl s
    rename_i hfb
    have hmove := Steady.moveFallback s i fb
    refine hmove.ranged.trans (.setMonitor _ i _ fun h => ?_)
    rw [hmove.monitor] at h
    exact h.setUp (by simpa using hlocked) (by simpa using hrun) (not_not.mp hv) a fb (not_or.mp hfb).2
  · exact .refl s

theorem frsStart_ranged (b : Byte) : Ranged s (frsStart p b s).1 := by
  refine monitored_rel Ranged.refl (fun i s => ?_) s
  dsimp only
  split
  · exact .refl s
  · exact .setMonitor s i _ fun h => h.started

theorem frsStop_ranged (b : Byte) : Ranged s (frsStop p b s).1 := by
  refine monitored_rel Ranged.refl (fun i s => ?_) s
  dsimp only
  split
  · exact .refl s
  · rename_i hl
    exact .setMonitor s i _ fun h => h.stopped (by simpa using hl)

theorem frsTouch_ranged (b : Byte) : Ranged s (frsTouch p b s).1 := by
  refine monitored_rel Ranged.refl (fun i s => ?_) s
  dsimp only
  split
  · exact .refl s
  split
  · exact .setMonitor s i _ fun h => h.reloaded
  · exact .expireMonitor s i

theorem frsLock_ranged (b : Byte) : Ranged s (frsLock p b s).1 := by
  unfold frsLock
  split
  · exact .refl s
  dsimp only
  split
  · exact .refl s
  split
  · rename_i hr
    exact .setMonitor s _ _ fun h => h.lockedBy hr p
  · exact .refl s

/-! ### Repeat blocks (file 10) -/

theorem rptBlock_steady (tag n k : Byte) : Steady s (rptBlock p tag n k s).1 := by
  unfold rptBlock
  dsimp only
  split
  · exact .refl s
  split
  · exact .refl s
  · exact ⟨rfl, rfl⟩

theorem rptAgain_steady (tag k : Byte) : Steady s (rptAgain p tag k s).1 := by
  unfold rptAgain
  dsimp only
  split
  · exact .refl s
  split
  · exact .refl s
  · exact ⟨rfl, rfl⟩

theorem rptLoop_steady (m : Byte) : Steady s (rptLoop p m s).1 := by
  unfold rptLoop
  split
  · exact .refl s
  · exact ⟨rfl, rfl⟩

end

/-! ### Every command -/

/-- Every command row's operation (R177). -/
theorem commandOf_ranged {i : Instr} {p : Port} {f : Frame} {op : CommandOp} (h : commandOf i = some (p, f, op))
    (s : State) : Ranged s (op s).1 := by
  cases i with
  | unknownCommand q tag code operands =>
    simp only [commandOf] at h
    split at h
    · cases h
    · cases h; exact .refl s
  | sltData q tag b data =>
    cases h
    split
    · exact (sltData_steady p s b data).ranged
    · exact .refl s
  | lyrClaim => cases h; exact (lyrClaim_steady p s _).ranged
  | lyrRelease => cases h; exact lyrRelease_ranged p s _
  | lyrBegin => cases h; exact (lyrBegin_steady p s _ _).ranged
  | lyrAttr => cases h; exact (lyrAttr_steady p s _ _ _ _ _ _ _ _ _ _ _).ranged
  | lyrCommit => cases h; exact (lyrCommit_steady p s _).ranged
  | lyrZ => cases h; exact (lyrZ_steady p s _ _).ranged
  | backdrop => cases h; exact Steady.ranged ⟨rfl, rfl⟩
  | plcAdd => cases h; exact (plcAdd_steady p s _ _ _ _).ranged
  | plcCursor => cases h; exact (plcCursor_steady p s _ _).ranged
  | curSet => cases h; exact (curSet_steady p s _ _ _ _ _ _ _ _).ranged
  | clipPush => cases h; exact (clipPush_steady p s _ _ _ _).ranged
  | clipPop => cases h; exact (clipPop_steady p s).ranged
  | palWindow => cases h; exact (palWindow_steady p s _ _).ranged
  | sltClaim => cases h; exact (sltClaim_steady p s).ranged
  | sltClaimAt => cases h; exact (sltClaimAt_steady p s _).ranged
  | sltRelease => cases h; exact (sltRelease_steady p s _).ranged
  | sltOpen => cases h; exact (sltOpen_steady p s _ _ _ _).ranged
  | sltFill => cases h; exact (sltFill_steady p s _ _ _ _ _).ranged
  | sltClose => cases h; exact (sltClose_steady p s _).ranged
  | sltInfo => cases h; exact (sltInfo_steady p s _).ranged
  | palClaim => cases h; exact (palClaim_steady p s _).ranged
  | palRelease => cases h; exact (palRelease_steady p s _).ranged
  | palSet => cases h; exact (writeEntry_steady p s _ _ _ _ _).ranged
  | palSetcode => cases h; exact (palSetcode_steady p s _ _ _ _ _).ranged
  | vinClaim => cases h; exact vinClaim_ranged p s
  | vinRelease => cases h; exact vinRelease_ranged p s
  | vinFormat => cases h; exact vinFormat_ranged p s _ _ _
  | vinEnable => cases h; exact vinEnable_ranged p s _
  | capEnable => cases h; exact capEnable_ranged p s _
  | capRequest => cases h; exact (capRequest_steady p s _ _ _ _ _ _ _ _).ranged
  | capCancel => cases h; exact (capCancel_steady p s _).ranged
  | tmrClaim => cases h; exact (tmrClaim_steady p s _).ranged
  | tmrRelease => cases h; exact (tmrRelease_steady p s _).ranged
  | tmrSetup => cases h; exact (tmrSetup_steady p s _ _ _ _ _ _).ranged
  | tmrTemplate => cases h; exact (tmrTemplate_steady p s _ _ _ _ _ _ _ _ _).ranged
  | tmrStart => cases h; exact (tmrStart_steady p s _).ranged
  | tmrStop => cases h; exact (tmrStop_steady p s _).ranged
  | tmrRead => cases h; exact (tmrRead_steady p s _).ranged
  | frsSetup => cases h; exact frsSetup_ranged p s _ _ _ _ _
  | frsStart => cases h; exact frsStart_ranged p s _
  | frsStop => cases h; exact frsStop_ranged p s _
  | frsTouch => cases h; exact frsTouch_ranged p s _
  | frsLock => cases h; exact frsLock_ranged p s _
  | rptBlock => cases h; exact (rptBlock_steady p s _ _ _).ranged
  | rptAgain => cases h; exact (rptAgain_steady p s _ _).ranged
  | rptLoop => cases h; exact (rptLoop_steady p s _).ranged
  | _ => cases h

/-- Taking a command (R177, R169, R170): beside its effect its port's own state alone is written. -/
theorem takeCommand_ranged (p : Port) (f : Frame) {op : CommandOp} (h : ∀ s, Ranged s (op s).1) (s : State) :
    Ranged s (takeCommand p f op s) := by
  have plain (u : State) : Ranged u (runPlain u p f op) := by
    unfold runPlain
    dsimp only
    split
    · exact h u
    · exact (h u).trans (Steady.setPort _ p _).ranged
  have hdrop : Ranged s (s.dropHead p) := (Steady.setPort s p _).ranged
  rcases takeCommand_cases p f op s with ⟨_, e⟩ | ⟨_, _, e⟩ | ⟨_, _, e⟩ | ⟨_, e⟩ <;> rw [e]
  · exact .refl s
  · refine hdrop.trans ?_
    unfold runCapturing
    split
    · exact ((Steady.setPort _ p _).trans (.setPort _ p _)).ranged
    · exact (plain _).trans (Steady.setPort _ p _).ranged
  · exact hdrop.trans (plain _)
  · exact (h s).trans (Steady.setPort _ p _).ranged

end Sys2Proof.Machine
end


section
/-! PROOFS. Links, resets, the blocks' works and frame marks, and so every row, with the ranges of the trailer input and of
the monitors (R111 to R116, R118, R158, R165, R183, R184); with the timers these ranges are kept by every step. -/

namespace Sys2Proof.Machine

/-! ### The port reset and the links (R174 to R183) -/

theorem Ranged.resetLayer (p : Port) (s : State) (l : Fin 8) : Ranged s (s.resetLayer p l) := by
  unfold State.resetLayer
  split
  · exact .releaseLayer s l
  · exact .refl s

theorem Ranged.clearLockingPort (p : Port) (s : State) (l : Fin 8) : Ranged s (s.clearLockingPort p l) := by
  unfold State.clearLockingPort
  split
  · exact .setMonitor s l _ fun h => h.portCleared
  · exact .refl s

theorem Steady.resetSlot (p : Port) (s : State) (i : Fin 64) : Steady s (s.resetSlot p i) := by
  rw [State.resetSlot_eq]
  exact ⟨rfl, rfl⟩

theorem Steady.resetSlice (p : Port) (s : State) (i : Fin 32) : Steady s (s.resetSlice p i) := by
  unfold State.resetSlice
  split <;> exact ⟨rfl, rfl⟩

theorem Steady.resetTimer (p : Port) (s : State) (t : Fin 4) : Steady s (s.resetTimer p t) := by
  unfold State.resetTimer
  split <;> exact ⟨rfl, rfl⟩

theorem Ranged.portReset (s : State) (p : Port) : Ranged s (s.portReset p) := by
  have hinput : Ranged s (if (s.abortOf p).vin.holder = some p then (s.abortOf p).giveUpInput else s.abortOf p) := by
    refine (s.abortOf_only p).steady.ranged.trans ?_
    split
    · exact .giveUpInput _
    · exact .refl _
  have hlayers (u : State) : Ranged u ((List.finRange 8).foldl (State.clearLockingPort p)
      ((List.finRange 8).foldl (State.resetLayer p) u)) :=
    (Ranged.foldl _ (Ranged.resetLayer p) _ u).trans (.foldl _ (Ranged.clearLockingPort p) _ _)
  have hrest (u : State) : Steady u (((List.finRange 4).foldl (State.resetTimer p)
      ((List.finRange 32).foldl (State.resetSlice p) ((List.finRange 64).foldl (State.resetSlot p) u))).resetPortState p) :=
    (((Steady.foldl _ (Steady.resetSlot p) _ u).trans (.foldl _ (Steady.resetSlice p) _ _)).trans
      (.foldl _ (Steady.resetTimer p) _ _)).trans (.setPort _ p _)
  exact (hinput.trans (hlayers _)).trans (hrest _).ranged

theorem transactionEffect_ranged (s : State) (p : Port) (kind : Kind) (bytes : List Byte) (l : Latch) :
    Ranged s (transactionEffect s p kind bytes l) := by
  unfold transactionEffect
  cases kind with
  | cmd =>
    refine Steady.ranged ?_
    dsimp only
    unfold State.joinQueue
    split <;> exact .setPort s p _
  | res | caprep =>
    refine Steady.ranged ?_
    dsimp only
    split
    · exact .setPort s p _
    · exact .refl s
  | evt | stat => exact .refl s
  | ack | mask => exact (Steady.setPort s p _).ranged
  | prst => exact .portReset s p

theorem linkTransaction_ranged (p : Port) (bytes : List Byte) (s : State) : Ranged s (linkTransaction p bytes s) := by
  unfold linkTransaction
  split
  · exact (Steady.setPort s p _).ranged
  split
  · exact (Steady.setPort s p _).ranged
  rename_i kind rest
  have hclose : Ranged s (s.closeLink p (shiftedOut (latchOf (s.port p) kind) (kind :: rest).length)) :=
    (Steady.setPort s p _).ranged
  refine hclose.trans ?_
  dsimp only
  split
  · exact (Steady.setPort _ p _).ranged
  split
  · exact transactionEffect_ranged _ p _ _ _
  · exact (Steady.setPort _ p _).ranged

/-! ### The blocks' works at an output frame start -/

section
variable (s : State)

theorem Steady.applyCommit (l : Fin 8) : Steady s (s.applyCommit l) := by
  unfold State.applyCommit
  dsimp only
  split
  · exact .refl s
  split
  · exact ((Steady.setLayer s l _).trans (.dropRefs _ _)).trans (.raiseAt _ _ _)
  · exact .refl s

theorem Steady.finishRelease (l : Fin 8) : Steady s (s.finishRelease l) := by
  unfold State.finishRelease
  split
  · exact ((Steady.discardStaged s l).trans (.setLayer _ l _)).trans (.dropRefs _ _)
  · exact .refl s

theorem Steady.sceneWork : Steady s s.sceneWork :=
  (((Steady.foldl _ Steady.applyCommit _ s).trans (.foldl _ Steady.finishRelease _ _)).trans
    (u := State.copyScene _) ⟨rfl, rfl⟩).trans (.foldl State.stepOpacity (fun s l => .setLayer s l _) _ _)

theorem Steady.openSlot (i : Fin 64) : Steady s (s.openSlot i) := by
  unfold State.openSlot
  split
  · exact Steady.trans (t := s.setSlot i { s.slot i with state := .opened }) ⟨rfl, rfl⟩ (.raiseAt _ _ _)
  · exact .refl s

theorem Steady.fallbackWork : Steady s s.fallbackWork := by
  rw [State.fallbackWork_eq]
  exact ⟨rfl, rfl⟩

theorem Ranged.promotionWork : Ranged s s.promotionWork := by
  unfold State.promotionWork
  split
  · exact .refl s
  · rename_i f hf
    refine Ranged.trans (t := s.setVin { s.vin with shown := some f, ready := none }) (.of_vin rfl fun h => h.promoted hf)
      (.foldl _ (fun s l => ?_) _ _)
    unfold State.refreshMonitor
    dsimp only
    split
    · exact .setMonitor s l _ fun h => h.reloaded
    · exact .refl s

theorem State.silenceWork_of_off (h : s.vin.lock = .off) : s.silenceWork = s := if_pos h

/-- Short of the limit the silence count alone takes its step (R113). -/
theorem State.silenceWork_of_short (ho : s.vin.lock ≠ .off) (h : ¬ s.lapses) :
    s.silenceWork = s.setVin { s.vin with silence := min Config.silenceMax (s.vin.silence + 1) } := by
  have hshort : ¬ (min Config.silenceMax (s.vin.silence + 1) = Config.silenceMax ∧ s.vin.lock = .locked) := by
    rintro ⟨hn, hl⟩
    have h7 : ¬ 7 ≤ s.vin.silence := fun h7 => h ⟨hl, h7⟩
    simp only [Config.silenceMax] at hn
    omega
  exact (if_neg ho).trans (if_neg hshort)

theorem State.vin_silenceWork_of_lapses (h : s.lapses) :
    s.silenceWork.vin = { s.vin with silence := Config.silenceMax, badRun := 0, lock := .lost } := by
  rw [State.silenceWork_of_lapses h]
  split
  · rw [State.abortActive_only s.lockLost]
    rfl
  · rfl

theorem Ranged.silenceWork : Ranged s s.silenceWork := by
  refine .of_vin (by rw [State.silenceWork_eq]) fun h => ?_
  by_cases hl : s.lapses
  · obtain ⟨hgood, _⟩ := (lockCounts_locked hl.1).mp h.counts
    rw [State.vin_silenceWork_of_lapses s hl]
    exact h.withCounts (lock := .lost) le_rfl ⟨hgood.le, rfl⟩ (.inl (by simp [hl.1]))
  by_cases hoff : s.vin.lock = .off
  · rwa [State.silenceWork_of_off s hoff]
  · rw [State.silenceWork_of_short s hoff hl]
    refine h.withCounts (lock := s.vin.lock) (min_le_left _ _) ?_ (.inl hoff)
    have hc := h.counts
    cases hlock : s.vin.lock with
    | off => exact absurd hlock hoff
    | acquiring => exact (lockCounts_acquiring hlock).mp hc
    | lost => exact (lockCounts_lost hlock).mp hc
    | locked =>
      obtain ⟨hgood, hbad, _⟩ := (lockCounts_locked hlock).mp hc
      have h7 : ¬ 7 ≤ s.vin.silence := fun h7 => hl ⟨hlock, h7⟩
      refine ⟨hgood, hbad, ?_⟩
      simp only [Config.silenceMax]
      omega

theorem Steady.takeoverWork : Steady s s.takeoverWork := by
  unfold State.takeoverWork
  split
  · refine Steady.trans ?_ (State.activate_only _ false).steady
    exact ⟨rfl, rfl⟩
  · exact .refl s

theorem Ranged.monitorWork (l : Fin 8) : Ranged s (s.monitorWork l) := by
  unfold State.monitorWork
  dsimp only
  split
  · exact .refl s
  split
  · exact .expireMonitor s l
  · rename_i hrun hrem
    refine .setMonitor s l _ fun h => ?_
    obtain ⟨_, _, _, _, _, hrange, _⟩ := id h
    have hle := (hrange (by simpa using hrun)).2
    exact h.withRemaining (by omega) (by omega)

theorem Steady.trigger (t : Fin 4) (atMark : Bool) : Steady s (s.trigger t atMark) := by
  rcases s.trigger_cases t atMark with h | ⟨p, h⟩ | ⟨r, k, _, _, _, h⟩ <;> rw [h]
  · exact .refl s
  · exact .setPort s p _
  · exact (s.acceptRequest_only r atMark).steady.trans ⟨rfl, rfl⟩

theorem Steady.countTimer (t : Fin 4) (atMark : Bool) : Steady s (s.countTimer t atMark) := by
  have expire (u : State) : Steady u (u.expireTimer t atMark) := by
    unfold State.expireTimer
    dsimp only
    split
    · exact ((Steady.trigger u t atMark).trans (.raiseAt _ _ _)).trans ⟨rfl, rfl⟩
    · exact (Steady.raiseAt u _ _).trans ⟨rfl, rfl⟩
  unfold State.countTimer
  dsimp only
  split
  · split
    · exact Steady.trans (t := s.setTimer t _) ⟨rfl, rfl⟩ (expire _)
    · exact ⟨rfl, rfl⟩
  · exact ⟨rfl, rfl⟩

theorem Steady.timerFrameWork (t : Fin 4) : Steady s (s.timerFrameWork t) := by
  unfold State.timerFrameWork
  dsimp only
  split
  · split
    · exact ⟨rfl, rfl⟩
    all_goals
      split
      · exact .countTimer s t false
      · exact .refl s
  · exact .refl s

theorem Steady.timerMarkWork (t : Fin 4) : Steady s (s.timerMarkWork t) := by
  unfold State.timerMarkWork
  dsimp only
  split
  · split
    · exact ⟨rfl, rfl⟩
    all_goals
      split
      · exact .countTimer s t true
      · exact .refl s
  · exact .refl s

theorem frameWork_ranged (k : FrameWork) : Ranged s (frameWork k s) := by
  cases k with
  | scene => exact (Steady.sceneWork s).ranged
  | slots => exact (Steady.foldl _ Steady.openSlot _ s).ranged
  | fallback => exact (Steady.fallbackWork s).ranged
  | palette => exact Steady.ranged ⟨rfl, rfl⟩
  | promotion => exact .promotionWork s
  | silence => exact .silenceWork s
  | takeover => exact (Steady.takeoverWork s).ranged
  | monitor l => exact .monitorWork s l
  | timer t => exact (Steady.timerFrameWork s t).ranged

end

/-! ### Frame marks (R109 to R115) -/

/-- The record after the lock state machine has taken an input frame end (R112, R113). -/
def TrailerInput.judged (v : TrailerInput) (good : Bool) : TrailerInput :=
  match v.lock, good with
  | .off, _ => { v with silence := 0, lock := .off }
  | .acquiring, true =>
    if v.goodCount + 1 < 3 then { v with silence := 0, lock := .acquiring, goodCount := v.goodCount + 1 }
    else { v with silence := 0, lock := .locked, goodCount := 3 }
  | .acquiring, false => { v with silence := 0, lock := .acquiring, goodCount := 0 }
  | .locked, true => { v with silence := 0, lock := .locked, badRun := 0 }
  | .locked, false =>
    if v.badRun + 1 < 2 then { v with silence := 0, lock := .locked, badRun := v.badRun + 1 }
    else { v with silence := 0, lock := .lost, badRun := 0 }
  | .lost, true => { v with silence := 0, lock := .acquiring, goodCount := 1 }
  | .lost, false => { v with silence := 0, lock := .lost }

theorem State.vin_lockStep (s : State) (good : Bool) : (s.lockStep good).vin = s.vin.judged good := by
  unfold State.lockStep TrailerInput.judged
  dsimp only [State.setVin_vin]
  cases hl : s.vin.lock with
  | off => rfl
  | acquiring =>
    cases good with
    | false => rfl
    | true =>
      by_cases hc : s.vin.goodCount + 1 < 3
      · exact (congrArg State.vin (if_pos hc)).trans (if_pos hc).symm
      · exact (congrArg State.vin (if_neg hc)).trans ((State.vin_moveLock _ _).trans (if_neg hc).symm)
  | locked =>
    cases good with
    | true => rfl
    | false =>
      by_cases hc : s.vin.badRun + 1 < 2
      · exact (congrArg State.vin (if_pos hc)).trans (if_pos hc).symm
      · exact (congrArg State.vin (if_neg hc)).trans ((State.vin_moveLock _ _).trans (if_neg hc).symm)
  | lost =>
    cases good with
    | true => exact State.vin_moveLock _ _
    | false => rfl

/-- The lock state machine writes what a move of the lock state writes (R112). -/
theorem State.lockStep_eq (s : State) (good : Bool) : s.lockStep good = { s with
    vin := (s.lockStep good).vin, cap := (s.lockStep good).cap, slots := (s.lockStep good).slots
    ports := (s.lockStep good).ports } := by
  unfold State.lockStep
  dsimp only
  split
  · rfl
  · split
    · rfl
    · rw [State.moveLock_eq]; rfl
  · rfl
  · rfl
  · split
    · rfl
    · rw [State.moveLock_eq]; rfl
  · rw [State.moveLock_eq]; rfl
  · rfl

/-- After the lock state machine the Capture Unit alone works at an input frame end (R130, R131, R133). -/
theorem State.lockAndCapture_only (s : State) (good : Bool) (f : VideoFrame) (phase : Phase) (sampled : Sampled) :
    OnlyCapture (s.lockStep good) (s.lockAndCapture good f phase sampled) := by
  unfold State.lockAndCapture
  dsimp only
  split
  · exact (State.setCap_only _ _).trans (State.activate_only _ true)
  split
  · exact State.setCap_only _ _
  split
  · exact State.setCap_only _ _
  · exact (State.setCap_only _ _).trans (State.activate_only _ true)

theorem State.vin_lockAndCapture (s : State) (good : Bool) (f : VideoFrame) (phase : Phase) (sampled : Sampled) :
    (s.lockAndCapture good f phase sampled).vin = s.vin.judged good := by
  rw [(s.lockAndCapture_only good f phase sampled).steady.vin, State.vin_lockStep]

theorem TrailerInput.InRange.judged {v : TrailerInput} (h : v.InRange) (good : Bool) : (v.judged good).InRange := by
  have hc := h.counts
  have keep {lock : LockState} {count run : Nat} (hon : v.lock ≠ .off)
      (hcounts : lockCounts { v with silence := 0, lock := lock, goodCount := count, badRun := run }) :
      TrailerInput.InRange { v with silence := 0, lock := lock, goodCount := count, badRun := run } :=
    h.withCounts (Nat.zero_le _) hcounts (.inl hon)
  unfold TrailerInput.judged
  split
  · rename_i hl
    obtain ⟨hgood, hbad, _, hnone⟩ := (lockCounts_off hl).mp hc
    exact { h with
      silence := Nat.zero_le _, counts := ⟨hgood, hbad, rfl, hnone⟩, unheld := fun hn => ⟨rfl, (h.unheld hn).2⟩ }
  · rename_i hl
    obtain ⟨_, hbad⟩ := (lockCounts_acquiring hl).mp hc
    have hon : v.lock ≠ .off := by simp [hl]
    split
    · rename_i hcount
      exact keep hon ⟨hcount, hbad⟩
    · exact keep hon ⟨rfl, by simp [hbad], Nat.zero_lt_succ _⟩
  · rename_i hl
    exact keep (by simp [hl]) ⟨Nat.zero_lt_succ _, ((lockCounts_acquiring hl).mp hc).2⟩
  · rename_i hl
    exact keep (by simp [hl]) ⟨((lockCounts_locked hl).mp hc).1, Nat.zero_lt_succ _, Nat.zero_lt_succ _⟩
  · rename_i hl
    obtain ⟨hgood, _, _⟩ := (lockCounts_locked hl).mp hc
    have hon : v.lock ≠ .off := by simp [hl]
    split
    · rename_i hrun
      exact keep hon ⟨hgood, hrun, Nat.zero_lt_succ _⟩
    · exact keep hon ⟨hgood.le, rfl⟩
  · rename_i hl
    exact keep (by simp [hl]) ⟨by simp, ((lockCounts_lost hl).mp hc).2⟩
  · rename_i hl
    exact keep (by simp [hl]) ((lockCounts_lost hl).mp hc)

theorem markWork_ranged (c : MarkContext) (k : MarkWork) (s : State) : Ranged s (markWork c k s) := by
  unfold markWork
  cases k with
  | lockAndCapture =>
    refine .of_vin (by rw [(State.lockAndCapture_only _ _ _ _ _).steady.monitors, State.lockStep_eq]) fun h => ?_
    rw [State.vin_lockAndCapture]
    exact h.judged c.good
  | timer t =>
    dsimp only
    split
    · exact (Steady.timerMarkWork s t).ranged
    · exact .refl s

theorem Ranged.frameEnd {s : State} (hl : s.vin.lock ≠ .off) (r : ReceivingFrame) (lines : List (List Half))
    (order : List MarkWork) : Ranged s (s.frameEnd r lines order) :=
  Ranged.trans (t := s.storeFrame (goodFrame s.vin r lines) lines)
    (.of_vin rfl fun h => h.begun hl (storedReady_whole h r lines))
    (.foldl _ (fun u k => markWork_ranged (markContext s r lines) k u) _ _)

theorem Ranged.firstMark {s : State} (hl : s.vin.lock ≠ .off) : Ranged s s.firstMark :=
  .of_vin rfl fun h => h.begun hl h.ready

/-! ### Every row -/

theorem exec_ranged (c : Instr) (s : State) : ∃ t, exec c s = .next t ∧ Ranged s t := by
  have note {u t : State} (h : Ranged u t) (ws : List FrameWork) : Ranged u { t with frameTaken := ws } :=
    h.trans (Steady.ranged ⟨rfl, rfl⟩)
  cases hc : commandOf c with
  | some q =>
    obtain ⟨p, f, op⟩ := q
    exact ⟨_, exec_of_commandOf hc s, takeCommand_ranged p f (commandOf_ranged hc) s⟩
  | none =>
    cases c with
    | cmd p | res p | caprep p | evt p | ack p | mask p | stat p | prst p | invalidTransaction p =>
      exact ⟨_, rfl, linkTransaction_ranged p _ s⟩
    | unknownCommand p tag code operands =>
      have hk : (Frame.mk tag code operands).known = true := by
        by_contra h
        simp [commandOf, h] at hc
      exact ⟨s, by simp [exec, execUnknownCommand, hk], .refl s⟩
    | summaryRecord p =>
      refine ⟨_, rfl, ?_⟩
      split
      · exact .refl s
      split
      · exact ((Steady.setPort s p _).trans (.setPort _ p _)).ranged
      · exact .refl s
    | outputFrameStart order =>
      refine ⟨_, rfl, ?_⟩
      split
      · exact .refl s
      · exact (Ranged.foldl _ frameWork_ranged _ s).trans (Steady.ranged ⟨rfl, rfl⟩)
    | silenceLimit =>
      refine ⟨_, rfl, ?_⟩
      split
      · exact note (.silenceWork s) _
      · exact .refl s
    | monitorExpiry l =>
      refine ⟨_, rfl, ?_⟩
      split
      · exact .refl s
      · exact note (.monitorWork s l) _
    | timerExpiry t =>
      refine ⟨_, rfl, ?_⟩
      split
      · exact .refl s
      · exact note (Steady.countTimer s t false).ranged _
    | captureTakeover =>
      refine ⟨_, rfl, ?_⟩
      split
      · exact note (Steady.takeoverWork s).ranged _
      · exact .refl s
    | capActivate => exact ⟨_, rfl, (State.activate_only s false).steady.ranged⟩
    | firstFrameMark =>
      refine ⟨_, rfl, ?_⟩
      split
      · rename_i h
        exact .firstMark h.1
      · exact .refl s
    | inputFrameEnd bus order =>
      refine ⟨_, rfl, ?_⟩
      split
      · exact .refl s
      rename_i hl
      split
      · exact .firstMark hl
      · exact .frameEnd hl _ _ _
    | resetAsserted =>
      refine ⟨_, rfl, fun _ => (trailerOk_iff _).mpr .reset, fun _ l => ?_⟩
      show MonitorOk (State.reset.monitor l)
      rw [State.monitor_reset]
      exact .reset
    | resetReleased => exact ⟨_, rfl, Steady.ranged ⟨rfl, rfl⟩⟩
    | selectAsserted p kind =>
      refine ⟨_, rfl, Steady.ranged ?_⟩
      split
      · exact .setPort s p _
      · exact .setPort s p _
      · exact .refl s
      · exact .refl s
    | _ => cases hc

theorem step_ranged {s t : State} (h : step s = .next t) : Ranged s t := by
  unfold step at h
  split at h
  · cases h
    exact .refl s
  · rename_i c rest _
    obtain ⟨u, hu, hranged⟩ := exec_ranged c { s with pending := rest }
    obtain rfl := Host.Outcome.next.inj (hu.symm.trans h)
    exact (Steady.ranged (s := s) (t := { s with pending := rest }) ⟨rfl, rfl⟩).trans hranged

/-- Settles O57: every part of a step writes the input and the monitors within their ranges, and the timers as the
invariants of the Slot Store ask. -/
theorem trailerInputTimersAndMonitorsStayInRange : Obligations.TrailerInputTimersAndMonitorsStayInRange :=
  ⟨fun _ _ hs he => (step_ranged he).input hs, fun _ _ hs he => (step_sound he).timers hs,
    fun _ _ hs he => (step_ranged he).monitors hs⟩

end Sys2Proof.Machine
end

section
/-! PROOFS. The trailer input's commands (file 06): VIN_CLAIM, VIN_RELEASE, VIN_FORMAT and VIN_ENABLE, and the requests that
a move of the lock state ends (R105 to R109, R114, R133 to R136). -/

namespace Sys2Proof.Machine

/-! ### Requests that end one after the other -/

theorem PortState.told_append (x : PortState) (q : Port) (as bs : List CaptureRequest) (o : OutcomeCode) :
    (x.told q as o).told q bs o = x.told q (as ++ bs) o := by
  induction as generalizing x with
  | nil => rw [PortState.told_nil, List.nil_append]
  | cons a rest ih => rw [← PortState.told_cons, ih, PortState.told_cons, List.cons_append]

/-- From `s` to `t` the requests `rs` have ended with outcome `o` (R134, R139, R140). -/
structure Tells (rs : List CaptureRequest) (o : OutcomeCode) (s t : State) : Prop where
  ports : ∀ q, t.port q = (s.port q).told q rs o
  slots : ∀ i, t.slot i = (s.slot i).unnamed i rs

theorem Tells.refl (o : OutcomeCode) (s : State) : Tells [] o s s :=
  ⟨fun _ => (PortState.told_nil _ _ _).symm, fun _ => (Slot.unnamed_nil _ _).symm⟩

theorem Tells.trans {as bs : List CaptureRequest} {o : OutcomeCode} {s t u : State} (h : Tells as o s t)
    (k : Tells bs o t u) : Tells (as ++ bs) o s u :=
  ⟨fun q => by rw [k.ports, h.ports, PortState.told_append], fun i => by rw [k.slots, h.slots, Slot.unnamed_append]⟩

theorem State.abortActive_of_none {s : State} (h : s.cap.active = none) (o : Option OutcomeCode) : s.abortActive o = s := by
  unfold State.abortActive
  rw [h]

theorem State.abortActive_tells (s : State) {o : OutcomeCode} (ho : o ≠ .ok) :
    Tells s.cap.active.toList o s (s.abortActive (some o)) := by
  cases ha : s.cap.active with
  | none =>
    rw [State.abortActive_of_none ha]
    exact .refl o s
  | some r =>
    obtain ⟨hports, hslots, _⟩ := State.abortActive_told ha ho
    exact ⟨hports, hslots⟩

/-- Every request ends, the active one first (R136). -/
theorem State.abortAll_tells (s : State) {o : OutcomeCode} (ho : o ≠ .ok) :
    Tells s.cap.requests o s (s.abortAll o) := by
  obtain ⟨hports, hslots, _⟩ := State.endRequests_told s.cap.queue o ho
    ((s.abortActive (some o)).setCap { (s.abortActive (some o)).cap with queue := [] })
  have hqueue : Tells s.cap.queue o (s.abortActive (some o)) (s.abortAll o) := by
    unfold State.abortAll
    dsimp only
    rw [s.queue_abortActive]
    exact ⟨hports, hslots⟩
  exact (s.abortActive_tells ho).trans hqueue

/-- Once the active request has ended, no other is active to end. -/
theorem State.abortActive_abortAll (s : State) (o : OutcomeCode) : (s.abortActive (some o)).abortAll o = s.abortAll o := by
  unfold State.abortAll
  rw [State.abortActive_of_none (s.active_abortActive _)]

theorem State.cap_abortAll (s : State) (o : OutcomeCode) :
    (s.abortAll o).cap = { (s.abortActive (some o)).cap with queue := [] } := State.endRequests_cap _ _ _

/-! ### What the input's commands leave -/

/-- `t` differs from `s` in the input, the Capture Unit, the slots and the ports alone. -/
def OnlyInput (s t : State) : Prop := t = { s with vin := t.vin, cap := t.cap, slots := t.slots, ports := t.ports }

theorem OnlyInput.trans {s t u : State} (h : OnlyInput s t) (k : OnlyInput t u) : OnlyInput s u := by
  cases s; cases t; cases u
  simp_all [OnlyInput]

theorem State.moveLock_onlyInput (s : State) (st : LockState) : OnlyInput s (s.moveLock st) := by
  rw [OnlyInput, s.moveLock_eq]

theorem State.giveUpInput_onlyInput (s : State) : OnlyInput s s.giveUpInput :=
  OnlyInput.trans (t := s.inputOff) s.inputOff_eq rfl

/-- The command's frame dropped before it and its record pushed after it (R177). -/
theorem OnlyInput.answered {s t : State} {p : Port} (h : OnlyInput (s.dropHead p) t) (r : ResultRecord) :
    OnlyInput s (t.pushRecord p r) :=
  (OnlyInput.trans (t := s.dropHead p) rfl h).trans rfl

/-! ### A move of the lock state -/

theorem State.port_raiseAll (s : State) (f : EventFlag) (q : Port) :
    (s.raiseAll f).port q = { s.port q with sticky := (s.port q).sticky ||| flagBit f } := by
  cases q <;> simp [State.raiseAll, State.port_raise, State.port_raise_ne]

/-- The lock state moved, before a request is aborted for it (R114). -/
def State.withLock (s : State) (st : LockState) : State :=
  if s.vin.lock = st then s else (s.setVin { s.vin with lock := st }).raiseAll .vinChange

theorem State.cap_withLock (s : State) (st : LockState) : (s.withLock st).cap = s.cap := by
  unfold State.withLock
  split <;> rfl

theorem State.slots_withLock (s : State) (st : LockState) : (s.withLock st).slots = s.slots := by
  unfold State.withLock
  split <;> rfl

theorem State.slot_withLock (s : State) (st : LockState) (i : Fin 64) : (s.withLock st).slot i = s.slot i := by
  rw [State.slot, s.slots_withLock]
  rfl

theorem State.lock_withLock (s : State) (st : LockState) : (s.withLock st).vin.lock = st := by
  unfold State.withLock
  split
  · assumption
  · rfl

theorem State.port_withLock (s : State) (st : LockState) (q : Port) : (s.withLock st).port q = { s.port q with
    sticky := if s.vin.lock = st then (s.port q).sticky else (s.port q).sticky ||| 0x080 } := by
  unfold State.withLock
  split
  · rfl
  · rw [State.port_raiseAll]
    rfl

/-- A move of the lock state, and then the abort that it may bring (R114, R135). -/
theorem State.moveLock_eq_withLock (s : State) (st : LockState) : s.moveLock st =
    if s.vin.lock ≠ st ∧ s.vin.lock = .locked ∧ (s.cap.phase = .settle ∨ s.cap.phase = .sample) then
      (s.withLock st).abortActive (some .noInput)
    else s.withLock st := by
  unfold State.moveLock State.withLock
  by_cases hst : s.vin.lock = st
  · rw [if_pos hst, if_pos hst, if_neg fun h => h.1 hst]
  · rw [if_neg hst, if_neg hst]
    simp only [ne_eq, hst, not_false_eq_true, true_and]
    rfl

theorem State.moveLock_self {s : State} {st : LockState} (h : s.vin.lock = st) : s.moveLock st = s := if_pos h

/-- Whether the lock state's move to `st` aborts the active request (R135). -/
def State.cuts (s : State) (st : LockState) : Prop :=
  s.vin.lock ≠ st ∧ s.vin.lock = .locked ∧ (s.cap.phase = .settle ∨ s.cap.phase = .sample)

theorem State.moveLock_of_cuts {s : State} {st : LockState} (h : s.cuts st) :
    s.moveLock st = (s.withLock st).abortActive (some .noInput) := (s.moveLock_eq_withLock st).trans (if_pos h)

theorem State.moveLock_of_not_cuts {s : State} {st : LockState} (h : ¬ s.cuts st) : s.moveLock st = s.withLock st :=
  (s.moveLock_eq_withLock st).trans (if_neg h)

/-- The requests that the lock state's move to `st` ends (R135). -/
def State.cutBy (s : State) (st : LockState) : List CaptureRequest :=
  if s.vin.lock ≠ st ∧ s.vin.lock = .locked ∧ (s.cap.phase = .settle ∨ s.cap.phase = .sample) then s.cap.active.toList
  else []

theorem State.cutBy_of_cuts {s : State} {st : LockState} (h : s.cuts st) : s.cutBy st = s.cap.active.toList := if_pos h

theorem State.cutBy_of_not_cuts {s : State} {st : LockState} (h : ¬ s.cuts st) : s.cutBy st = [] := if_neg h

theorem State.moveLock_tells (s : State) (st : LockState) :
    Tells (s.cutBy st) .noInput (s.withLock st) (s.moveLock st) := by
  by_cases h : s.cuts st
  · have htells := (s.withLock st).abortActive_tells (o := .noInput) nofun
    rw [State.cap_withLock] at htells
    rwa [State.moveLock_of_cuts h, State.cutBy_of_cuts h]
  · rw [State.moveLock_of_not_cuts h, State.cutBy_of_not_cuts h]
    exact .refl _ _

/-- A lock state other than OFF aborts the active request into RECOVER (R135). -/
theorem State.cap_moveLock_of_cuts {s : State} {st : LockState} {a : CaptureRequest} (h : s.cuts st) (hst : st ≠ .off)
    (ha : s.cap.active = some a) :
    (s.moveLock st).cap = ⟨s.cap.queue, none, .recover, s.cap.settleCount, .none, .empty⟩ := by
  have hactive : (s.withLock st).cap.active = some a := by rw [State.cap_withLock]; exact ha
  obtain ⟨_, _, hcap⟩ := State.abortActive_told hactive (o := .noInput) nofun
  rw [State.moveLock_of_cuts h, hcap, State.cap_withLock, State.lock_withLock, if_neg hst]

/-! ### Reception switched off -/

/-- The input with reception switched off (R107, R109). -/
def TrailerInput.stopped (v : TrailerInput) : TrailerInput :=
  { v with goodCount := 0, badRun := 0, silence := 0, receiving := none }

/-- Every request ends for reception switched off, the one that the lock state's move aborts among them (R133, R136). -/
theorem State.inputOff_eq_abortAll (s : State) :
    s.inputOff = (((s.setVin s.vin.stopped).withLock .off).abortAll .noInput).recoverIfOff := by
  show (((s.setVin s.vin.stopped).moveLock .off).abortAll .noInput).recoverIfOff = _
  rw [State.moveLock_eq_withLock]
  split
  · rw [State.abortActive_abortAll]
  · rfl

theorem State.recoverIfOff_tells (s : State) (o : OutcomeCode) : Tells [] o s s.recoverIfOff := by
  unfold State.recoverIfOff
  split
  · exact ⟨(Tells.refl o s).ports, (Tells.refl o s).slots⟩
  · exact .refl o s

/-- What reception switched off tells the ports (R114, R134, R136, R139, R140). -/
theorem State.inputOff_tells (s : State) :
    Tells s.cap.requests .noInput ((s.setVin s.vin.stopped).withLock .off) s.inputOff := by
  have h := (((s.setVin s.vin.stopped).withLock .off).abortAll_tells (o := .noInput) nofun).trans
    (State.recoverIfOff_tells _ _)
  rwa [← s.inputOff_eq_abortAll, List.append_nil, State.cap_withLock] at h

theorem State.port_inputOff (s : State) (q : Port) : s.inputOff.port q = PortState.told
    { s.port q with sticky := if s.vin.lock = .off then (s.port q).sticky else (s.port q).sticky ||| 0x080 }
    q s.cap.requests .noInput := by
  rw [s.inputOff_tells.ports, State.port_withLock]
  rfl

theorem State.slot_inputOff (s : State) (i : Fin 64) : s.inputOff.slot i = (s.slot i).unnamed i s.cap.requests := by
  rw [s.inputOff_tells.slots, State.slot_withLock]
  rfl

/-- The unit with reception switched off (R133, R136). -/
theorem State.cap_inputOff {s : State} (h : s.cap.PhaseOk) : s.inputOff.cap =
    ⟨[], none, .idle, s.cap.settleCount, if s.cap.active = none then s.cap.sampled else .none, .empty⟩ := by
  have hoff : ((s.setVin s.vin.stopped).withLock .off).vin.lock = .off := State.lock_withLock _ _
  have hcap : ((s.setVin s.vin.stopped).withLock .off).cap = s.cap := State.cap_withLock _ _
  rw [s.inputOff_eq_abortAll]
  generalize (s.setVin s.vin.stopped).withLock .off = u at hoff hcap
  have hlock : (u.abortAll .noInput).vin.lock = .off := by rw [State.abortAll_only u]; exact hoff
  have hall := u.cap_abortAll .noInput
  unfold State.recoverIfOff
  rw [← hcap] at h ⊢
  cases ha : u.cap.active with
  | none =>
    rw [State.abortActive_of_none ha] at hall
    have hphase : u.cap.phase = .idle ∨ u.cap.phase = .recover := by
      have hserving := h.1
      rw [ha] at hserving
      cases hp : u.cap.phase with
      | idle => exact .inl rfl
      | recover => exact .inr rfl
      | settle | sample | held => rw [hp] at hserving; exact absurd hserving nofun
    obtain ⟨_, hresult⟩ := h.of_idle hphase
    rw [hall]
    rcases hphase with hp | hp <;> simp [hp, hlock, ha, hresult, hall]
  | some r =>
    obtain ⟨_, _, hactive⟩ := State.abortActive_told ha (o := .noInput) nofun
    rw [hactive, if_pos hoff] at hall
    simp [hall]

/-! ### Answers -/

/-- An answer after a block's work: the record joins the ring of the port that the work has left. -/
theorem State.port_answer {s t : State} {p : Port} {f : Frame} {o : OutcomeCode} {v : Nat} {x : List Byte}
    {g : Port → PortState → PortState} (hg : ∀ q y ring, g q { y with ring := ring } = { g q y with ring := ring })
    (ht : ∀ q, t.port q = g q ((s.dropHead p).port q)) (q : Port) :
    (t.pushRecord p ⟨f.tag, f.code, o, v, x⟩).port q = g q ((s.answered p f o v x).port q) := by
  have hring (y : PortState) : (g q y).ring = y.ring := by
    have h := congrArg PortState.ring (hg q y y.ring)
    exact h
  by_cases hq : q = p
  · subst hq
    rw [State.port_pushRecord, State.port_answered, hg, ht, hring]
  · rw [State.answered, State.pushRecord, State.pushRecord, State.port_setPort_ne _ _ _ _ hq,
      State.port_setPort_ne _ _ _ _ hq, ht]

theorem byHolder_of_eq {p : Port} {k : CommandOp} {s : State} (h : s.vin.holder = some p) : byHolder p k s = k s := if_pos h

theorem PortState.sticky_dropHead (s : State) (p q : Port) : ((s.dropHead p).port q).sticky = (s.port q).sticky := by
  by_cases h : q = p
  · subst h
    rw [State.port_dropHead]
  · rw [State.port_dropHead_ne _ _ _ h]

/-- A port with reception switched off at it (R114, R136). -/
def PortState.inputOff (s : State) (q : Port) (x : PortState) : PortState := PortState.told
  { x with sticky := if s.vin.lock = .off then (s.port q).sticky else (s.port q).sticky ||| 0x080 }
  q s.cap.requests .noInput

section
variable {s t : State} {p : Port} {f : Frame} {o : OutcomeCode} {v : Nat} {x : List Byte}

/-- The ports after an answer and reception switched off. -/
theorem State.port_inputOff_answer (ht : t.ports = (s.dropHead p).inputOff.ports) (q : Port) :
    (t.pushRecord p ⟨f.tag, f.code, o, v, x⟩).port q = PortState.inputOff s q ((s.answered p f o v x).port q) := by
  refine State.port_answer (g := PortState.inputOff s) (fun _ _ _ => rfl) (fun q => ?_) q
  have hport : t.port q = (s.dropHead p).inputOff.port q := by rw [State.port, ht]; rfl
  rw [hport, State.port_inputOff, PortState.sticky_dropHead]
  rfl

theorem State.slot_inputOff_answer (ht : t.slots = (s.dropHead p).inputOff.slots) (r : ResultRecord) (i : Fin 64) :
    (t.pushRecord p r).slot i = (s.slot i).unnamed i s.cap.requests := by
  have hslot : (t.pushRecord p r).slot i = (s.dropHead p).inputOff.slot i := by
    rw [State.slot, State.pushRecord_eq, ht]
    rfl
  rw [hslot, State.slot_inputOff, State.dropHead_slot, State.dropHead_cap]

theorem State.cap_inputOff_answer (h : CaptureOk s) (ht : t.cap = (s.dropHead p).inputOff.cap) (r : ResultRecord) :
    (t.pushRecord p r).cap =
      ⟨[], none, .idle, s.cap.settleCount, if s.cap.active = none then s.cap.sampled else .none, .empty⟩ := by
  obtain ⟨hrequests, _⟩ := (captureOk_iff s).mp h
  rw [State.pushRecord_eq, ht, State.cap_inputOff (s := s.dropHead p) hrequests.phase, State.dropHead_cap]

/-- What an answer and reception switched off leave of the requests, at every port and slot (R133, R134, R136). -/
theorem State.inputOff_answer (hcap : t.cap = (s.dropHead p).inputOff.cap) (hslots : t.slots = (s.dropHead p).inputOff.slots)
    (hports : t.ports = (s.dropHead p).inputOff.ports) :
    (t.pushRecord p ⟨f.tag, f.code, o, v, x⟩).cap.requests = []
      ∧ (CaptureOk s → (t.pushRecord p ⟨f.tag, f.code, o, v, x⟩).cap =
        ⟨[], none, .idle, s.cap.settleCount, if s.cap.active = none then s.cap.sampled else .none, .empty⟩)
      ∧ (∀ q, (t.pushRecord p ⟨f.tag, f.code, o, v, x⟩).port q =
        PortState.inputOff s q ((s.answered p f o v x).port q))
      ∧ ∀ i, (t.pushRecord p ⟨f.tag, f.code, o, v, x⟩).slot i = (s.slot i).unnamed i s.cap.requests := by
  refine ⟨?_, fun h => State.cap_inputOff_answer h hcap _, State.port_inputOff_answer hports,
    State.slot_inputOff_answer hslots _⟩
  rw [State.pushRecord_eq, hcap]
  exact (s.dropHead p).inputOff_retires.2

end

theorem State.pushRecord_of_input {s t : State} (h : t = { s with vin := t.vin, ports := t.ports }) (p : Port)
    (r : ResultRecord) : t.pushRecord p r =
      { s with vin := (t.pushRecord p r).vin, ports := (t.pushRecord p r).ports } := by
  obtain ⟨v, ports, rfl⟩ : ∃ v ports, t = { s with vin := v, ports := ports } := ⟨_, _, h⟩
  rfl

/-- What reception switched on tells the ports (R109, R114). -/
theorem State.inputOn_eq {s : State} (hoff : s.vin.lock = .off) : s.inputOn =
    (s.setVin { s.vin with lock := .acquiring, goodCount := 0, badRun := 0, silence := 0 }).raiseAll .vinChange := by
  unfold State.inputOn
  rw [State.moveLock_eq_withLock, if_neg, State.withLock, if_neg]
  · rfl
  · rw [State.setVin_vin, hoff]
    nofun
  · rw [State.setVin_vin, hoff]
    nofun

/-- The ports after an answer and reception switched on. -/
theorem State.port_inputOn_answer {s t : State} {p : Port} {f : Frame} {o : OutcomeCode} {v : Nat} {x : List Byte}
    (hoff : s.vin.lock = .off) (ht : t = (s.dropHead p).inputOn) (q : Port) :
    (t.pushRecord p ⟨f.tag, f.code, o, v, x⟩).port q =
      { (s.answered p f o v x).port q with sticky := (s.port q).sticky ||| 0x080 } := by
  refine State.port_answer (g := fun q x => { x with sticky := (s.port q).sticky ||| 0x080 }) (fun _ _ _ => rfl)
    (fun q => ?_) q
  rw [ht, State.inputOn_eq (s := s.dropHead p) hoff, State.port_raiseAll, ← PortState.sticky_dropHead s p]
  rfl

/-- Settles O27: VIN_RELEASE is `giveUpInput` behind the holder's check, and every request ends in `abortAll`. -/
theorem inputIsClaimedAndReleased : Obligations.InputIsClaimedAndReleased := by
  refine ⟨fun p tag s ht => ⟨fun hh => ?_, fun hh => ?_⟩, fun p tag s ht hh => ?_⟩
  · refine exec_answered ((s.dropHead p).setVin { s.vin with holder := some p }) _ _ _ rfl ht ?_
    exact if_pos hh
  · refine exec_answered (s.dropHead p) _ _ _ rfl ht ?_
    exact if_neg hh
  · obtain ⟨hrequests, hcap, hports, hslots⟩ := State.inputOff_answer (s := s) (t := (s.dropHead p).giveUpInput)
      (f := frameVinRelease tag) (o := .ok) (v := 0) (x := []) rfl rfl rfl
    refine ⟨_, exec_answered (s.dropHead p).giveUpInput .ok 0 [] rfl ht (byHolder_of_eq hh), ?_, ?_, fun hc => ?_, ?_,
      fun i => ?_, ?_⟩
    · show { (s.dropHead p).inputOff.vin with captureEnabled := false, holder := none } = _
      rw [State.vin_inputOff]
      rfl
    · exact hrequests
    · exact hcap hc
    · exact hports
    · exact hslots i
    · exact (State.giveUpInput_onlyInput _).answered _

/-- The answer of VIN_ENABLE in a state that it leaves (R109). -/
def enableAnswer (t : State) : State × Answer :=
  (t, { outcome := .ok, value := (lockByte t.vin.lock).toNat, extra := vinExtra t.vin })

theorem vinEnable_one {p : Port} {s : State} (h : s.vin.holder = some p) :
    vinEnable p 1 s = enableAnswer (if s.vin.lock = .off then s.inputOn else s) := byHolder_of_eq h

theorem vinEnable_zero {p : Port} {s : State} (h : s.vin.holder = some p) :
    vinEnable p 0 s = enableAnswer (if s.vin.lock = .off then s else s.inputOff) := byHolder_of_eq h

/-- VIN_ENABLE that leaves state `t` behind the frame's removal answers with the lock state and the record of `t`. -/
theorem exec_vinEnable {p : Port} {tag on : Byte} {s t : State} {n : Nat} (ht : Takes s p (frameVinEnable tag on))
    (hop : vinEnable p on (s.dropHead p) = enableAnswer t) (hn : (lockByte t.vin.lock).toNat = n) :
    exec (.vinEnable p tag on) s = .next (t.pushRecord p ⟨tag, 0x53, .ok, n, vinExtra t.vin⟩) :=
  exec_answered t _ _ _ rfl ht (by rw [← hn]; exact hop)

/-- Settles O29: `inputOn` from OFF and `inputOff` from the other states, behind the holder check. -/
theorem inputEnableSwitchesReception : Obligations.InputEnableSwitchesReception := by
  intro p tag on s ht hh
  have hh' : (s.dropHead p).vin.holder = some p := hh
  refine ⟨fun hon => ?_, ?_, ?_, ?_, ?_⟩
  · exact exec_refused rfl ht (by rw [vinEnable, byHolder_of_eq hh', boolOf_of_le hon])
  · rintro rfl hoff
    have hop := (vinEnable_one hh').trans (congrArg enableAnswer (if_pos hoff))
    obtain ⟨t, ht'⟩ : ∃ t, t = (s.dropHead p).inputOn := ⟨_, rfl⟩
    have hvin : t.vin = { s.vin with lock := .acquiring, goodCount := 0, badRun := 0, silence := 0 } := by
      rw [ht']
      exact State.vin_moveLock _ _
    have honly : t = { s with vin := t.vin, ports := t.ports } := by
      rw [ht', State.inputOn_eq (s := s.dropHead p) hoff]
      rfl
    rw [← ht'] at hop
    exact ⟨_, exec_vinEnable ht hop (by rw [hvin]; rfl), hvin,
      fun q => State.port_inputOn_answer (f := frameVinEnable tag 1) hoff ht' q, State.pushRecord_of_input honly p _⟩
  · rintro rfl hon
    exact exec_vinEnable ht ((vinEnable_one hh').trans (congrArg enableAnswer (if_neg hon))) rfl
  · rintro rfl hoff
    have hrun := exec_vinEnable ht ((vinEnable_zero hh').trans (congrArg enableAnswer (if_pos hoff))) rfl
    rw [State.dropHead_vin, hoff] at hrun
    exact hrun
  · rintro rfl hon
    have hop := (vinEnable_zero hh').trans (congrArg enableAnswer (if_neg hon))
    obtain ⟨t, ht'⟩ : ∃ t, t = (s.dropHead p).inputOff := ⟨_, rfl⟩
    have hvin : t.vin = { s.vin with lock := .off, goodCount := 0, badRun := 0, silence := 0, receiving := none } := by
      rw [ht']
      exact State.vin_inputOff _
    have honly : OnlyInput (s.dropHead p) t := by rw [OnlyInput, ht', ← State.inputOff_eq]
    obtain ⟨hrequests, hcap, hports, hslots⟩ := State.inputOff_answer (s := s) (t := t) (p := p)
      (f := frameVinEnable tag 0) (o := .ok) (v := 0) (x := vinExtra t.vin) (by rw [ht']) (by rw [ht']) (by rw [ht'])
    rw [← ht'] at hop
    refine ⟨_, exec_vinEnable ht hop (by rw [hvin]; rfl), hvin, hrequests, hcap, fun q => ?_, hslots, honly.answered _⟩
    have hq := hports q
    rw [PortState.inputOff, if_neg hon] at hq
    exact hq

/-! ### VIN_FORMAT -/

/-- The input's record with the operands of VIN_FORMAT brought into range (R108). -/
def TrailerInput.reformed (v : TrailerInput) (w h : Half) (settle : Byte) : TrailerInput := { v with
  width := evenWidth (clampNat 64 960 w.toNat), height := clampNat 32 540 h.toNat, settle := clampNat 0 3 settle.toNat }

/-- The input's record as acquisition starts again under its format (R108). -/
def TrailerInput.restarted (v : TrailerInput) : TrailerInput :=
  { v with goodCount := 0, badRun := 0, receiving := staleFrame v.receiving }

/-- The state after VIN_FORMAT with the input's record `v` brought into range (R108). -/
def State.formatted (s : State) (v : TrailerInput) : State :=
  if s.vin.lock = .off then s.setVin v else (s.setVin v.restarted).moveLock .acquiring

theorem vinFormat_eq {p : Port} {w h : Half} {settle : Byte} {s : State} (hh : s.vin.holder = some p) :
    vinFormat p w h settle s = (s.formatted (s.vin.reformed w h settle), {
      outcome := okIf (64 ≤ w.toNat ∧ w.toNat ≤ 960 ∧ w.toNat % 2 = 0 ∧ 32 ≤ h.toNat ∧ h.toNat ≤ 540 ∧ settle.toNat ≤ 3)
      extra := vinExtra (s.formatted (s.vin.reformed w h settle)).vin }) := by
  have hsame : (evenWidth (clampNat 64 960 w.toNat) = w.toNat && clampNat 32 540 h.toNat = h.toNat
      && clampNat 0 3 settle.toNat = settle.toNat) = true
      ↔ 64 ≤ w.toNat ∧ w.toNat ≤ 960 ∧ w.toNat % 2 = 0 ∧ 32 ≤ h.toNat ∧ h.toNat ≤ 540 ∧ settle.toNat ≤ 3 := by
    simp only [Bool.and_eq_true, decide_eq_true_eq, clampNat_eq_self_iff _ _ _ (show 32 ≤ 540 by decide),
      clampNat_eq_self_iff _ _ _ (show 0 ≤ 3 by decide), evenWidth, clampNat_eq _ _ _ (show 64 ≤ 960 by decide)]
    omega
  rw [vinFormat, byHolder_of_eq hh, ← clampOutcome_eq_okIf hsame]
  rfl

section
variable {s : State} {v : TrailerInput}

theorem State.vin_formatted_of_off (h : s.vin.lock = .off) : (s.formatted v).vin = v := by
  rw [State.formatted, if_pos h]
  rfl

theorem State.vin_formatted_of_on (h : s.vin.lock ≠ .off) :
    (s.formatted v).vin = { v.restarted with lock := .acquiring } := by
  rw [State.formatted, if_neg h, State.vin_moveLock]
  rfl

theorem State.formatted_onlyInput : OnlyInput s (s.formatted v) := by
  unfold State.formatted
  split
  · rfl
  · exact OnlyInput.trans (t := s.setVin v.restarted) rfl (State.moveLock_onlyInput _ _)

/-- Where acquisition does not start anew, VIN_FORMAT writes the input alone (R108). -/
theorem State.formatted_of_kept (hv : v.lock = s.vin.lock) (h : s.vin.lock = .off ∨ s.vin.lock = .acquiring) :
    s.formatted v = s.setVin (s.formatted v).vin := by
  unfold State.formatted
  rcases h with h | h
  · rw [if_pos h]
    rfl
  · rw [if_neg (by rw [h]; nofun), State.moveLock_self (hv.trans h)]
    rfl

/-- What VIN_FORMAT out of LOCKED in SETTLE or SAMPLE cuts short (R135). -/
def State.formatCuts (s : State) : Prop := s.vin.lock = .locked ∧ (s.cap.phase = .settle ∨ s.cap.phase = .sample)

theorem State.cuts_restarted (hv : v.lock = s.vin.lock) : (s.setVin v.restarted).cuts .acquiring ↔ s.formatCuts := by
  have hlock : v.restarted.lock = s.vin.lock := hv
  rw [State.cuts, State.setVin_vin, hlock, State.setVin_cap]
  exact ⟨fun h => h.2, fun h => ⟨by rw [h.1]; nofun, h⟩⟩

/-- VIN_FORMAT that cuts nothing short leaves the requests (R135). -/
theorem State.formatted_of_not_cuts (hv : v.lock = s.vin.lock) (h : ¬ s.formatCuts) :
    (s.formatted v).cap = s.cap ∧ (s.formatted v).slots = s.slots := by
  unfold State.formatted
  split
  · exact ⟨rfl, rfl⟩
  · rw [State.moveLock_of_not_cuts (mt (State.cuts_restarted hv).mp h), State.cap_withLock, State.slots_withLock]
    exact ⟨rfl, rfl⟩

/-- VIN_FORMAT that cuts request `a` short (R134, R135). -/
theorem State.formatted_of_cuts {a : CaptureRequest} (hv : v.lock = s.vin.lock) (h : s.formatCuts)
    (ha : s.cap.active = some a) :
    (s.formatted v).cap = ⟨s.cap.queue, none, .recover, s.cap.settleCount, .none, .empty⟩
      ∧ ∀ i, (s.formatted v).slot i = (s.slot i).unnamed i [a] := by
  have hcuts := (State.cuts_restarted hv).mpr h
  unfold State.formatted
  rw [if_neg (by rw [h.1]; nofun)]
  refine ⟨State.cap_moveLock_of_cuts hcuts nofun ha, fun i => ?_⟩
  rw [(State.moveLock_tells _ _).slots, State.slot_withLock, State.cutBy_of_cuts hcuts, State.setVin_cap, ha]
  rfl

/-- The requests that VIN_FORMAT ends (R135). -/
def State.cutByFormat (s : State) : List CaptureRequest :=
  if s.vin.lock = .locked ∧ (s.cap.phase = .settle ∨ s.cap.phase = .sample) then s.cap.active.toList else []

/-- A port after VIN_FORMAT (R114, R135). -/
def PortState.formatted (s : State) (q : Port) (x : PortState) : PortState := PortState.told
  { x with
    sticky := if s.vin.lock = .off ∨ s.vin.lock = .acquiring then (s.port q).sticky else (s.port q).sticky ||| 0x080 }
  q s.cutByFormat .noInput

theorem State.port_formatted (hv : v.lock = s.vin.lock) (q : Port) :
    (s.formatted v).port q = PortState.formatted s q (s.port q) := by
  unfold State.formatted PortState.formatted
  by_cases hoff : s.vin.lock = .off
  · have hcut : s.cutByFormat = [] := if_neg (by rw [hoff]; nofun)
    rw [if_pos hoff, if_pos (.inl hoff), hcut, PortState.told_nil]
    rfl
  · have hlock : v.restarted.lock = s.vin.lock := hv
    have hcut : (s.setVin v.restarted).cutBy .acquiring = s.cutByFormat := if_congr (State.cuts_restarted hv) rfl rfl
    rw [if_neg hoff, (State.moveLock_tells _ _).ports, State.port_withLock, State.setVin_vin, hlock, hcut]
    simp only [hoff, false_or]
    rfl

end

/-- The end of requests clears no flag. -/
theorem PortState.hasFlag_told_of {x : PortState} {f : EventFlag} (hf : f ≠ .result) (h : x.hasFlag f = true) (q : Port)
    (rs : List CaptureRequest) (o : OutcomeCode) : (x.told q rs o).hasFlag f = true := by
  by_cases hown : rs.filter (fun r => r.requester = q) = []
  · exact PortState.hasFlag_of_sticky hf (more := 0) ((if_pos hown).trans (BitVec.or_zero).symm) h
  · exact PortState.hasFlag_of_sticky hf (if_neg hown) h

section
variable {s t : State} {p : Port} {f : Frame} {o : OutcomeCode} {n : Nat} {x : List Byte} {v : TrailerInput}

/-- The ports after an answer and VIN_FORMAT's work. -/
theorem State.port_formatted_answer (hv : v.lock = s.vin.lock) (ht : t = (s.dropHead p).formatted v) (q : Port) :
    (t.pushRecord p ⟨f.tag, f.code, o, n, x⟩).port q = PortState.formatted s q ((s.answered p f o n x).port q) := by
  refine State.port_answer (g := PortState.formatted s) (fun _ _ _ => rfl) (fun q => ?_) q
  rw [ht, State.port_formatted (s := s.dropHead p) hv, PortState.formatted, PortState.sticky_dropHead]
  rfl

theorem PortState.reports_answered (s : State) (p q : Port) : ((s.answered p f o n x).port q).reports = (s.port q).reports := by
  by_cases hq : q = p
  · subst hq
    rw [State.port_answered, State.port_dropHead]
  · rw [State.answered, State.pushRecord, State.port_setPort_ne _ _ _ _ hq, State.port_dropHead_ne _ _ _ hq]

end

theorem exec_vinFormat {p : Port} {tag : Byte} {w h : Half} {settle : Byte} {s : State}
    (ht : Takes s p (frameVinFormat tag w h settle)) (hh : s.vin.holder = some p) :
    let t := (s.dropHead p).formatted (s.vin.reformed w h settle)
    let o := okIf (64 ≤ w.toNat ∧ w.toNat ≤ 960 ∧ w.toNat % 2 = 0 ∧ 32 ≤ h.toNat ∧ h.toNat ≤ 540 ∧ settle.toNat ≤ 3)
    exec (.vinFormat p tag w h settle) s = .next (t.pushRecord p ⟨tag, 0x52, o, 0, vinExtra t.vin⟩) :=
  exec_answered _ _ _ _ rfl ht (vinFormat_eq (s := s.dropHead p) hh)

/-- The operands of VIN_FORMAT brought into range, an odd width lowered by one (R108). -/
theorem TrailerInput.reformed_eq (v : TrailerInput) (w h : Half) (settle : Byte) : v.reformed w h settle = { v with
    width := max 64 (min 960 w.toNat) - max 64 (min 960 w.toNat) % 2, height := max 32 (min 540 h.toNat)
    settle := min 3 settle.toNat } := by
  rw [TrailerInput.reformed, evenWidth, clampNat_eq _ _ _ (by decide), clampNat_eq _ _ _ (by decide),
    clampNat_eq _ _ _ (by decide), Nat.zero_max]

/-- Settles O28: out of OFF the command is a move of the lock state to ACQUIRING, and that move ends the request. -/
theorem inputFormatRestartsAcquisition : Obligations.InputFormatRestartsAcquisition := by
  intro p tag w h settle s ht hh w1 v o cut
  have hv : s.vin.reformed w h settle = v := s.vin.reformed_eq w h settle
  have hlock : v.lock = s.vin.lock := rfl
  obtain ⟨t, htv⟩ : ∃ t, t = (s.dropHead p).formatted v := ⟨_, rfl⟩
  have hrun : exec (.vinFormat p tag w h settle) s = .next (t.pushRecord p ⟨tag, 0x52, o, 0, vinExtra t.vin⟩) := by
    rw [htv, ← hv]
    exact exec_vinFormat ht hh
  have hports : ∀ q, (t.pushRecord p ⟨tag, 0x52, o, 0, vinExtra t.vin⟩).port q = _ :=
    State.port_formatted_answer (f := frameVinFormat tag w h settle) hlock htv
  refine ⟨_, vinExtra t.vin, hrun, fun hoff => ?_, fun hon => ?_, fun hon hacq q => ?_,
    fun hkept => ?_, ?_, ?_, fun hcut => ?_, fun hcut a ha => ?_, rfl, ?_⟩
  · exact (congrArg State.vin htv).trans (State.vin_formatted_of_off (s := s.dropHead p) hoff)
  · exact (congrArg State.vin htv).trans (State.vin_formatted_of_on (s := s.dropHead p) hon)
  · rw [hports, PortState.formatted, if_neg (by simp [hon, hacq])]
    refine PortState.hasFlag_told_of (f := .vinChange) nofun ?_ _ _ _
    exact PortState.hasFlag_of_bit (before := (s.port q).sticky) nofun rfl
  · rw [htv, State.formatted_of_kept (s := s.dropHead p) hlock hkept]
    rfl
  · rw [hports, State.port_answered, State.port_dropHead]
    rfl
  · rw [hports, State.port_answered, State.port_dropHead]
    rfl
  · obtain ⟨hcap, hslots⟩ := State.formatted_of_not_cuts (s := s.dropHead p) hlock hcut
    refine ⟨(congrArg State.cap htv).trans hcap, (congrArg State.slots htv).trans hslots, fun q => ?_⟩
    rw [hports, PortState.formatted, State.cutByFormat, if_neg hcut, PortState.told_nil]
    exact PortState.reports_answered s p q
  · obtain ⟨hcap, hslots⟩ := State.formatted_of_cuts (s := s.dropHead p) hlock hcut ha
    have hslot (i : Fin 64) : t.slot i = (s.slot i).unnamed i [a] := by rw [htv, hslots, State.dropHead_slot]
    have hgone : s.cutByFormat = [a] := (if_pos hcut).trans (by rw [ha]; rfl)
    have hreports (q : Port) : ((t.pushRecord p ⟨tag, 0x52, o, 0, vinExtra t.vin⟩).port q).reports =
        (s.port q).reports ++ ([a].filter fun r => r.requester = q).map fun r => ⟨r.tag, r.slot, .noInput, r.origin⟩ := by
      rw [hports, PortState.formatted, hgone, ← PortState.reports_answered s p q]
      rfl
    refine ⟨(congrArg State.cap htv).trans hcap, ?_, fun j hj => ?_, ?_, ?_, fun q hq => ?_⟩
    · exact (hslot a.slot).trans (if_pos ⟨a, List.mem_singleton_self a, rfl⟩)
    · exact (hslot j).trans (if_neg (by simpa using Ne.symm hj))
    · rw [hreports, List.filter_singleton, decide_eq_true rfl]
      rfl
    · rw [hports, PortState.formatted, hgone]
      exact PortState.hasFlag_told _ (List.mem_singleton_self a) _
    · rw [hreports, List.filter_singleton, decide_eq_false (Ne.symm hq)]
      exact List.append_nil _
  · exact OnlyInput.answered (htv ▸ State.formatted_onlyInput) _

end Sys2Proof.Machine
end

section
/-! PROOFS. What a source event makes of a timer, at an output frame start and at a good input frame end (R148, R149,
R152), and what it leaves. -/

namespace Sys2Proof.Machine

/-! ### What a timer's work leaves -/

/-- `t` differs from `s` in the Capture Unit, the slots, the ports and the timers alone. -/
def OnlyTimers (s t : State) : Prop :=
  t = { s with cap := t.cap, slots := t.slots, ports := t.ports, timers := t.timers }

theorem OnlyTimers.trans {s t u : State} (h : OnlyTimers s t) (k : OnlyTimers t u) : OnlyTimers s u := by
  cases s; cases t; cases u
  simp_all [OnlyTimers]

theorem OnlyCapture.onlyTimers {s t : State} (h : OnlyCapture s t) : OnlyTimers s t := by
  cases s; cases t
  simp_all [OnlyCapture, OnlyTimers]

theorem State.raiseAt_onlyTimers (s : State) (p : Option Port) (f : EventFlag) : OnlyTimers s (s.raiseAt p f) := by
  cases p <;> rfl

theorem State.trigger_onlyTimers (s : State) (t : Fin 4) (atMark : Bool) : OnlyTimers s (s.trigger t atMark) := by
  rcases s.trigger_cases t atMark with h | ⟨p, h⟩ | ⟨r, k, _, _, _, h⟩
  · rw [h]
    rfl
  · rw [h]
    rfl
  · rw [h]
    exact (State.acceptRequest_only s r atMark).onlyTimers.trans rfl

theorem State.expireTimer_onlyTimers (s : State) (t : Fin 4) (atMark : Bool) : OnlyTimers s (s.expireTimer t atMark) := by
  unfold State.expireTimer
  dsimp only
  split
  · exact ((s.trigger_onlyTimers t atMark).trans (State.raiseAt_onlyTimers _ _ _)).trans rfl
  · exact (State.raiseAt_onlyTimers _ _ _).trans rfl

theorem State.countTimer_onlyTimers (s : State) (t : Fin 4) (atMark : Bool) : OnlyTimers s (s.countTimer t atMark) := by
  unfold State.countTimer
  dsimp only
  split
  · split
    · exact OnlyTimers.trans (t := s.setTimer t _) rfl (State.expireTimer_onlyTimers _ _ _)
    · rfl
  · rfl

theorem State.timerMarkWork_onlyTimers (s : State) (t : Fin 4) : OnlyTimers s (s.timerMarkWork t) := by
  unfold State.timerMarkWork
  dsimp only
  split
  · split
    · rfl
    all_goals
      split
      · exact s.countTimer_onlyTimers t true
      · rfl
  · rfl

/-! ### One source event -/

/-- A running FREE or ONESHOT timer after one source event, at place `index` of its template when it expires (R148,
R149). -/
def FrameTimer.counted (m : FrameTimer) (index : Nat) : FrameTimer :=
  if m.prescaler ≤ m.prescaleCount + 1 then
    if m.count ≤ 1 then m.expired index else { m with prescaleCount := 0, count := m.count - 1 }
  else { m with prescaleCount := m.prescaleCount + 1 }

theorem State.timers_expireTimer_event {s : State} {t : Fin 4} (h : (s.timer t).action = .event) (atMark : Bool) :
    (s.expireTimer t atMark).timers = (s.setTimer t ((s.timer t).expired (s.timer t).templateIndex)).timers := by
  unfold State.expireTimer
  rw [if_neg (by rw [h]; nofun)]
  dsimp only
  rw [State.raiseAt_eq]
  rfl

/-- The timers after one source event of timer `t`: the template index moves in a capture trigger alone (R148 to R150). -/
theorem State.timers_countTimer (s : State) (t : Fin 4) (atMark : Bool) :
    ∃ index, ((s.timer t).action = .event → index = (s.timer t).templateIndex)
      ∧ (s.countTimer t atMark).timers = (s.setTimer t ((s.timer t).counted index)).timers := by
  by_cases hfull : (s.timer t).prescaler ≤ (s.timer t).prescaleCount + 1
  case neg =>
    refine ⟨_, fun _ => rfl, ?_⟩
    rw [State.countTimer, FrameTimer.counted, if_neg (by simpa [prescaleFull] using hfull), if_neg hfull]
  by_cases hlast : (s.timer t).count ≤ 1
  case neg =>
    refine ⟨_, fun _ => rfl, ?_⟩
    rw [State.countTimer, FrameTimer.counted, if_pos (by simpa [prescaleFull] using hfull), if_pos hfull]
    dsimp only
    rw [if_neg hlast, if_neg hlast]
  obtain ⟨u, hu⟩ : ∃ u, u = s.setTimer t { s.timer t with prescaleCount := 0, count := (s.timer t).count - 1 } := ⟨_, rfl⟩
  have hut : u.timer t = { s.timer t with prescaleCount := 0, count := (s.timer t).count - 1 } := by
    rw [hu, State.timer_setTimer]
  have hcount : s.countTimer t atMark = u.expireTimer t atMark := by
    rw [hu, State.countTimer, if_pos (by simpa [prescaleFull] using hfull)]
    exact if_pos hlast
  have hexpired (index : Nat) (h : (u.expireTimer t atMark).timers = (u.setTimer t ((u.timer t).expired index)).timers) :
      (s.countTimer t atMark).timers = (s.setTimer t ((s.timer t).counted index)).timers := by
    rw [hcount, h, hut, hu, State.setTimer_twice, FrameTimer.counted, if_pos hfull, if_pos hlast]
    rfl
  by_cases ha : (s.timer t).action = .event
  · exact ⟨_, fun _ => rfl, hexpired _ ((State.timers_expireTimer_event (s := u) (by rw [hut]; exact ha) atMark).trans
      (by rw [hut]))⟩
  · obtain ⟨index, _, h⟩ := u.timers_expireTimer t atMark
    exact ⟨index, fun he => absurd he ha, hexpired index h⟩

/-- A timer after an event of kind `src`; `measured` is what MEASURE makes of it (R148, R152). -/
def FrameTimer.onEvent (m : FrameTimer) (src : TimerSource) (measured : FrameTimer) (index : Nat) : FrameTimer :=
  if m.running = true then
    if m.mode = .measure then measured else if m.source = src then m.counted index else m
  else m

/-- The shape that the timer's work has at both frame events (R148, R152). -/
theorem State.timers_onEvent {s u : State} {t : Fin 4} {src : TimerSource} {measured : FrameTimer} {atMark : Bool}
    (hu : u = if (s.timer t).running = true then
        match (s.timer t).mode with
        | .measure => s.setTimer t measured
        | .free | .oneshot => if (s.timer t).source = src then s.countTimer t atMark else s
      else s) :
    ∃ index, ((s.timer t).action = .event → index = (s.timer t).templateIndex)
      ∧ u.timers = (s.setTimer t ((s.timer t).onEvent src measured index)).timers := by
  obtain ⟨index, hindex, hcount⟩ := s.timers_countTimer t atMark
  refine ⟨index, hindex, ?_⟩
  unfold FrameTimer.onEvent
  by_cases hr : (s.timer t).running = true
  case neg => rw [hu, if_neg hr, if_neg hr, State.setTimer_timer_self]
  rw [hu, if_pos hr, if_pos hr]
  cases hm : (s.timer t).mode with
  | measure => rw [if_pos rfl]
  | free | oneshot =>
    by_cases hs : (s.timer t).source = src
    · simpa [hs] using hcount
    · simp [hs, State.setTimer_timer_self]

theorem State.timers_timerMarkWork (s : State) (t : Fin 4) :
    ∃ index, ((s.timer t).action = .event → index = (s.timer t).templateIndex)
      ∧ (s.timerMarkWork t).timers = (s.setTimer t ((s.timer t).onEvent .ife
        { s.timer t with measured := (s.timer t).count, count := 0 } index)).timers :=
  State.timers_onEvent (atMark := true) (by unfold State.timerMarkWork; rfl)

theorem State.timers_timerFrameWork (s : State) (t : Fin 4) :
    ∃ index, ((s.timer t).action = .event → index = (s.timer t).templateIndex)
      ∧ (s.timerFrameWork t).timers = (s.setTimer t ((s.timer t).onEvent .ofs
        { s.timer t with count := min 65535 ((s.timer t).count + 1) } index)).timers :=
  State.timers_onEvent (atMark := false) (by unfold State.timerFrameWork; rfl)

/-- Whether an event of kind `src` is one that the timer counts down by (R148). -/
def FrameTimer.CountsAt (m : FrameTimer) (src : TimerSource) : Prop :=
  m.running = true ∧ m.mode ≠ .measure ∧ m.source = src

theorem FrameTimer.onEvent_of_counts {m : FrameTimer} {src : TimerSource} (h : m.CountsAt src) (measured : FrameTimer)
    (index : Nat) : m.onEvent src measured index = m.counted index := by
  obtain ⟨hr, hm, hs⟩ := h
  rw [FrameTimer.onEvent, if_pos hr, if_neg hm, if_pos hs]

/-- After its expiry a timer that counts down runs on in FREE alone (R149). -/
theorem FrameTimer.expired_eq {m : FrameTimer} (hr : m.running = true) (hm : m.mode ≠ .measure) (index : Nat) :
    m.expired index = { m with
      prescaleCount := 0, count := m.reload, running := decide (m.mode = .free), templateIndex := index } := by
  have hrun : (m.running && decide (m.mode ≠ .oneshot)) = decide (m.mode = .free) := by
    rw [hr, Bool.true_and]
    cases hmode : m.mode with
    | free | oneshot => rfl
    | measure => exact absurd hmode hm
  rw [FrameTimer.expired, hrun]

/-- A timer's step at a frame event, case by case (R148, R149, R152). -/
theorem FrameTimer.onEvent_clauses {m n measured : FrameTimer} {src : TimerSource} {index : Nat}
    (h : n = m.onEvent src measured index) (hindex : m.action = .event → index = m.templateIndex) :
    (m.running = false ∨ (m.mode ≠ .measure ∧ m.source ≠ src) → n = m)
      ∧ (m.running = true → m.mode = .measure → n = measured)
      ∧ (m.CountsAt src → m.prescaleCount + 1 < m.prescaler → n = { m with prescaleCount := m.prescaleCount + 1 })
      ∧ (m.CountsAt src → m.prescaler ≤ m.prescaleCount + 1 → 2 ≤ m.count →
        n = { m with prescaleCount := 0, count := m.count - 1 })
      ∧ (m.CountsAt src → m.prescaler ≤ m.prescaleCount + 1 → m.count ≤ 1 →
        n = { m with
          prescaleCount := 0, count := m.reload, running := decide (m.mode = .free), templateIndex := n.templateIndex }
        ∧ (m.action = .event → n.templateIndex = m.templateIndex)) := by
  refine ⟨?_, fun hr hm => ?_, fun hc hp => ?_, fun hc hp hn => ?_, fun hc hp hn => ?_⟩
  · rintro (hr | ⟨hm, hs⟩)
    · rw [h, FrameTimer.onEvent, if_neg (by rw [hr]; nofun)]
    · rw [h, FrameTimer.onEvent, if_neg hm, if_neg hs, ite_self]
  · rw [h, FrameTimer.onEvent, if_pos hr, if_pos hm]
  · rw [h, FrameTimer.onEvent_of_counts hc, FrameTimer.counted, if_neg (by omega)]
  · rw [h, FrameTimer.onEvent_of_counts hc, FrameTimer.counted, if_pos hp, if_neg (by omega)]
  · have hn : n = m.expired index := by
      rw [h, FrameTimer.onEvent_of_counts hc, FrameTimer.counted, if_pos hp, if_pos hn]
    obtain ⟨hr, hm, _⟩ := hc
    have hn := hn.trans (FrameTimer.expired_eq hr hm index)
    have hplace : n.templateIndex = index := by rw [hn]
    exact ⟨by rw [hplace]; exact hn, fun ha => hplace.trans (hindex ha)⟩

/-! ### Flags -/

/-- Flags only join (R180). -/
def FlagsStay (s t : State) : Prop := ∀ q, ∃ more, (t.port q).sticky = (s.port q).sticky ||| more

theorem FlagsStay.of_ports {s t : State} (h : t.ports = s.ports) : FlagsStay s t :=
  fun q => ⟨0#9, by rw [State.port, h, BitVec.or_zero]; rfl⟩

theorem FlagsStay.refl (s : State) : FlagsStay s s := .of_ports rfl

theorem FlagsStay.trans {s t u : State} (h : FlagsStay s t) (k : FlagsStay t u) : FlagsStay s u := fun q => by
  obtain ⟨a, ha⟩ := h q
  obtain ⟨b, hb⟩ := k q
  exact ⟨a ||| b, by rw [hb, ha, BitVec.or_assoc]⟩

theorem FlagsStay.hasFlag {s t : State} (h : FlagsStay s t) {q : Port} {f : EventFlag} (hf : f ≠ .result)
    (hs : (s.port q).hasFlag f = true) : (t.port q).hasFlag f = true := by
  obtain ⟨_, hmore⟩ := h q
  exact PortState.hasFlag_of_sticky hf hmore hs

theorem FlagsStay.timerMarkWork (s : State) (t : Fin 4) : FlagsStay s (s.timerMarkWork t) := by
  unfold State.timerMarkWork
  dsimp only
  split
  · split
    · exact .of_ports rfl
    all_goals
      split
      · exact (Grows.countTimer s t true).sticky
      · exact .refl s
  · exact .refl s

theorem State.hasFlag_raise (s : State) (p : Port) {f : EventFlag} (hf : f ≠ .result) :
    ((s.raise p f).port p).hasFlag f = true :=
  PortState.hasFlag_of_bit (before := (s.port p).sticky) hf (by rw [State.port_raise])

/-- An expiry raises TIMER at the holder, whatever its trigger comes to (R149). -/
theorem State.hasFlag_expireTimer {s : State} {t : Fin 4} {p : Port} (h : (s.timer t).holder = some p) (atMark : Bool) :
    ((s.expireTimer t atMark).port p).hasFlag .timer = true := by
  have hraise (u : State) (hu : (u.timer t).holder = some p) (m : FrameTimer) :
      (((u.raiseAt (u.timer t).holder .timer).setTimer t m).port p).hasFlag .timer = true := by
    rw [hu]
    exact State.hasFlag_raise u p nofun
  unfold State.expireTimer
  dsimp only
  split
  · obtain ⟨index, _, htimers⟩ := s.timers_trigger t atMark
    refine hraise _ ?_ _
    have htimer : (s.trigger t atMark).timer t = (s.setTimer t { s.timer t with templateIndex := index }).timer t := by
      rw [State.timer, htimers]
      rfl
    rw [htimer, State.timer_setTimer]
    exact h
  · exact hraise s h _

/-- The source event that expires a timer raises TIMER at its holder (R148, R149). -/
theorem State.hasFlag_countTimer {s : State} {t : Fin 4} {p : Port} (h : (s.timer t).holder = some p)
    (hp : (s.timer t).prescaler ≤ (s.timer t).prescaleCount + 1) (hn : (s.timer t).count ≤ 1) (atMark : Bool) :
    ((s.countTimer t atMark).port p).hasFlag .timer = true := by
  rw [State.countTimer, if_pos (by simpa [prescaleFull] using hp)]
  dsimp only
  rw [if_pos hn]
  exact State.hasFlag_expireTimer (by rw [State.timer_setTimer]; exact h) atMark

theorem State.timerMarkWork_of_counts {s : State} {t : Fin 4} (h : (s.timer t).CountsAt .ife) :
    s.timerMarkWork t = s.countTimer t true := by
  obtain ⟨hr, hm, hs⟩ := h
  unfold State.timerMarkWork
  dsimp only
  rw [if_pos hr, hs]
  split
  · exact absurd ‹_› hm
  all_goals rfl

theorem State.timerFrameWork_of_counts {s : State} {t : Fin 4} (h : (s.timer t).CountsAt .ofs) :
    s.timerFrameWork t = s.countTimer t false := by
  obtain ⟨hr, hm, hs⟩ := h
  unfold State.timerFrameWork
  dsimp only
  rw [if_pos hr, hs]
  split
  · exact absurd ‹_› hm
  all_goals rfl

end Sys2Proof.Machine
end

section
/-! PROOFS. Frame marks (R109 to R115): the lines and pixels of the bus, the first mark, and the judgement of a frame in
whatever order the blocks take an input frame end. -/

namespace Sys2Proof.Machine

/-! ### The bus (R110) -/

theorem busLines_blank (d : Half) (rest : List BusSample) : busLines (⟨false, d⟩ :: rest) = busLines rest := rfl

theorem busLines_line (a : Half) (line : List Half) :
    busLines ((a :: line).map (BusSample.mk true)) = [a :: line] := by
  have h := busRuns_append (a :: line) []
  rw [List.append_nil] at h
  rw [busLines, h]
  simp [busRuns]

theorem busLines_line_blank (a : Half) (line : List Half) (d : Half) (rest : List BusSample) :
    busLines ((a :: line).map (BusSample.mk true) ++ ⟨false, d⟩ :: rest) = (a :: line) :: busLines rest := by
  rw [busLines, busRuns_append]
  simp [busRuns, busLines]

/-- A pixel of a line as it is stored: its own Y and its pair's Cb and Cr (R110). -/
theorem getElem?_lineColours (line : List Half) {k : Nat} (hk : k < line.length) : (lineColours line)[k]? =
    some (clampColour (busY (line.getD k 0)) (busC (line.getD (2 * (k / 2)) 0))
      (if 2 * (k / 2) + 1 < line.length then busC (line.getD (2 * (k / 2) + 1) 0) else 128)) := by
  induction line using lineColours.induct generalizing k with
  | case1 a b rest ih =>
    match k with
    | 0 => simp [lineColours]
    | 1 => simp [lineColours]
    | k + 2 =>
      have hhalf : 2 * ((k + 2) / 2) = 2 * (k / 2) + 2 := by omega
      have hrest := ih (k := k) (by simpa using hk)
      have hlen : 2 * (k / 2) + 2 + 1 < (a :: b :: rest).length ↔ 2 * (k / 2) + 1 < rest.length := by
        simp only [List.length_cons]
        omega
      rw [hhalf, if_congr hlen rfl rfl]
      exact hrest
  | case2 a =>
    obtain rfl : k = 0 := by simpa using hk
    simp [lineColours]
  | case3 => cases hk

/-- The lines and pixels that a frame buffer stores (R110). -/
theorem storedLines_spec (lines : List (List Half)) {j : Nat} {line : List Half} (hj : j < 540)
    (hline : lines[j]? = some line) : ∃ row, (storedLines lines)[j]? = some row ∧ row.length = min 960 line.length
      ∧ ∀ k, k < 960 → k < line.length → row[k]? = (lineColours line)[k]? := by
  refine ⟨(lineColours line).take 960, ?_, ?_, fun k hk _ => ?_⟩
  · rw [storedLines, List.getElem?_map, List.getElem?_take_of_lt hj, hline]
    rfl
  · rw [List.length_take, lineColours_length]
  · exact List.getElem?_take_of_lt hk

/-! ### The order of the work at an input frame end -/

theorem mem_allMarkWork (k : MarkWork) : k ∈ allMarkWork := by cases k <;> simp [allMarkWork]

/-- What every block's work carries on, from the works taken before it to those and its own. -/
theorem foldl_markWork {c : MarkContext} {P : List MarkWork → State → Prop}
    (hstep : ∀ done u k, k ∉ done → P done u → P (k :: done) (markWork c k u)) (ks : List MarkWork) :
    ∀ done u, (ks.reverse ++ done).Nodup → P done u →
      P (ks.reverse ++ done) (ks.foldl (fun u k => markWork c k u) u) := by
  induction ks with
  | nil => exact fun _ _ _ h => h
  | cons k rest ih =>
    intro done u hn h
    rw [List.reverse_cons, List.append_assoc, List.singleton_append] at hn ⊢
    have hk := (List.nodup_cons.mp (List.nodup_append.mp hn).2.1).1
    exact ih _ _ hn (hstep done u k hk h)

/-- What holds of the state that the input store leaves, and is carried on by every work, holds when each has been taken
once. -/
theorem State.frameEnd_of_steps {s : State} {r : ReceivingFrame} {lines : List (List Half)}
    {P : List MarkWork → State → Prop}
    (hstep : ∀ done u k, k ∉ done → P done u → P (k :: done) (markWork (markContext s r lines) k u))
    (order : List MarkWork) (h : P [] (s.storeFrame (goodFrame s.vin r lines) lines)) :
    ∃ done, (∀ k, k ∈ done) ∧ P done (s.frameEnd r lines order) := by
  refine ⟨(markOrder order).reverse ++ [], fun k => ?_, foldl_markWork hstep (markOrder order) [] _ ?_ h⟩
  · simp [markOrder, mem_firsts, mem_allMarkWork]
  · simpa [markOrder] using firsts_nodup _

theorem exec_inputFrameEnd {bus : List BusSample} {order : List MarkWork} {r : ReceivingFrame} {s : State}
    (hl : s.vin.lock ≠ .off) (hr : s.vin.receiving = some r) :
    exec (.inputFrameEnd bus order) s = .next (s.frameEnd r (busLines bus) order) := by
  show execInputFrameEnd bus order s = _
  rw [execInputFrameEnd, if_neg hl, hr]

/-! ### The lock state machine's flags (R112, R114) -/

theorem State.hasFlag_moveLock {s : State} {st : LockState} (h : s.vin.lock ≠ st) (q : Port) :
    ((s.moveLock st).port q).hasFlag .vinChange = true := by
  rw [(s.moveLock_tells st).ports]
  refine PortState.hasFlag_told_of (f := .vinChange) nofun ?_ _ _ _
  exact PortState.hasFlag_of_bit (before := (s.port q).sticky) nofun (by rw [State.port_withLock, if_neg h]; rfl)

/-- A frame that moves the lock state raises VIN_CHANGE everywhere. -/
theorem State.hasFlag_lockStep {s : State} {good : Bool} (h : (s.vin.judged good).lock ≠ s.vin.lock) (q : Port) :
    ((s.lockStep good).port q).hasFlag .vinChange = true := by
  unfold TrailerInput.judged at h
  unfold State.lockStep
  dsimp only [State.setVin_vin]
  cases hl : s.vin.lock with
  | off => simp [hl] at h
  | acquiring =>
    cases good with
    | false => simp [hl] at h
    | true =>
      by_cases hc : s.vin.goodCount + 1 < 3
      · simp [hl, hc] at h
      · refine Eq.trans (congrArg (fun u : State => (u.port q).hasFlag .vinChange) (if_neg hc)) ?_
        exact State.hasFlag_moveLock (by simp) q
  | locked =>
    cases good with
    | true => simp [hl] at h
    | false =>
      by_cases hc : s.vin.badRun + 1 < 2
      · simp [hl, hc] at h
      · refine Eq.trans (congrArg (fun u : State => (u.port q).hasFlag .vinChange) (if_neg hc)) ?_
        exact State.hasFlag_moveLock (by simp) q
  | lost =>
    cases good with
    | true => exact State.hasFlag_moveLock (by simp) q
    | false => simp [hl] at h

/-- After the lock state machine flags only join. -/
theorem State.lockAndCapture_flags (s : State) (good : Bool) (f : VideoFrame) (phase : Phase) (sampled : Sampled) :
    FlagsStay (s.lockStep good) (s.lockAndCapture good f phase sampled) := by
  have hset (u : State) (c : CaptureUnit) : FlagsStay u ((u.setCap c).activate true) :=
    (FlagsStay.of_ports rfl).trans (Grows.activate (u.setCap c) true).sticky
  unfold State.lockAndCapture
  dsimp only
  split
  · exact hset _ _
  split
  · exact .of_ports rfl
  split
  · exact .of_ports rfl
  · exact hset _ _

/-! ### The frame judged -/

/-- What stands of the input once the works `done` of an input frame end have been taken from `s` (R112, R114). -/
structure InputJudged (s : State) (c : MarkContext) (done : List MarkWork) (u : State) : Prop where
  layers : u.layers = s.layers
  palPending : u.palPending = s.palPending
  waiting : .lockAndCapture ∉ done → u.vin = s.vin
  judged : .lockAndCapture ∈ done → u.vin = s.vin.judged c.good
  told : .lockAndCapture ∈ done → (s.vin.judged c.good).lock ≠ s.vin.lock → ∀ q, (u.port q).hasFlag .vinChange = true

theorem InputJudged.step {s u : State} {c : MarkContext} {done : List MarkWork} {k : MarkWork} (hk : k ∉ done)
    (h : InputJudged s c done u) : InputJudged s c (k :: done) (markWork c k u) := by
  cases k with
  | lockAndCapture =>
    have honly := u.lockAndCapture_only c.good c.frame c.phase c.sampled
    refine ⟨?_, ?_, fun hn => absurd List.mem_cons_self hn, fun _ => ?_, fun _ hmove q => ?_⟩
    · rw [← h.layers, markWork, honly, State.lockStep_eq]
    · rw [← h.palPending, markWork, honly, State.lockStep_eq]
    · rw [markWork, State.vin_lockAndCapture, h.waiting hk]
    · rw [← h.waiting hk] at hmove
      exact (u.lockAndCapture_flags c.good c.frame c.phase c.sampled).hasFlag nofun (State.hasFlag_lockStep hmove q)
  | timer t =>
    have hmem : MarkWork.lockAndCapture ∈ MarkWork.timer t :: done ↔ .lockAndCapture ∈ done := by simp
    obtain ⟨honly, hflags⟩ : OnlyTimers u (markWork c (.timer t) u) ∧ FlagsStay u (markWork c (.timer t) u) := by
      unfold markWork
      dsimp only
      split
      · exact ⟨u.timerMarkWork_onlyTimers t, .timerMarkWork u t⟩
      · exact ⟨rfl, .refl u⟩
    have hvin : (markWork c (.timer t) u).vin = u.vin := by rw [honly]
    refine ⟨?_, ?_, fun hn => ?_, fun hn => ?_, fun hn hmove q => ?_⟩
    · rw [← h.layers, honly]
    · rw [← h.palPending, honly]
    · exact hvin.trans (h.waiting (mt hmem.mpr hn))
    · exact hvin.trans (h.judged (hmem.mp hn))
    · exact hflags.hasFlag nofun (h.told (hmem.mp hn) hmove q)

/-- The input's record once the frame just ended has been stored or discarded and the next has begun (R115). -/
def TrailerInput.stored (v : TrailerInput) (good : Bool) (lines : List (List Half)) : TrailerInput :=
  { v with receiving := some (freshFrame v), ready := storedReady v good lines }

/-- An input frame end of the frame in reception: the record judged, in whatever order the blocks take it (R111 to R115). -/
theorem State.frameEnd_judged (s : State) (r : ReceivingFrame) (lines : List (List Half)) (order : List MarkWork) :
    let good := goodFrame s.vin r lines
    let t := s.frameEnd r lines order
    t.layers = s.layers ∧ t.palPending = s.palPending ∧ t.vin = (s.vin.stored good lines).judged good
      ∧ (((s.vin.stored good lines).judged good).lock ≠ s.vin.lock →
        ∀ q, (t.port q).hasFlag .vinChange = true) := by
  obtain ⟨done, hall, h⟩ := State.frameEnd_of_steps (P := InputJudged (s.storeFrame (goodFrame s.vin r lines) lines)
    (markContext s r lines)) (fun _ _ _ => InputJudged.step) order
    ⟨rfl, rfl, fun _ => rfl, fun h => absurd h List.not_mem_nil, fun h => absurd h List.not_mem_nil⟩
  exact ⟨h.layers, h.palPending, h.judged (hall _), h.told (hall _)⟩

section
variable {v : TrailerInput}

theorem TrailerInput.judged_early_good (h : v.lock = .acquiring) (hn : v.goodCount < 2) :
    v.judged true = { v with silence := 0, lock := .acquiring, goodCount := v.goodCount + 1 } := by
  unfold TrailerInput.judged; rw [h]
  exact if_pos (Nat.succ_lt_succ hn)

theorem TrailerInput.judged_third_good (h : v.lock = .acquiring) (hn : 2 ≤ v.goodCount) :
    v.judged true = { v with silence := 0, lock := .locked, goodCount := 3 } := by
  unfold TrailerInput.judged; rw [h]
  exact if_neg (Nat.not_lt.mpr (Nat.succ_le_succ hn))

theorem TrailerInput.judged_acquiring_bad (h : v.lock = .acquiring) :
    v.judged false = { v with silence := 0, lock := .acquiring, goodCount := 0 } := by unfold TrailerInput.judged; rw [h]

theorem TrailerInput.judged_locked_good (h : v.lock = .locked) :
    v.judged true = { v with silence := 0, lock := .locked, badRun := 0 } := by unfold TrailerInput.judged; rw [h]

theorem TrailerInput.judged_first_bad (h : v.lock = .locked) (hn : v.badRun = 0) :
    v.judged false = { v with silence := 0, lock := .locked, badRun := 1 } := by
  unfold TrailerInput.judged; rw [h]
  rw [hn]
  rfl

theorem TrailerInput.judged_second_bad (h : v.lock = .locked) (hn : 1 ≤ v.badRun) :
    v.judged false = { v with silence := 0, lock := .lost, badRun := 0 } := by
  unfold TrailerInput.judged; rw [h]
  exact if_neg (Nat.not_lt.mpr (Nat.succ_le_succ hn))

theorem TrailerInput.judged_lost_good (h : v.lock = .lost) :
    v.judged true = { v with silence := 0, lock := .acquiring, goodCount := 1 } := by unfold TrailerInput.judged; rw [h]

theorem TrailerInput.judged_lost_bad (h : v.lock = .lost) : v.judged false = { v with silence := 0, lock := .lost } := by
  unfold TrailerInput.judged; rw [h]

end

/-- Settles O44: after the input store `lockAndCapture` alone moves the record, and the timers leave it. -/
theorem frameMarksJudgeTheFrame : Obligations.FrameMarksJudgeTheFrame := by
  refine ⟨⟨⟨rfl, busLines_blank, fun a line => ⟨busLines_line a line, busLines_line_blank a line⟩⟩, fun lines =>
    ⟨?_, fun j line hj hline => ?_⟩⟩, fun s => ⟨fun hl hr => ?_, fun hl => ⟨?_, fun bus order => ?_⟩⟩,
    fun bus order r s hl hr => ?_⟩
  · rw [storedLines, List.length_map, List.length_take]
  · obtain ⟨row, hrow, hlen, hpixels⟩ := storedLines_spec lines hj hline
    refine ⟨row, hrow, hlen, fun k hk hlt => ?_⟩
    rw [hpixels k hk hlt, getElem?_lineColours line hlt, clampColour_eq]
    dsimp only
    by_cases hpair : 2 * (k / 2) + 1 < line.length
    · rw [if_pos hpair, if_pos hpair]
      rfl
    · rw [if_neg hpair, if_neg hpair]
      rfl
  · exact ⟨s.firstMark, congrArg Host.Outcome.next (if_pos ⟨hl, hr⟩), rfl, rfl⟩
  · exact congrArg Host.Outcome.next (if_neg fun h => h.1 hl)
  · exact congrArg Host.Outcome.next (if_pos hl)
  · obtain ⟨hlayers, hpal, hvin, hflags⟩ := s.frameEnd_judged r (busLines bus) order
    refine ⟨_, exec_inputFrameEnd hl hr, hlayers, hpal, fun hgood => ?_, fun hbad => ?_⟩
    · have hg := (goodFrame_iff s.vin r (busLines bus)).mpr hgood
      rw [hg] at hvin hflags
      refine ⟨fun hlock hn => ?_, fun hlock hn => ?_, fun hlock => ?_, fun hlock => ?_⟩
      · exact hvin.trans (TrailerInput.judged_early_good hlock hn)
      · rw [TrailerInput.judged_third_good (v := s.vin.stored true _) hlock hn] at hvin hflags
        exact ⟨hvin, hflags (by rw [hlock]; nofun)⟩
      · exact hvin.trans (TrailerInput.judged_locked_good hlock)
      · rw [TrailerInput.judged_lost_good (v := s.vin.stored true _) hlock] at hvin hflags
        exact ⟨hvin, hflags (by rw [hlock]; nofun)⟩
    · have hg : goodFrame s.vin r (busLines bus) = false :=
        Bool.eq_false_iff.mpr (mt (goodFrame_iff s.vin r (busLines bus)).mp hbad)
      rw [hg] at hvin hflags
      refine ⟨fun hlock => ?_, fun hlock hn => ?_, fun hlock hn => ?_, fun hlock => ?_⟩
      · exact hvin.trans (TrailerInput.judged_acquiring_bad hlock)
      · exact hvin.trans (TrailerInput.judged_first_bad hlock hn)
      · rw [TrailerInput.judged_second_bad (v := s.vin.stored false _) hlock hn] at hvin hflags
        exact ⟨hvin, hflags (by rw [hlock]; nofun)⟩
      · exact hvin.trans (TrailerInput.judged_lost_bad hlock)

end Sys2Proof.Machine
end

section
/-! PROOFS. The rows SILENCE_LIMIT, MONITOR_EXPIRY and TIMER_EXPIRY: a count's due step as a step of its own (R113, R148 to
R150, R158, R159). -/

namespace Sys2Proof.Machine

/-! ### Flags raised and flags left -/

theorem flagBit_and_of_ne {f g : EventFlag} (h : g ≠ f) : flagBit g &&& flagBit f = 0#9 := by
  cases f <;> cases g <;> simp [flagBit] at h ⊢

/-- Bits of other flags leave a flag as it is. -/
theorem PortState.hasFlag_of_other {x y : PortState} {f : EventFlag} {more : BitVec 9} (hf : f ≠ .result)
    (hmore : more &&& flagBit f = 0#9) (hy : y.sticky = x.sticky ||| more) : y.hasFlag f = x.hasFlag f := by
  rw [PortState.hasFlag_eq _ hf, PortState.hasFlag_eq _ hf, hy, BitVec.and_or_distrib_right, hmore, BitVec.or_zero]

/-- From `s` to `t` flag `f` stays as it is at every port. -/
def FlagKept (f : EventFlag) (s t : State) : Prop := ∀ q, (t.port q).hasFlag f = (s.port q).hasFlag f

theorem FlagKept.of_ports {f : EventFlag} {s t : State} (h : t.ports = s.ports) : FlagKept f s t :=
  fun q => by rw [State.port, h]; rfl

theorem FlagKept.refl (f : EventFlag) (s : State) : FlagKept f s s := fun _ => rfl

theorem FlagKept.trans {f : EventFlag} {s t u : State} (h : FlagKept f s t) (k : FlagKept f t u) : FlagKept f s u :=
  fun q => (k q).trans (h q)

theorem FlagKept.foldl {α : Type} {f : EventFlag} (g : State → α → State) (h : ∀ s a, FlagKept f s (g s a)) (as : List α)
    (s : State) : FlagKept f s (as.foldl g s) := by
  induction as generalizing s with
  | nil => exact .refl f s
  | cons a rest ih => exact (h s a).trans (ih (g s a))

theorem FlagKept.raise {f g : EventFlag} (hf : f ≠ .result) (h : g ≠ f) (s : State) (p : Port) :
    FlagKept f s (s.raise p g) := fun q => by
  by_cases hq : q = p
  · subst hq
    exact PortState.hasFlag_of_other hf (flagBit_and_of_ne h) (by rw [State.port_raise])
  · rw [State.port_raise_ne _ _ _ _ hq]

theorem FlagKept.raiseAt {f g : EventFlag} (hf : f ≠ .result) (h : g ≠ f) (s : State) (p : Option Port) :
    FlagKept f s (s.raiseAt p g) := by
  cases p with
  | none => exact .refl f s
  | some p => exact .raise hf h s p

/-- A port told of requests that ended has CAP_ABORT alone more than before. -/
theorem PortState.hasFlag_told_eq (x : PortState) {f : EventFlag} (hf : f ≠ .result) (ha : f ≠ .capAbort) (q : Port)
    (rs : List CaptureRequest) (o : OutcomeCode) : (x.told q rs o).hasFlag f = x.hasFlag f := by
  by_cases hown : rs.filter (fun r => r.requester = q) = []
  · exact PortState.hasFlag_of_other hf (more := 0) BitVec.zero_and ((if_pos hown).trans BitVec.or_zero.symm)
  · exact PortState.hasFlag_of_other hf (flagBit_and_of_ne (g := .capAbort) (Ne.symm ha)) (if_neg hown)

theorem Tells.flagKept {rs : List CaptureRequest} {o : OutcomeCode} {s t : State} (h : Tells rs o s t) {f : EventFlag}
    (hf : f ≠ .result) (ha : f ≠ .capAbort) : FlagKept f s t := fun q => by
  rw [h.ports, PortState.hasFlag_told_eq _ hf ha]

/-! ### SILENCE_LIMIT -/

theorem State.port_lockLost (s : State) (q : Port) :
    s.lockLost.port q = { s.port q with sticky := (s.port q).sticky ||| 0x080 } := State.port_raiseAll _ _ q

/-- The lock lost while a request is in SETTLE or SAMPLE (R134, R135). -/
theorem State.silenceWork_of_cut {s : State} {r : CaptureRequest} (h : s.lapses) (ha : s.cap.active = some r)
    (hp : s.cap.phase = .settle ∨ s.cap.phase = .sample) :
    s.silenceWork.cap = ⟨s.cap.queue, none, .recover, s.cap.settleCount, .none, .empty⟩
      ∧ (∀ q, s.silenceWork.port q =
        PortState.told { s.port q with sticky := (s.port q).sticky ||| 0x080 } q [r] .noInput)
      ∧ ∀ i, s.silenceWork.slot i = (s.slot i).unnamed i [r] := by
  obtain ⟨hports, hslots, hcap⟩ := State.abortActive_told (s := s.lockLost) ha (o := .noInput) nofun
  rw [State.silenceWork_of_lapses h, if_pos hp]
  exact ⟨hcap, fun q => by rw [hports, State.port_lockLost], hslots⟩

/-- The lock lost with no request to abort. -/
theorem State.silenceWork_of_uncut {s : State} (h : s.lapses)
    (hp : s.cap.active = none ∨ s.cap.phase ≠ .settle ∧ s.cap.phase ≠ .sample) : s.silenceWork = s.lockLost := by
  rw [State.silenceWork_of_lapses h]
  split
  · rename_i hcut
    rcases hp with hp | hp
    · exact State.abortActive_of_none (s := s.lockLost) hp _
    · exact absurd hcut (not_or.mpr hp)
  · rfl

theorem exec_silenceLimit {s : State} (hr : s.resetPin = false) (h : s.lapses) (hn : FrameWork.silence ∉ s.frameTaken) :
    exec .silenceLimit s = .next (s.takeFrameWork .silence) := by
  obtain ⟨hl, h7⟩ := h
  exact congrArg Host.Outcome.next (if_pos ⟨hr, hl, Nat.succ_le_succ h7, hn⟩)

theorem exec_silenceLimit_of_not {s : State} (h : s.vin.lock ≠ .locked ∨ s.vin.silence < 7) :
    exec .silenceLimit s = .next s := by
  refine congrArg Host.Outcome.next (if_neg fun hn => ?_)
  obtain ⟨_, hl, h7, _⟩ := hn
  simp only [Config.silenceMax] at h7
  rcases h with h | h
  · exact h hl
  · omega

/-! ### MONITOR_EXPIRY -/

theorem exec_monitorExpiry {l : Fin 8} {s : State} (hr : s.resetPin = false) (hm : (s.monitor l).running = true)
    (hc : (s.monitor l).remaining ≤ 1) (hn : FrameWork.monitor l ∉ s.frameTaken) : exec (.monitorExpiry l) s =
      .next { s.expireMonitor l with frameTaken := (s.expireMonitor l).frameTaken ++ [.monitor l] } := by
  have hwork : s.monitorWork l = s.expireMonitor l := by
    unfold State.monitorWork
    dsimp only
    rw [if_neg (by rw [hm]; nofun), if_pos hc]
  rw [← hwork]
  refine congrArg Host.Outcome.next (if_neg ?_)
  rintro (h | h | h | h)
  · exact absurd (hr.symm.trans h) nofun
  · exact absurd (hm.symm.trans h) nofun
  · omega
  · exact hn h

theorem exec_monitorExpiry_of_not {l : Fin 8} {s : State}
    (h : (s.monitor l).running = false ∨ 1 < (s.monitor l).remaining) : exec (.monitorExpiry l) s = .next s :=
  congrArg Host.Outcome.next (if_pos (h.elim (fun h => .inr (.inl h)) fun h => .inr (.inr (.inl h))))

section
variable (s : State) (l : Fin 8)

theorem State.expireMonitor_only : s.expireMonitor l = { s with
    layers := (s.expireMonitor l).layers, ports := (s.expireMonitor l).ports, monitors := (s.expireMonitor l).monitors } := by
  unfold State.expireMonitor
  dsimp only
  rw [State.raiseAt_eq, State.raiseAt_eq]
  rfl

theorem State.monitor_expireMonitor_self :
    (s.expireMonitor l).monitor l = { s.monitor l with remaining := (s.monitor l).period } :=
  State.monitor_setMonitor _ _ _

theorem State.layer_expireMonitor : (s.expireMonitor l).layer l = (s.layer l).expire (s.monitor l).action := by
  unfold State.expireMonitor
  dsimp only
  rw [State.setMonitor_get_layer, State.raiseAt_eq, State.raiseAt_eq]
  exact State.layer_setLayer _ _ _

/-- The owner that an expiry tells (R159). -/
theorem Layer.notified_eq_some {x : Layer} {q : Port} : x.notified = some q ↔ x.binding ≠ .unbound ∧ x.owner = some q := by
  unfold Layer.notified
  cases x.binding <;> simp

theorem State.hasFlag_raiseAt (p : Option Port) {f : EventFlag} (hf : f ≠ .result) (q : Port) :
    ((s.raiseAt p f).port q).hasFlag f = true ↔ (s.port q).hasFlag f = true ∨ p = some q := by
  cases p with
  | none => simp [State.raiseAt]
  | some p =>
    by_cases hq : q = p
    · subst hq
      exact iff_of_true (State.hasFlag_raise s q hf) (.inr rfl)
    · rw [State.raiseAt, State.port_raise_ne _ _ _ _ hq]
      simp [Ne.symm hq]

/-- The layer expired, before the ports are told (R159). -/
def State.withExpiry : State := s.setLayer l ((s.layer l).expire (s.monitor l).action)

theorem State.port_withExpiry (q : Port) : (s.withExpiry l).port q = s.port q := rfl

theorem State.port_expireMonitor (q : Port) : (s.expireMonitor l).port q =
    (((s.withExpiry l).raiseAt (s.layer l).notified .expired).raiseAt (s.monitor l).lockingPort .expired).port q := rfl

/-- Which ports an expiry tells (R159). -/
theorem State.hasFlag_expireMonitor (q : Port) : ((s.expireMonitor l).port q).hasFlag .expired = true ↔
    (s.port q).hasFlag .expired = true
      ∨ ((s.layer l).binding ≠ .unbound ∧ (s.layer l).owner = some q) ∨ (s.monitor l).lockingPort = some q := by
  rw [State.port_expireMonitor, State.hasFlag_raiseAt (f := .expired) _ _ nofun,
    State.hasFlag_raiseAt (f := .expired) _ _ nofun, State.port_withExpiry, Layer.notified_eq_some, or_assoc]

end

/-- A committed record waits no longer to clear the condition that HIDE or FALLBACK has set (R22). -/
theorem Layer.staged_expire {x : Layer} {r : PendingRecord} {a : MonitorAction} (hs : x.staged = some r)
    (hc : r.committed = true) (ha : a ≠ .hold) : (x.expire a).staged = some { r with clearsExpiry := false } := by
  cases a with
  | hold => exact absurd rfl ha
  | hide | fallback => simp [Layer.expire, stagedAfterExpiry, hs, hc]

/-! ### TIMER_EXPIRY -/

/-- Whether the timer's next source event of kind `src` expires it (R148). -/
def FrameTimer.ExpiresAt (m : FrameTimer) (src : TimerSource) : Prop :=
  m.CountsAt src ∧ m.prescaler ≤ m.prescaleCount + 1 ∧ m.count ≤ 1

theorem lastCount_iff (m : FrameTimer) : lastCount m = true ↔
    m.running = true ∧ m.mode ≠ .measure ∧ m.prescaler ≤ m.prescaleCount + 1 ∧ m.count ≤ 1 := by
  simp [lastCount, prescaleFull, and_assoc]

theorem exec_timerExpiry {i : Fin 4} {s : State} (hr : s.resetPin = false) (h : (s.timer i).ExpiresAt .ofs)
    (hn : FrameWork.timer i ∉ s.frameTaken) : exec (.timerExpiry i) s =
      .next { s.countTimer i false with frameTaken := (s.countTimer i false).frameTaken ++ [.timer i] } := by
  obtain ⟨⟨hrun, hm, hs⟩, hp, hc⟩ := h
  refine congrArg Host.Outcome.next (if_neg ?_)
  rintro (h | h | h | h)
  · exact absurd (hr.symm.trans h) nofun
  · exact absurd (((lastCount_iff _).mpr ⟨hrun, hm, hp, hc⟩).symm.trans h) nofun
  · exact absurd (hs.symm.trans h) nofun
  · exact hn h

theorem exec_timerExpiry_of_not {i : Fin 4} {s : State} (h : ¬ ((s.timer i).running = true ∧ (s.timer i).mode ≠ .measure
    ∧ (s.timer i).prescaler ≤ (s.timer i).prescaleCount + 1 ∧ (s.timer i).count ≤ 1) ∨ (s.timer i).source = .ife) :
    exec (.timerExpiry i) s = .next s := by
  refine congrArg Host.Outcome.next (if_pos ?_)
  rcases h with h | h
  · exact .inr (.inl (Bool.eq_false_iff.mpr (mt (lastCount_iff _).mp h)))
  · exact .inr (.inr (.inl h))

/-- A timer at its last count, which has run out. -/
def State.runOut (s : State) (t : Fin 4) : State :=
  s.setTimer t { s.timer t with prescaleCount := 0, count := (s.timer t).count - 1 }

theorem State.timer_runOut (s : State) (t : Fin 4) :
    (s.runOut t).timer t = { s.timer t with prescaleCount := 0, count := (s.timer t).count - 1 } :=
  State.timer_setTimer _ _ _

theorem State.countTimer_of_last {s : State} {t : Fin 4} (hp : (s.timer t).prescaler ≤ (s.timer t).prescaleCount + 1)
    (hn : (s.timer t).count ≤ 1) (atMark : Bool) : s.countTimer t atMark = (s.runOut t).expireTimer t atMark := by
  rw [State.countTimer, if_pos (by simpa [prescaleFull] using hp)]
  exact if_pos hn

/-- A state after an expiry whose trigger, if there is one, has left `v` (R149). -/
def State.expiredIn (v : State) (t : Fin 4) : State :=
  (v.raiseAt (v.timer t).holder .timer).setTimer t ((v.timer t).expired (v.timer t).templateIndex)

theorem State.expireTimer_eq (s : State) (t : Fin 4) (atMark : Bool) : s.expireTimer t atMark =
    (if (s.timer t).action = .capture then s.trigger t atMark else s).expiredIn t := by
  unfold State.expireTimer State.expiredIn
  dsimp only
  rw [State.raiseAt_eq]
  rfl

theorem State.expiredIn_eq (v : State) (t : Fin 4) :
    v.expiredIn t = { v with ports := (v.expiredIn t).ports, timers := (v.expiredIn t).timers } := by
  unfold State.expiredIn
  rw [State.raiseAt_eq]
  rfl

theorem State.timer_expiredIn (v : State) (t : Fin 4) :
    (v.expiredIn t).timer t = (v.timer t).expired (v.timer t).templateIndex := State.timer_setTimer _ _ _

theorem State.timer_expiredIn_ne (v : State) (t j : Fin 4) (h : j ≠ t) : (v.expiredIn t).timer j = v.timer j := by
  rw [State.expiredIn, State.timer_setTimer_ne _ _ _ _ h, State.raiseAt_eq]
  rfl

theorem State.port_expiredIn {v : State} {t : Fin 4} {p : Port} (h : (v.timer t).holder = some p) (q : Port) :
    (v.expiredIn t).port q = (v.raise p .timer).port q := by
  unfold State.expiredIn
  rw [h]
  rfl

/-- After the expiry of a timer that ran, nothing of its record has moved but its count, its prescale count, its running
bit and its place (R149). -/
theorem FrameTimer.expired_of_runOut {m n : FrameTimer} {src : TimerSource} (h : m.CountsAt src) {index : Nat}
    (hn : n = { m with prescaleCount := 0, count := m.count - 1, templateIndex := index }) :
    n.expired n.templateIndex = { m with
      count := m.reload, prescaleCount := 0, running := decide (m.mode = .free), templateIndex := index } := by
  obtain ⟨hr, hm, _⟩ := h
  rw [hn]
  exact (FrameTimer.expired_eq hr hm index)

/-- An EVENT timer's expiry (R149). -/
theorem State.countTimer_of_event {s : State} {i : Fin 4} (h : (s.timer i).ExpiresAt .ofs)
    (ha : (s.timer i).action = .event) (atMark : Bool) : s.countTimer i atMark = (s.runOut i).expiredIn i := by
  obtain ⟨_, hp, hn⟩ := h
  rw [State.countTimer_of_last hp hn, State.expireTimer_eq, State.timer_runOut, if_neg (by rw [ha]; nofun)]

/-- A CAPTURE timer's expiry, with what its trigger has left (R149). -/
theorem State.countTimer_of_capture {s v : State} {i : Fin 4} (h : (s.timer i).ExpiresAt .ofs)
    (ha : (s.timer i).action = .capture) {atMark : Bool} (hv : (s.runOut i).trigger i atMark = v) :
    s.countTimer i atMark = v.expiredIn i := by
  obtain ⟨_, hp, hn⟩ := h
  rw [State.countTimer_of_last hp hn, State.expireTimer_eq, State.timer_runOut, if_pos ha, hv]

/-! ### Capture triggers (R150) -/

section
variable {s : State} {i : Fin 4} {p : Port} {k : Template} {slot : Fin 64}

theorem triggerAdmits_iff (s : State) (p : Port) (c : Crop) (slot : Fin 64) : triggerAdmits s p c slot = true ↔
    c.x + c.w ≤ s.vin.width ∧ c.y + c.h ≤ s.vin.height
      ∧ (s.slot slot).owner = some p ∧ ((s.slot slot).state = .empty ∨ (s.slot slot).state = .ready)
      ∧ (s.slot slot).captureFlag = false ∧ s.cap.queue.length < 4 ∧ s.outstanding p < 5 := by
  simp [triggerAdmits, Crop.fits, and_assoc, Config.captureQueueMax, Config.outstandingMax]

/-- The request of a trigger (R150). -/
def triggerRequest (p : Port) (i : Fin 4) (k : Template) (slot : Fin 64) : CaptureRequest :=
  ⟨p, 0, slot, k.crop, .timer i⟩

theorem slotAt_of_eq {n : Nat} (h : slot.val = n) : slotAt n = some slot := by
  subst h
  simp [slotAt, slot.isLt]

variable (hh : (s.timer i).holder = some p) (hk : (s.timer i).template = some k)
  (hslot : slot.val = k.first + (s.timer i).templateIndex)
include hh hk

theorem State.trigger_ignored (h : s.vin.captureEnabled = false ∨ s.vin.lock = .off) (atMark : Bool) :
    s.trigger i atMark = s := by
  unfold State.trigger
  dsimp only
  rw [hh, hk]
  exact if_pos h

include hslot

theorem State.trigger_missed (h : ¬ (s.vin.captureEnabled = false ∨ s.vin.lock = .off))
    (ha : triggerAdmits s p k.crop slot ≠ true) (atMark : Bool) : s.trigger i atMark = s.raise p .trigMiss := by
  unfold State.trigger
  dsimp only
  rw [hh, hk]
  dsimp only
  rw [if_neg h, slotAt_of_eq hslot]
  exact if_neg ha

theorem State.trigger_accepted (h : ¬ (s.vin.captureEnabled = false ∨ s.vin.lock = .off))
    (ha : triggerAdmits s p k.crop slot = true) (atMark : Bool) : s.trigger i atMark =
      (s.acceptRequest (triggerRequest p i k slot) atMark).setTimer i
        { s.timer i with templateIndex := nextIndex k (s.timer i).templateIndex } := by
  unfold State.trigger
  dsimp only
  rw [hh, hk]
  dsimp only
  rw [if_neg h, slotAt_of_eq hslot]
  exact if_pos ha

end

end Sys2Proof.Machine
end

section
/-! PROOFS. An accepted capture trigger: the queue it joins, and the queue considered (R129, R150). -/

namespace Sys2Proof.Machine

/-- Every queue has a first request that fits, or none (R129). -/
theorem exists_FirstFit (v : TrailerInput) (queue : List CaptureRequest) : ∃ dead rest, FirstFit v queue dead rest := by
  obtain ⟨dead, rest, hqueue, hdead, hrest⟩ := exists_firstFit v queue
  exact ⟨dead, rest, hqueue, fun d hd => by rw [d.within_iff, hdead d hd]; nofun,
    fun b hb => (b.within_iff v).mpr (hrest b hb)⟩

/-- A request that fits joins the tail. -/
theorem FirstFit.append {v : TrailerInput} {queue dead rest : List CaptureRequest} (h : FirstFit v queue dead rest)
    {r : CaptureRequest} (hr : r.within v) : FirstFit v (queue ++ [r]) dead (rest ++ [r]) := by
  obtain ⟨hqueue, hdead, hrest⟩ := h
  refine ⟨by rw [hqueue, List.append_assoc], hdead, fun b hb => ?_⟩
  cases rest with
  | nil =>
    obtain rfl : r = b := by simpa using hb
    exact hr
  | cons a rest => exact hrest b hb

/-- What serves the queue replaces it. -/
theorem CaptureUnit.served_queue (c : CaptureUnit) (queue : List CaptureRequest) (settle : Nat) (sampled : Sampled)
    (rest : List CaptureRequest) :
    CaptureUnit.served { c with queue := queue } settle sampled rest = c.served settle sampled rest := by
  cases rest <;> rfl

section
variable {s : State} {r : CaptureRequest}

theorem State.acceptRequest_waits (h : s.cap.phase ≠ .idle ∨ s.vin.lock ≠ .locked) :
    s.acceptRequest r false = s.enqueue r := by
  rw [State.acceptRequest_eq, State.activate_of_not]
  rintro ⟨hp, hl⟩
  exact h.elim (fun h => h hp) fun h => h hl

/-- A request that fits, accepted in IDLE and LOCKED (R129). -/
theorem State.acceptRequest_served {dead rest : List CaptureRequest} (hr : r.within s.vin) (hp : s.cap.phase = .idle)
    (hl : s.vin.lock = .locked) (hq : FirstFit s.vin s.cap.queue dead rest) :
    (∀ q, (s.acceptRequest r false).port q = (s.port q).told q dead .badArg)
      ∧ (∀ i, (s.acceptRequest r false).slot i =
        (if i = r.slot then { s.slot i with captureFlag := true } else s.slot i).unnamed i dead)
      ∧ (s.acceptRequest r false).cap = s.cap.served s.vin.settle .awaited (rest ++ [r]) := by
  obtain ⟨hports, hslots, hcap⟩ := State.activate_served (s := s.enqueue r) hp hl (hq.append hr)
  refine ⟨hports, fun i => ?_, hcap.trans (CaptureUnit.served_queue _ _ _ _ _)⟩
  rw [State.acceptRequest_eq, hslots, State.slot_enqueue]

/-- The flag of a request's slot stays set when the queue is considered: no other request names the slot (R120). -/
theorem State.flag_acceptRequest (hr : r.within s.vin) (hfree : ∀ d ∈ s.cap.queue, d.slot ≠ r.slot) :
    ((s.acceptRequest r false).slot r.slot).captureFlag = true := by
  by_cases h : s.cap.phase = .idle ∧ s.vin.lock = .locked
  · obtain ⟨dead, rest, hq⟩ := exists_FirstFit s.vin s.cap.queue
    obtain ⟨_, hslots, _⟩ := State.acceptRequest_served hr h.1 h.2 hq
    rw [hslots, if_pos rfl, Slot.unnamed, if_neg]
    rintro ⟨d, hd, he⟩
    exact hfree d (hq.1 ▸ List.mem_append_left rest hd) he
  · rw [State.acceptRequest_waits (not_and_or.mp h), State.slot_enqueue, if_pos rfl]

/-- A slot whose flag is clear is named by no request (R120). -/
theorem CaptureOk.unnamed_of_clear (h : CaptureOk s) {i : Fin 64} (hi : (s.slot i).captureFlag = false) :
    ∀ d ∈ s.cap.queue, d.slot ≠ i := fun d hd he => by
  obtain ⟨hreq, _⟩ := (captureOk_iff s).mp h
  have hset := (hreq.flag i).mpr ⟨d, List.mem_append_right _ hd, he⟩
  exact absurd (hi.symm.trans hset) nofun

end

/-! ### A CAPTURE timer's expiry -/

section
variable {v : State} {i : Fin 4} {p : Port}

theorem State.cap_expiredIn (v : State) (i : Fin 4) : (v.expiredIn i).cap = v.cap := by rw [State.expiredIn_eq]

theorem State.slots_expiredIn (v : State) (i : Fin 4) : (v.expiredIn i).slots = v.slots := by rw [State.expiredIn_eq]

theorem State.slot_expiredIn (v : State) (i : Fin 4) (j : Fin 64) : (v.expiredIn i).slot j = v.slot j := by
  rw [State.expiredIn_eq]
  rfl

theorem State.hasFlag_expiredIn (h : (v.timer i).holder = some p) : ((v.expiredIn i).port p).hasFlag .timer = true := by
  rw [State.port_expiredIn h]
  exact State.hasFlag_raise v p nofun

theorem State.trigMiss_expiredIn (h : (v.timer i).holder = some p) (q : Port) :
    ((v.expiredIn i).port q).hasFlag .trigMiss = (v.port q).hasFlag .trigMiss := by
  rw [State.port_expiredIn h]
  exact FlagKept.raise (f := .trigMiss) (g := .timer) nofun nofun v p q

end

/-- The state that an accepted trigger leaves (R150). -/
def State.triggered (s : State) (i : Fin 4) (p : Port) (k : Template) (slot : Fin 64) : State :=
  (s.acceptRequest (triggerRequest p i k slot) false).setTimer i
    { s.timer i with templateIndex := nextIndex k (s.timer i).templateIndex }

section
variable (s : State) (i : Fin 4) (p : Port) (k : Template) (slot : Fin 64)

theorem State.timer_triggered :
    (s.triggered i p k slot).timer i = { s.timer i with templateIndex := nextIndex k (s.timer i).templateIndex } :=
  State.timer_setTimer _ _ _

theorem State.slot_triggered (j : Fin 64) :
    (s.triggered i p k slot).slot j = (s.acceptRequest (triggerRequest p i k slot) false).slot j := by
  rw [State.triggered]
  rfl

theorem State.cap_triggered :
    (s.triggered i p k slot).cap = (s.acceptRequest (triggerRequest p i k slot) false).cap := rfl

/-- Timer `i` of port `p` expires at the next output frame start, and template `k` then names `slot` (R149, R150). -/
structure CaptureDue : Prop where
  expires : (s.timer i).ExpiresAt .ofs
  capture : (s.timer i).action = .capture
  holder : (s.timer i).holder = some p
  template : (s.timer i).template = some k
  slot : slot.val = k.first + (s.timer i).templateIndex

end

/-- A timer that has expired, at the place of its template where it was (R149). -/
def FrameTimer.rewound (m : FrameTimer) : FrameTimer :=
  { m with count := m.reload, prescaleCount := 0, running := decide (m.mode = .free) }

/-- Whether triggers are ignored: capture is disabled, or the input OFF (R150). -/
def State.ignoresTriggers (s : State) : Prop := s.vin.captureEnabled = false ∨ s.vin.lock = .off

section
variable {s : State} {i : Fin 4} {p : Port} {k : Template} {slot : Fin 64}

/-- The expiry, by what its trigger leaves. -/
theorem CaptureDue.countTimer (h : CaptureDue s i p k slot) {v : State} (hv : (s.runOut i).trigger i false = v) :
    s.countTimer i false = v.expiredIn i := State.countTimer_of_capture h.expires h.capture hv

theorem CaptureDue.holder_runOut (h : CaptureDue s i p k slot) : ((s.runOut i).timer i).holder = some p := by
  rw [State.timer_runOut]
  exact h.holder

theorem CaptureDue.template_runOut (h : CaptureDue s i p k slot) : ((s.runOut i).timer i).template = some k := by
  rw [State.timer_runOut]
  exact h.template

theorem CaptureDue.slot_runOut (h : CaptureDue s i p k slot) :
    slot.val = k.first + ((s.runOut i).timer i).templateIndex := by
  rw [State.timer_runOut]
  exact h.slot

/-- A trigger ignored (R150). -/
theorem CaptureDue.ignored (h : CaptureDue s i p k slot) (hoff : s.ignoresTriggers) :
    s.countTimer i false = (s.runOut i).expiredIn i :=
  h.countTimer (State.trigger_ignored h.holder_runOut h.template_runOut hoff false)

/-- A trigger missed (R150). -/
theorem CaptureDue.missed (h : CaptureDue s i p k slot) (hon : ¬ s.ignoresTriggers)
    (ha : triggerAdmits s p k.crop slot ≠ true) :
    s.countTimer i false = ((s.runOut i).raise p .trigMiss).expiredIn i :=
  h.countTimer (State.trigger_missed h.holder_runOut h.template_runOut h.slot_runOut hon ha false)

/-- A trigger accepted (R150). -/
theorem CaptureDue.accepted (h : CaptureDue s i p k slot) (hon : ¬ s.ignoresTriggers)
    (ha : triggerAdmits s p k.crop slot = true) :
    s.countTimer i false = ((s.runOut i).triggered i p k slot).expiredIn i :=
  h.countTimer (State.trigger_accepted h.holder_runOut h.template_runOut h.slot_runOut hon ha false)

/-- An expiry whose trigger is no request leaves the timer at its place, and the unit and the slots alone. -/
theorem CaptureDue.rewound {v : State} (h : CaptureDue s i p k slot)
    (hv : v = { s.runOut i with ports := v.ports }) :
    (v.expiredIn i).timer i = (s.timer i).rewound ∧ (v.expiredIn i).cap = s.cap ∧ (v.expiredIn i).slots = s.slots := by
  refine ⟨(v.timer_expiredIn i).trans (FrameTimer.expired_of_runOut h.expires.1 ?_), ?_, ?_⟩
  · rw [hv]
    exact s.timer_runOut i
  · rw [State.cap_expiredIn, hv]
    rfl
  · rw [State.slots_expiredIn, hv]
    rfl

theorem CaptureDue.trigger_ignored_told (h : CaptureDue s i p k slot) (hoff : s.ignoresTriggers) :
    ((s.countTimer i false).port p).hasFlag .trigMiss = (s.port p).hasFlag .trigMiss := by
  rw [h.ignored hoff]
  exact State.trigMiss_expiredIn h.holder_runOut p

theorem CaptureDue.trigger_missed_told (h : CaptureDue s i p k slot) (hon : ¬ s.ignoresTriggers)
    (ha : triggerAdmits s p k.crop slot ≠ true) : ((s.countTimer i false).port p).hasFlag .trigMiss = true := by
  rw [h.missed hon ha]
  have hholder : (((s.runOut i).raise p .trigMiss).timer i).holder = some p := h.holder_runOut
  exact (State.trigMiss_expiredIn hholder p).trans (State.hasFlag_raise (f := .trigMiss) (s.runOut i) p nofun)

theorem CaptureDue.timer_accepted (h : CaptureDue s i p k slot) (hon : ¬ s.ignoresTriggers)
    (ha : triggerAdmits s p k.crop slot = true) : (s.countTimer i false).timer i =
      { (s.timer i).rewound with templateIndex := nextIndex k (s.timer i).templateIndex } := by
  rw [h.accepted hon ha]
  refine (State.timer_expiredIn _ i).trans (FrameTimer.expired_of_runOut h.expires.1 ?_)
  rw [State.timer_triggered, State.timer_runOut]

theorem CaptureDue.slot_accepted (h : CaptureDue s i p k slot) (hon : ¬ s.ignoresTriggers)
    (ha : triggerAdmits s p k.crop slot = true) (j : Fin 64) : (s.countTimer i false).slot j =
      ((s.runOut i).acceptRequest (triggerRequest p i k slot) false).slot j := by
  rw [h.accepted hon ha, State.slot_expiredIn, State.slot_triggered]

theorem CaptureDue.cap_accepted (h : CaptureDue s i p k slot) (hon : ¬ s.ignoresTriggers)
    (ha : triggerAdmits s p k.crop slot = true) : (s.countTimer i false).cap =
      ((s.runOut i).acceptRequest (triggerRequest p i k slot) false).cap := by
  rw [h.accepted hon ha, State.cap_expiredIn, State.cap_triggered]

theorem CaptureDue.port_accepted (h : CaptureDue s i p k slot) (hon : ¬ s.ignoresTriggers)
    (ha : triggerAdmits s p k.crop slot = true) (q : Port) : (s.countTimer i false).port q =
      (((s.runOut i).acceptRequest (triggerRequest p i k slot) false).raise p .timer).port q := by
  have hholder : (((s.runOut i).triggered i p k slot).timer i).holder = some p := by
    rw [State.timer_triggered]
    exact h.holder_runOut
  rw [h.accepted hon ha, State.port_expiredIn hholder]
  rfl

end

end Sys2Proof.Machine
end

section
/-! PROOFS. VIN_CHANGE and EXPIRED at an output frame start: which works raise them, and which leave them (R114, R159). -/

namespace Sys2Proof.Machine

/-- The two flags that one kind of work alone raises at an output frame start: VIN_CHANGE and EXPIRED. -/
def Watched (f : EventFlag) : Prop := f = .vinChange ∨ f = .expired

section
variable {f : EventFlag} (hf : Watched f)
include hf

theorem Watched.ne_result : f ≠ .result := by rcases hf with rfl | rfl <;> nofun

theorem Watched.ne_capAbort : f ≠ .capAbort := by rcases hf with rfl | rfl <;> nofun

theorem Watched.raise {g : EventFlag} (h1 : g ≠ .vinChange) (h2 : g ≠ .expired) (s : State) (p : Port) :
    FlagKept f s (s.raise p g) := .raise hf.ne_result (by rcases hf with rfl | rfl <;> assumption) s p

theorem Watched.raiseAt {g : EventFlag} (h1 : g ≠ .vinChange) (h2 : g ≠ .expired) (s : State) (p : Option Port) :
    FlagKept f s (s.raiseAt p g) := .raiseAt hf.ne_result (by rcases hf with rfl | rfl <;> assumption) s p

/-! ### Scene, slots, promotion -/

theorem Watched.applyCommit (s : State) (l : Fin 8) : FlagKept f s (s.applyCommit l) := by
  by_cases h : (s.layer l).commits
  · rw [State.applyCommit_of_commits h]
    exact FlagKept.trans (t := (s.setLayer l (s.layer l).applied).dropRefs (s.layer l).live)
      (.of_ports (State.ports_dropRefs _ _)) (hf.raiseAt (g := .frame) nofun nofun _ _)
  · rw [State.applyCommit_of_not_commits h]
    exact .refl f s

omit hf in
/-- At the ports the Scene Table's work is that of the commits (R23). -/
theorem State.ports_sceneWork (s : State) : s.sceneWork.ports = ((List.finRange 8).foldl State.applyCommit s).ports := by
  have hcopy (s : State) : s.copyScene.ports = s.ports := rfl
  unfold State.sceneWork
  rw [foldl_keeps State.stepOpacity State.ports (fun _ _ => rfl), hcopy,
    foldl_keeps State.finishRelease State.ports State.ports_finishRelease]

theorem Watched.sceneWork (s : State) : FlagKept f s s.sceneWork := fun q => by
  rw [State.port, s.ports_sceneWork]
  exact FlagKept.foldl _ hf.applyCommit _ s q

theorem Watched.openSlot (s : State) (i : Fin 64) : FlagKept f s (s.openSlot i) := by
  unfold State.openSlot
  split
  · exact FlagKept.trans (t := s.setSlot i _) (.of_ports rfl) (hf.raiseAt (g := .frame) nofun nofun _ _)
  · exact .refl f s

/-! ### The Capture Unit and the timers -/

theorem Watched.activate (s : State) (atMark : Bool) : FlagKept f s (s.activate atMark) := by
  unfold State.activate
  split
  · obtain ⟨dead, rest, hqueue, hdead, hrest⟩ := exists_firstFit s.vin s.cap.queue
    obtain ⟨hports, hslots, _⟩ := activateFrom_told atMark dead rest s hdead hrest
    rw [hqueue]
    exact Tells.flagKept ⟨hports, hslots⟩ hf.ne_result hf.ne_capAbort
  · exact .refl f s

theorem Watched.pushReport (s : State) (p : Port) (r : CaptureReport) : FlagKept f s (s.pushReport p r) := by
  have hset : FlagKept f s (s.setPort p { s.port p with reports := (s.port p).reports ++ [r] }) := fun q => by
    by_cases hq : q = p
    · subst hq
      rw [State.port_setPort]
      rfl
    · rw [State.port_setPort_ne _ _ _ _ hq]
  unfold State.pushReport
  refine hset.trans ?_
  split
  · exact hf.raise (g := .capDone) nofun nofun _ p
  · exact hf.raise (g := .capAbort) nofun nofun _ p

theorem Watched.takeoverWork (s : State) : FlagKept f s s.takeoverWork := by
  unfold State.takeoverWork
  split
  · refine FlagKept.trans ?_ (hf.activate _ false)
    exact FlagKept.trans (.of_ports rfl) (hf.pushReport _ _ _)
  · exact .refl f s

theorem Watched.trigger (s : State) (t : Fin 4) (atMark : Bool) : FlagKept f s (s.trigger t atMark) := by
  rcases s.trigger_cases t atMark with h | ⟨p, h⟩ | ⟨r, k, _, _, _, h⟩
  · rw [h]
    exact .refl f s
  · rw [h]
    exact hf.raise (g := .trigMiss) nofun nofun s p
  · rw [h, State.acceptRequest_eq]
    exact FlagKept.trans (t := (s.enqueue r).activate atMark)
      (FlagKept.trans (t := s.enqueue r) (.of_ports rfl) (hf.activate _ atMark)) (.of_ports rfl)

theorem Watched.countTimer (s : State) (t : Fin 4) (atMark : Bool) : FlagKept f s (s.countTimer t atMark) := by
  have hexpire (u : State) : FlagKept f u (u.expireTimer t atMark) := by
    unfold State.expireTimer
    refine FlagKept.trans (FlagKept.trans ?_ (hf.raiseAt (g := .timer) nofun nofun _ _)) (.of_ports rfl)
    split
    · exact hf.trigger u t atMark
    · exact .refl f u
  unfold State.countTimer
  dsimp only
  split
  · split
    · exact FlagKept.trans (t := s.setTimer t _) (.of_ports rfl) (hexpire _)
    · exact .of_ports rfl
  · exact .of_ports rfl

theorem Watched.timerFrameWork (s : State) (t : Fin 4) : FlagKept f s (s.timerFrameWork t) := by
  unfold State.timerFrameWork
  dsimp only
  split
  · split
    · exact .of_ports rfl
    all_goals
      split
      · exact hf.countTimer s t false
      · exact .refl f s
  · exact .refl f s

end

/-! ### VIN_CHANGE -/

theorem State.ports_fallbackWork (s : State) : s.fallbackWork.ports = s.ports := by rw [State.fallbackWork_eq]

theorem State.ports_promotionWork (s : State) : s.promotionWork.ports = s.ports := by
  unfold State.promotionWork
  split
  · rfl
  · refine (foldl_keeps State.refreshMonitor State.ports (fun s l => ?_) _ _).trans rfl
    unfold State.refreshMonitor
    dsimp only
    split <;> rfl

theorem FlagKept.monitorWork (s : State) (l : Fin 8) : FlagKept .vinChange s (s.monitorWork l) := by
  unfold State.monitorWork
  dsimp only
  split
  · exact .refl _ s
  split
  · intro q
    rw [State.port_expireMonitor, FlagKept.raiseAt (f := .vinChange) (g := .expired) nofun nofun,
      FlagKept.raiseAt (f := .vinChange) (g := .expired) nofun nofun, State.port_withExpiry]
  · exact .of_ports rfl

theorem FlagKept.raiseAll {f g : EventFlag} (hf : f ≠ .result) (h : g ≠ f) (s : State) : FlagKept f s (s.raiseAll g) :=
  ((FlagKept.raise hf h s _).trans (.raise hf h _ _)).trans (.raise hf h _ _)

/-- Losing the lock raises VIN_CHANGE everywhere, and short of the limit the silence count raises nothing (R113, R114). -/
theorem State.vinChange_silenceWork (s : State) (q : Port) : (s.silenceWork.port q).hasFlag .vinChange = true ↔
    (s.port q).hasFlag .vinChange = true ∨ s.lapses := by
  by_cases h : s.lapses
  · have hlost : (s.lockLost.port q).hasFlag .vinChange = true :=
      PortState.hasFlag_of_bit (before := (s.port q).sticky) nofun (by rw [State.port_lockLost]; rfl)
    refine iff_of_true ?_ (.inr h)
    rw [State.silenceWork_of_lapses h]
    split
    · rw [(s.lockLost.abortActive_tells (o := .noInput) nofun).flagKept (f := .vinChange) nofun nofun q]
      exact hlost
    · exact hlost
  · obtain ⟨n, hn⟩ := State.silenceWork_of_not_lapses h
    rw [hn]
    exact ⟨.inl, fun hq => hq.resolve_right h⟩

/-- VIN_CHANGE is the silence count's flag alone at an output frame start. -/
theorem frameWork_vinChange (s : State) {k : FrameWork} (hk : k ≠ .silence) : FlagKept .vinChange s (frameWork k s) := by
  have hf : Watched .vinChange := .inl rfl
  cases k with
  | scene => exact hf.sceneWork s
  | slots => exact .foldl _ hf.openSlot _ s
  | fallback => exact .of_ports s.ports_fallbackWork
  | palette => exact .of_ports rfl
  | promotion => exact .of_ports s.ports_promotionWork
  | silence => exact absurd rfl hk
  | takeover => exact hf.takeoverWork s
  | monitor l => exact .monitorWork s l
  | timer t => exact hf.timerFrameWork s t

/-! ### EXPIRED -/

theorem FlagKept.silenceWork (s : State) : FlagKept .expired s s.silenceWork := by
  have hlost : FlagKept .expired s s.lockLost :=
    FlagKept.trans (t := s.setVin _) (.of_ports rfl) (.raiseAll (f := .expired) (g := .vinChange) nofun nofun _)
  by_cases h : s.lapses
  · rw [State.silenceWork_of_lapses h]
    split
    · exact hlost.trans ((s.lockLost.abortActive_tells (o := .noInput) nofun).flagKept nofun nofun)
    · exact hlost
  · obtain ⟨n, hn⟩ := State.silenceWork_of_not_lapses h
    rw [hn]
    exact .of_ports rfl

/-- EXPIRED is the monitors' flag alone at an output frame start. -/
theorem frameWork_expired (s : State) {k : FrameWork} (hk : ∀ l, k ≠ .monitor l) : FlagKept .expired s (frameWork k s) := by
  have hf : Watched .expired := .inr rfl
  cases k with
  | scene => exact hf.sceneWork s
  | slots => exact .foldl _ hf.openSlot _ s
  | fallback => exact .of_ports s.ports_fallbackWork
  | palette => exact .of_ports rfl
  | promotion => exact .of_ports s.ports_promotionWork
  | silence => exact .silenceWork s
  | takeover => exact hf.takeoverWork s
  | monitor l => exact absurd rfl (hk l)
  | timer t => exact hf.timerFrameWork s t

/-- Which ports a monitor's work tells (R158, R159). -/
theorem State.expired_monitorWork (s : State) (l : Fin 8) (q : Port) :
    ((s.monitorWork l).port q).hasFlag .expired = true ↔ (s.port q).hasFlag .expired = true
      ∨ ((s.monitor l).running = true ∧ (s.monitor l).remaining ≤ 1)
        ∧ (((s.layer l).binding ≠ .unbound ∧ (s.layer l).owner = some q) ∨ (s.monitor l).lockingPort = some q) := by
  unfold State.monitorWork
  dsimp only
  by_cases hr : (s.monitor l).running = true
  case neg => simp [hr]
  rw [if_neg (by rw [hr]; nofun)]
  by_cases hn : (s.monitor l).remaining ≤ 1
  · rw [if_pos hn, State.hasFlag_expireMonitor]
    simp [hr, hn]
  · rw [if_neg hn]
    simp only [hn, and_false, false_and, or_false]
    rfl

end Sys2Proof.Machine
end

section
/-! PROOFS. The input, the timers and the active request at an output frame start, in whatever order the blocks take their
work (R113, R114, R134, R135, R148, R149, R152). -/

namespace Sys2Proof.Machine

/-! ### What each work leaves -/

theorem State.takeoverWork_onlyCapture (s : State) : OnlyCapture s s.takeoverWork := by
  unfold State.takeoverWork
  split
  · refine OnlyCapture.trans ?_ (State.activate_only _ false)
    rfl
  · rfl

theorem State.timerFrameWork_onlyTimers (s : State) (t : Fin 4) : OnlyTimers s (s.timerFrameWork t) := by
  unfold State.timerFrameWork
  dsimp only
  split
  · split
    · rfl
    all_goals
      split
      · exact s.countTimer_onlyTimers t false
      · rfl
  · rfl

theorem State.timer_timerFrameWork_ne (s : State) (t i : Fin 4) (h : i ≠ t) : (s.timerFrameWork t).timer i = s.timer i := by
  obtain ⟨_, _, htimers⟩ := s.timers_timerFrameWork t
  rw [State.timer, htimers]
  exact State.timer_setTimer_ne _ _ _ _ h

/-- Every work but the silence count's leaves the input but for its frames. -/
theorem frameWork_vin (s : State) {k : FrameWork} (hk : k ≠ .silence) : (frameWork k s).vin =
    { s.vin with ready := (frameWork k s).vin.ready, shown := (frameWork k s).vin.shown } := by
  have hsame {t : State} (h : t.vin = s.vin) : t.vin = { s.vin with ready := t.vin.ready, shown := t.vin.shown } := by
    rw [h]
  cases k with
  | takeover =>
    have honly := s.takeoverWork_onlyCapture
    exact hsame (by rw [frameWork, honly])
  | timer t =>
    have honly := s.timerFrameWork_onlyTimers t
    exact hsame (by rw [frameWork, honly])
  | silence => exact absurd rfl hk
  | _ => exact (Quiet.frameWork s (by nofun) (by nofun) (by nofun)).vin

/-- A timer's work alone moves its record. -/
theorem frameWork_timer (s : State) {k : FrameWork} (i : Fin 4) (hk : k ≠ .timer i) : (frameWork k s).timer i = s.timer i := by
  cases k with
  | takeover =>
    have honly := s.takeoverWork_onlyCapture
    rw [frameWork, honly]
    rfl
  | timer t => exact s.timer_timerFrameWork_ne t i fun e => hk (by rw [e])
  | silence =>
    rw [frameWork, State.silenceWork_eq]
    rfl
  | _ => exact (Quiet.frameWork s (by nofun) (by nofun) (by nofun)).timers i nofun

theorem FlagsStay.raise (s : State) (p : Port) (f : EventFlag) : FlagsStay s (s.raise p f) := fun q => by
  by_cases hq : q = p
  · subst hq
    exact ⟨_, by rw [State.port_raise]⟩
  · exact ⟨0#9, by rw [State.port_raise_ne _ _ _ _ hq, BitVec.or_zero]⟩

theorem FlagsStay.pushReport (s : State) (p : Port) (r : CaptureReport) : FlagsStay s (s.pushReport p r) := by
  refine FlagsStay.trans (t := s.setPort p { s.port p with reports := (s.port p).reports ++ [r] }) (fun q => ?_)
    (.raise _ p _)
  by_cases hq : q = p
  · subst hq
    exact ⟨0#9, by rw [State.port_setPort, BitVec.or_zero]⟩
  · exact ⟨0#9, by rw [State.port_setPort_ne _ _ _ _ hq, BitVec.or_zero]⟩

/-- No work clears a flag. -/
theorem FlagsStay.frameWork (s : State) (k : FrameWork) : FlagsStay s (frameWork k s) := by
  by_cases hk : k = .takeover
  · subst hk
    show FlagsStay s s.takeoverWork
    unfold State.takeoverWork
    split
    · exact FlagsStay.trans (FlagsStay.trans (.of_ports rfl) (.pushReport _ _ _)) (Grows.activate _ false).sticky
    · exact .refl s
  · exact (Grows.frameWork s hk).sticky

/-! ### The silence count and the timers -/

theorem InputStands.step {s u : State} {done : List FrameWork} {k : FrameWork} (hk : k ∉ done)
    (hu : InputStands s done u) : InputStands s (k :: done) (frameWork k u) := by
  by_cases hs : k = .silence
  · subst hs
    exact hu.silenceWork hk
  · exact hu.of_vin hs (frameWork_vin u hs) fun i hi => frameWork_timer u i hi

/-- The silence count after an output frame start (R113). -/
theorem State.silence_silenceWork (s : State) : s.silenceWork.vin.silence =
    if s.vin.lock = .off then s.vin.silence else min 8 (s.vin.silence + 1) := by
  by_cases ho : s.vin.lock = .off
  · rw [State.silenceWork, if_pos ho, if_pos ho]
  rw [if_neg ho]
  by_cases h : s.lapses
  · rw [State.vin_silenceWork_of_lapses s h]
    exact (Nat.min_eq_left (Nat.succ_le_succ h.2)).symm
  · rw [State.silenceWork_of_short s ho h]
    rfl

/-- What stands of the counts of the input and of the timers once the works `done` have been taken from `s`. -/
structure CountsStand (s : State) (done : List FrameWork) (u : State) : Prop where
  input : InputStands s done u
  silence : .silence ∈ done →
    u.vin.silence = if s.vin.lock = .off then s.vin.silence else min 8 (s.vin.silence + 1)
  vinChange : ∀ q, (u.port q).hasFlag .vinChange = true ↔
    (s.port q).hasFlag .vinChange = true ∨ (.silence ∈ done ∧ s.lapses)
  timers : ∀ i, .timer i ∈ done → ∃ index, ((s.timer i).action = .event → index = (s.timer i).templateIndex)
    ∧ u.timer i = (s.timer i).onEvent .ofs { s.timer i with count := min 65535 ((s.timer i).count + 1) } index
  told : ∀ i, .timer i ∈ done → (s.timer i).ExpiresAt .ofs → ∀ q, (s.timer i).holder = some q →
    (u.port q).hasFlag .timer = true

theorem CountsStand.start (s : State) : CountsStand s [] s :=
  ⟨.start s, nofun, fun _ => ⟨.inl, fun h => h.elim id fun h => absurd h.1 List.not_mem_nil⟩, nofun, nofun⟩

theorem CountsStand.step {s u : State} {done : List FrameWork} {k : FrameWork} (hk : k ∉ done)
    (hu : CountsStand s done u) : CountsStand s (k :: done) (frameWork k u) := by
  refine ⟨hu.input.step hk, fun hm => ?_, fun q => ?_, fun i hm => ?_, fun i hm hexp q hq => ?_⟩
  · by_cases hs : k = .silence
    · subst hs
      rw [frameWork, State.silence_silenceWork, hu.input.silence hk, hu.input.lockStays (.inr hk)]
    · rw [frameWork_vin u hs]
      exact hu.silence ((mem_cons_of_ne hs done).mp hm)
  · by_cases hs : k = .silence
    · subst hs
      rw [frameWork, State.vinChange_silenceWork, hu.vinChange, hu.input.lapses_iff hk]
      simp [hk]
    · rw [frameWork_vinChange u hs q, hu.vinChange, mem_cons_of_ne hs]
  · by_cases hi : k = .timer i
    · subst hi
      have hsame := hu.input.timers i hk
      obtain ⟨index, hindex, htimers⟩ := u.timers_timerFrameWork i
      rw [hsame] at hindex htimers
      refine ⟨index, hindex, ?_⟩
      rw [frameWork, State.timer, htimers]
      exact State.timer_setTimer _ _ _
    · obtain ⟨index, hindex, htimer⟩ := hu.timers i ((mem_cons_of_ne hi done).mp hm)
      exact ⟨index, hindex, (frameWork_timer u i hi).trans htimer⟩
  · by_cases hi : k = .timer i
    · subst hi
      have hsame := hu.input.timers i hk
      rw [← hsame] at hexp hq
      obtain ⟨hcounts, hp, hn⟩ := hexp
      rw [frameWork, State.timerFrameWork_of_counts hcounts]
      exact State.hasFlag_countTimer hq hp hn false
    · exact (FlagsStay.frameWork u k).hasFlag nofun (hu.told i ((mem_cons_of_ne hi done).mp hm) hexp q hq)

end Sys2Proof.Machine
end

section
/-! PROOFS. The active request at an output frame start that loses the lock, whatever the timers' triggers add to the queue
(R113, R134, R135, R150). -/

namespace Sys2Proof.Machine

/-- From `s` to `t` the Capture Unit moves in its queue alone, and nothing is reported. -/
structure Queues (s t : State) : Prop where
  cap : t.cap = { s.cap with queue := t.cap.queue }
  reports : ∀ q, (t.port q).reports = (s.port q).reports

theorem Queues.of_same {s t : State} (hcap : t.cap = s.cap) (hreports : ∀ q, (t.port q).reports = (s.port q).reports) :
    Queues s t := ⟨by rw [hcap], hreports⟩

theorem Queues.refl (s : State) : Queues s s := .of_same rfl fun _ => rfl

theorem Queues.trans {s t u : State} (h : Queues s t) (k : Queues t u) : Queues s u :=
  ⟨by rw [k.cap, h.cap], fun q => (k.reports q).trans (h.reports q)⟩

theorem Quiet.queues {k : FrameWork} {s t : State} (h : Quiet k s t) : Queues s t := .of_same h.cap h.reports

theorem Queues.raiseAt (s : State) (p : Option Port) (f : EventFlag) : Queues s (s.raiseAt p f) :=
  .of_same (by rw [State.raiseAt_eq]) fun q => State.reports_raiseAt s p q f

/-- A trigger out of IDLE adds to the queue at most (R129, R150). -/
theorem Queues.trigger {s : State} (hp : s.cap.phase ≠ .idle) (t : Fin 4) (atMark : Bool) :
    Queues s (s.trigger t atMark) := by
  rcases s.trigger_cases t atMark with h | ⟨p, h⟩ | ⟨r, k, _, _, _, h⟩
  · rw [h]
    exact .refl s
  · rw [h]
    exact .raiseAt s (some p) .trigMiss
  · rw [h, State.acceptRequest_eq, State.activate_of_not (s := s.enqueue r) fun hn => hp hn.1]
    exact ⟨rfl, fun _ => rfl⟩

theorem Queues.countTimer {s : State} (hp : s.cap.phase ≠ .idle) (t : Fin 4) (atMark : Bool) :
    Queues s (s.countTimer t atMark) := by
  have hset (u : State) (m : FrameTimer) : Queues u (u.setTimer t m) := .of_same rfl fun _ => rfl
  have hexpire {u : State} (hu : u.cap.phase ≠ .idle) : Queues u (u.expireTimer t atMark) := by
    unfold State.expireTimer
    refine Queues.trans (Queues.trans ?_ (.raiseAt _ _ .timer)) (hset _ _)
    split
    · exact .trigger hu t atMark
    · exact .refl u
  unfold State.countTimer
  dsimp only
  split
  · split
    · exact (hset s _).trans (hexpire (u := s.setTimer t _) hp)
    · exact hset s _
  · exact hset s _

/-- Every work but the silence count's leaves the unit but for its queue, and reports nothing, where no thumbnail is held
and the unit is not IDLE. -/
theorem Queues.frameWork {s : State} {k : FrameWork} (hk : k ≠ .silence) (hheld : s.cap.phase ≠ .held)
    (hidle : s.cap.phase ≠ .idle) : Queues s (frameWork k s) := by
  cases k with
  | silence => exact absurd rfl hk
  | takeover =>
    show Queues s s.takeoverWork
    rw [State.takeoverWork_of_ne hheld]
    exact .refl s
  | timer t =>
    show Queues s (s.timerFrameWork t)
    unfold State.timerFrameWork
    dsimp only
    split
    · split
      · exact .of_same rfl fun _ => rfl
      all_goals
        split
        · exact .countTimer hidle t false
        · exact .refl s
    · exact .refl s
  | _ => exact (Quiet.frameWork s (by nofun) (by nofun) (by nofun)).queues

/-! ### The active request -/

/-- What stands of the active request `r`, in SETTLE or SAMPLE in `s`, whose lock is lost at this frame start (R135). -/
structure CutStands (s : State) (r : CaptureRequest) (done : List FrameWork) (u : State) : Prop where
  before : .silence ∉ done → Queues s u
  after : .silence ∈ done → u.cap = ⟨u.cap.queue, none, .recover, s.cap.settleCount, .none, .empty⟩
    ∧ (∀ q, (u.port q).reports = ((s.port q).told q [r] .noInput).reports)
    ∧ (u.port r.requester).hasFlag .capAbort = true
  untriggered : (∀ i, ¬ (s.timer i).TriggersAt .ofs) → u.cap.queue = s.cap.queue
    ∧ (.silence ∈ done → (u.slot r.slot).captureFlag = false)

theorem CutStands.start (s : State) (r : CaptureRequest) : CutStands s r [] s :=
  ⟨fun _ => .refl s, nofun, fun _ => ⟨rfl, nofun⟩⟩

section
variable {s u : State} {r : CaptureRequest} {done : List FrameWork}

/-- The loss of the lock ends the request (R134, R135). -/
theorem CutStands.silenceWork (hl : s.lapses) (ha : s.cap.active = some r)
    (hp : s.cap.phase = .settle ∨ s.cap.phase = .sample) (hk : .silence ∉ done) (hin : InputStands s done u)
    (hu : CutStands s r done u) : CutStands s r (.silence :: done) (frameWork .silence u) := by
  obtain ⟨hcap, hreports⟩ := hu.before hk
  obtain ⟨hcut, hports, hslots⟩ := State.silenceWork_of_cut (s := u) (r := r) ((hin.lapses_iff hk).mpr hl)
    (by rw [hcap]; exact ha) (by rw [hcap]; exact hp)
  refine ⟨fun hn => absurd List.mem_cons_self hn, fun _ => ⟨?_, fun q => ?_, ?_⟩, fun hno => ?_⟩
  · have hqueue : u.silenceWork.cap.queue = u.cap.queue := by rw [hcut]
    show u.silenceWork.cap = ⟨u.silenceWork.cap.queue, _, _, _, _, _⟩
    rw [hqueue, hcut, hcap]
  · show (u.silenceWork.port q).reports = _
    rw [hports]
    exact PortState.reports_told_congr (hreports q) q [r] .noInput
  · show (u.silenceWork.port r.requester).hasFlag .capAbort = true
    rw [hports]
    exact PortState.hasFlag_told _ (List.mem_singleton_self r) _
  · obtain ⟨hqueue, _⟩ := hu.untriggered hno
    refine ⟨?_, fun _ => ?_⟩
    · rw [← hqueue, frameWork, hcut]
    · show (u.silenceWork.slot r.slot).captureFlag = false
      rw [hslots]
      exact Slot.unnamed_of_mem _ (List.mem_singleton_self r)

/-- Every other work leaves the request, or what the loss of the lock has made of it. -/
theorem CutStands.other {k : FrameWork} (hp : s.cap.phase = .settle ∨ s.cap.phase = .sample) (hk : k ∉ done)
    (hs : k ≠ .silence) (hin : InputStands s done u) (hu : CutStands s r done u) :
    CutStands s r (k :: done) (frameWork k u) := by
  have hmem := mem_cons_of_ne hs done
  have hphase : u.cap.phase ≠ .held ∧ u.cap.phase ≠ .idle := by
    by_cases hd : .silence ∈ done
    · obtain ⟨hcap, _⟩ := hu.after hd
      rw [hcap]
      exact ⟨nofun, nofun⟩
    · have hsame : u.cap.phase = s.cap.phase := by rw [(hu.before hd).cap]
      rw [hsame]
      rcases hp with hp | hp <;> rw [hp] <;> exact ⟨nofun, nofun⟩
  have hqueues := Queues.frameWork hs hphase.1 hphase.2
  refine ⟨fun hn => (hu.before (mt hmem.mpr hn)).trans hqueues, fun hm => ?_, fun hno => ?_⟩
  · obtain ⟨hcap, hreports, hflag⟩ := hu.after (hmem.mp hm)
    refine ⟨?_, fun q => (hqueues.reports q).trans (hreports q), (FlagsStay.frameWork u k).hasFlag nofun hflag⟩
    rw [hqueues.cap, hcap]
  · obtain ⟨hqueue, hclear⟩ := hu.untriggered hno
    by_cases ht : k = .takeover
    · subst ht
      rw [frameWork, State.takeoverWork_of_ne hphase.1]
      exact ⟨hqueue, fun hm => hclear (hmem.mp hm)⟩
    have hquiet : Quiet k u (frameWork k u) := by
      by_cases hm : ∃ i, k = .timer i
      · obtain ⟨i, rfl⟩ := hm
        exact .timerFrameWork u i (by rw [hin.timers i hk]; exact hno i)
      · exact .frameWork u hs ht fun i hi => hm ⟨i, hi⟩
    exact ⟨by rw [hquiet.cap, hqueue], fun hm => hquiet.clear _ (hclear (hmem.mp hm))⟩

theorem CutStands.step {k : FrameWork} (hl : s.lapses) (ha : s.cap.active = some r)
    (hp : s.cap.phase = .settle ∨ s.cap.phase = .sample) (hk : k ∉ done) (hin : InputStands s done u)
    (hu : CutStands s r done u) : CutStands s r (k :: done) (frameWork k u) := by
  by_cases hs : k = .silence
  · subst hs
    exact hu.silenceWork hl ha hp hk hin
  · exact hu.other hp hk hs hin

end

end Sys2Proof.Machine
end

section
/-! PROOFS. The monitors at an output frame start, in whatever order the blocks take their work (R118, R158, R159, R162). -/

namespace Sys2Proof.Machine

/-! ### A monitor's steps -/

/-- A monitor after its count step (R158, R159). -/
def Monitor.counted (m : Monitor) : Monitor :=
  if m.running = true then { m with remaining := if m.remaining ≤ 1 then m.period else m.remaining - 1 } else m

/-- A monitor after a promotion to its layer (R118). -/
def Monitor.refreshed (m : Monitor) : Monitor := if m.running = true then { m with remaining := m.period } else m

section
variable {m : Monitor}

theorem Monitor.counted_of_stopped (h : m.running = false) : m.counted = m := if_neg (by rw [h]; nofun)

theorem Monitor.refreshed_of_stopped (h : m.running = false) : m.refreshed = m := if_neg (by rw [h]; nofun)

theorem Monitor.refreshed_of_running (h : m.running = true) : m.refreshed = { m with remaining := m.period } := if_pos h

theorem Monitor.counted_of_last (h : m.running = true) (hn : m.remaining ≤ 1) :
    m.counted = { m with remaining := m.period } := by rw [Monitor.counted, if_pos h, if_pos hn]

theorem Monitor.counted_of_early (h : m.running = true) (hn : 2 ≤ m.remaining) :
    m.counted = { m with remaining := m.remaining - 1 } := by
  rw [Monitor.counted, if_pos h, if_neg (by omega)]

/-- A refreshed monitor stands one below its period after its count step. -/
theorem Monitor.refreshed_counted (h : m.running = true) (hp : 2 ≤ m.period) :
    m.refreshed.counted = { m with remaining := m.period - 1 } := by
  rw [Monitor.refreshed_of_running h]
  exact Monitor.counted_of_early h hp

/-- What the count step made of the remaining count is forgotten in a refresh. -/
theorem Monitor.counted_refreshed (m : Monitor) : m.counted.refreshed = m.refreshed := by
  by_cases h : m.running = true
  · rw [Monitor.counted, if_pos h, Monitor.refreshed_of_running h]
    exact Monitor.refreshed_of_running h
  · rw [Monitor.counted, if_neg h]

end

theorem State.monitor_monitorWork (s : State) (l : Fin 8) : (s.monitorWork l).monitor l = (s.monitor l).counted := by
  unfold State.monitorWork
  dsimp only
  by_cases hr : (s.monitor l).running = true
  case neg =>
    rw [if_pos (by simpa using hr), Monitor.counted, if_neg hr]
  rw [if_neg (by rw [hr]; nofun)]
  by_cases hn : (s.monitor l).remaining ≤ 1
  · rw [if_pos hn, State.monitor_expireMonitor_self, Monitor.counted_of_last hr hn]
  · rw [if_neg hn, State.monitor_setMonitor, Monitor.counted_of_early hr (by omega)]

/-- A promotion to a layer whose live source is VIN refreshes its monitor (R118). -/
theorem State.monitor_promotionWork_of_vin {s : State} {l : Fin 8} (hr : s.vin.ready ≠ none)
    (hv : (s.layer l).attrs.source = .vin) : s.promotionWork.monitor l = (s.monitor l).refreshed := by
  have hsame (s : State) (i : Fin 8) : (s.refreshMonitor i).monitor i = (s.monitor i).refreshed := by
    unfold State.refreshMonitor Monitor.refreshed
    dsimp only
    split
    · exact State.monitor_setMonitor _ _ _
    · rfl
  have hother (s : State) (i j : Fin 8) (hj : j ≠ i) : (s.refreshMonitor i).monitor j = s.monitor j := by
    unfold State.refreshMonitor
    dsimp only
    split
    · exact State.monitor_setMonitor_ne _ _ _ _ hj
    · rfl
  unfold State.promotionWork
  cases hf : s.vin.ready with
  | none => exact absurd hf hr
  | some f =>
    dsimp only
    rw [foldl_get State.monitor State.refreshMonitor Monitor.refreshed hsame hother _ ((List.nodup_finRange 8).filter _) _ l,
      if_pos (List.mem_filter.mpr ⟨List.mem_finRange l, by simpa using hv⟩)]
    rfl

theorem State.monitor_promotionWork_of_not {s : State} {l : Fin 8}
    (h : ¬ (s.vin.ready ≠ none ∧ (s.layer l).attrs.source = .vin)) : s.promotionWork.monitor l = s.monitor l :=
  (s.monitor_promotionWork l).resolve_right fun hn => h hn.1

/-! ### The layer that a monitor watches -/

theorem Layer.applied_owner (x : Layer) : x.applied.owner = x.owner := by
  unfold Layer.applied
  split
  · rfl
  · split <;> rfl

/-- Whom a layer tells after the Scene Table's work, it told before (R19). -/
theorem Layer.told_of_started {x : Layer} {q : Port} (h : x.started.binding ≠ .unbound ∧ x.started.owner = some q) :
    x.binding ≠ .unbound ∧ x.owner = some q := by
  by_cases hb : x.binding = .releasing
  · rw [Layer.started_of_releasing hb] at h
    exact absurd rfl h.1
  · rw [Layer.started_of_not_releasing hb] at h
    obtain ⟨hbind, howner⟩ := h
    exact ⟨x.applied_binding ▸ hbind, x.applied_owner ▸ howner⟩

/-- A BOUND layer tells its owner after the Scene Table's work too. -/
theorem Layer.told_started {x : Layer} {q : Port} (hb : x.binding = .bound) (ho : x.owner = some q) :
    x.started.binding ≠ .unbound ∧ x.started.owner = some q := by
  rw [Layer.started_of_not_releasing (by rw [hb]; nofun)]
  have hbind : x.applied.stepped.binding = .bound := (x.applied_binding).trans hb
  exact ⟨by rw [hbind]; nofun, (x.applied_owner).trans ho⟩

/-- The live source of a BOUND layer with no record open stays as it is (R17). -/
theorem Layer.source_started {x : Layer} (hb : x.binding = .bound) (hs : x.staged = none) :
    x.started.attrs.source = x.attrs.source := by
  have hnot : ¬ x.commits := by
    rintro ⟨r, hr, _⟩
    exact absurd (hs.symm.trans hr) nofun
  rw [Layer.started_of_not_releasing (by rw [hb]; nofun), Layer.applied_of_not_commits hnot]
  rfl

/-- An expiry names no source. -/
theorem Layer.namesVin_expire (x : Layer) (a : MonitorAction) : (x.expire a).namesVin = x.namesVin := by
  cases hs : x.staged with
  | none => cases a <;> simp [Layer.namesVin, Layer.expire, stagedAfterExpiry, hs]
  | some r =>
    cases a <;> cases hc : r.committed <;> simp [Layer.namesVin, Layer.expire, stagedAfterExpiry, hs, hc]

section
variable {s u : State} {l : Fin 8} {done : List FrameWork}

/-- The layer as it is once some works have been taken: expired or not, started or not. -/
theorem LayerTaken.cases (h : LayerTaken s l done u) : ∃ x, (x = s.layer l ∨ ∃ a, x = (s.layer l).expire a)
    ∧ u.layer l = if .scene ∈ done then x.started else x := by
  obtain ⟨_, x, hx, hbefore, hafter⟩ := h
  refine ⟨x, ?_, hx⟩
  by_cases hd : .monitor l ∈ done
  · rcases hafter hd with ⟨hc, _⟩ | ⟨hc, _⟩
    · exact .inl hc
    · exact .inr ⟨_, hc⟩
  · exact .inl (hbefore hd)

/-- A layer whose live source has become VIN named VIN before. -/
theorem LayerTaken.namesVin (h : LayerTaken s l done u) (hv : (u.layer l).attrs.source = .vin) :
    (s.layer l).namesVin = true := by
  obtain ⟨x, hx, hu⟩ := h.cases
  have hnames : x.namesVin = true := by
    rw [hu] at hv
    split at hv
    · exact Layer.namesVin_of_started hv
    · exact x.namesVin_iff.mpr (.inl hv)
  rcases hx with rfl | ⟨a, rfl⟩
  · exact hnames
  · rwa [Layer.namesVin_expire] at hnames

/-- The live source of a BOUND layer with no record open. -/
theorem LayerTaken.source (h : LayerTaken s l done u) (hb : (s.layer l).binding = .bound)
    (hs : (s.layer l).staged = none) : (u.layer l).attrs.source = (s.layer l).attrs.source := by
  obtain ⟨x, hx, hu⟩ := h.cases
  have hsame : x.binding = .bound ∧ x.staged = none ∧ x.attrs.source = (s.layer l).attrs.source := by
    rcases hx with rfl | ⟨a, rfl⟩
    · exact ⟨hb, hs, rfl⟩
    · refine ⟨hb, ?_, rfl⟩
      cases a <;> simp [Layer.expire, stagedAfterExpiry, hs]
  obtain ⟨hxb, hxs, hsource⟩ := hsame
  rw [hu]
  split
  · exact (Layer.source_started hxb hxs).trans hsource
  · exact hsource

/-- The layer before its monitor's work. -/
theorem LayerTaken.layer_before (h : LayerTaken s l done u) (hn : .monitor l ∉ done) :
    u.layer l = if .scene ∈ done then (s.layer l).started else s.layer l := by
  obtain ⟨_, x, hx, hbefore, _⟩ := h
  rw [hx, hbefore hn]

end

/-! ### The monitors' counts -/

/-- A promotion is certain to refresh the monitor of layer `l` (R118). -/
def State.refreshes (s : State) (l : Fin 8) : Prop :=
  s.vin.ready ≠ none ∧ (s.layer l).attrs.source = .vin ∧ (s.layer l).staged = none ∧ (s.layer l).binding = .bound

/-- What stands of the monitor of layer `l` once the works `done` have been taken from `s` (R118, R158). -/
structure MonitorStands (s : State) (l : Fin 8) (done : List FrameWork) (u : State) : Prop where
  plain : s.unrefreshed l ∨ .promotion ∉ done →
    u.monitor l = if .monitor l ∈ done then (s.monitor l).counted else s.monitor l
  sure : s.refreshes l → .promotion ∈ done → u.monitor l = (s.monitor l).refreshed
    ∨ (.monitor l ∈ done ∧ u.monitor l = (s.monitor l).refreshed.counted)
  stopped : (s.monitor l).running = false → u.monitor l = s.monitor l

theorem MonitorStands.start (s : State) (l : Fin 8) : MonitorStands s l [] s := ⟨fun _ => rfl, nofun, fun _ => rfl⟩

theorem MonitorStands.step {s u : State} {l : Fin 8} {done : List FrameWork} {k : FrameWork} (hk : k ∉ done)
    (hcopies : CopiesTaken s done u) (hlayer : LayerTaken s l done u) (h : MonitorStands s l done u) :
    MonitorStands s l (k :: done) (frameWork k u) := by
  by_cases hp : k = .promotion
  · subst hp
    have hmem : FrameWork.monitor l ∈ FrameWork.promotion :: done ↔ .monitor l ∈ done := by simp
    obtain ⟨hready, _⟩ := hcopies.waiting hk
    refine ⟨fun hplain => ?_, fun hsure _ => ?_, fun hstop => ?_⟩
    · have hun : s.unrefreshed l := hplain.resolve_right fun hn => hn List.mem_cons_self
      have hkeep : u.promotionWork.monitor l = u.monitor l := State.monitor_promotionWork_of_not fun hn => by
        rcases hun with hnone | hnames
        · exact hn.1 (hready.trans hnone)
        · exact absurd (hnames.symm.trans (hlayer.namesVin hn.2)) nofun
      rw [frameWork, hkeep, h.plain (.inr hk), if_congr hmem rfl rfl]
    · obtain ⟨hr, hv, hs, hb⟩ := hsure
      have hwork : u.promotionWork.monitor l = (u.monitor l).refreshed :=
        State.monitor_promotionWork_of_vin (by rwa [hready]) ((hlayer.source hb hs).trans hv)
      refine .inl ?_
      rw [frameWork, hwork, h.plain (.inr hk)]
      split
      · exact Monitor.counted_refreshed _
      · rfl
    · have hu := h.stopped hstop
      rcases u.monitor_promotionWork l with hsame | ⟨⟨hr, hv⟩, _⟩
      · exact hsame.trans hu
      · rw [frameWork, State.monitor_promotionWork_of_vin hr hv, hu, Monitor.refreshed_of_stopped hstop]
  have hmp := mem_cons_of_ne hp done
  by_cases hm : k = .monitor l
  · subst hm
    have hwork : (frameWork (.monitor l) u).monitor l = (u.monitor l).counted := u.monitor_monitorWork l
    refine ⟨fun hplain => ?_, fun hsure hd => ?_, fun hstop => ?_⟩
    · rw [hwork, h.plain (hplain.imp_right (mt hmp.mpr)), if_neg hk, if_pos List.mem_cons_self]
    · have hu := (h.sure hsure (hmp.mp hd)).resolve_right fun hn => hk hn.1
      exact .inr ⟨List.mem_cons_self, by rw [hwork, hu]⟩
    · rw [hwork, h.stopped hstop, Monitor.counted_of_stopped hstop]
  · have hsame : (frameWork k u).monitor l = u.monitor l := (frameWork_leaves u k).monitors hp l hm
    have hmm := mem_cons_of_ne hm done
    refine ⟨fun hplain => ?_, fun hsure hd => ?_, fun hstop => hsame.trans (h.stopped hstop)⟩
    · rw [hsame, h.plain (hplain.imp_right (mt hmp.mpr)), if_congr hmm rfl rfl]
    · rw [hsame]
      exact (h.sure hsure (hmp.mp hd)).imp_right fun hn => ⟨hmm.mpr hn.1, hn.2⟩

end Sys2Proof.Machine
end

section
/-! PROOFS. Due counts: the rows that take a count's last step, every count at an output frame start, and the timers at an
input frame end (R113, R114, R118, R129, R135, R148 to R152, R158, R159, R162). -/

namespace Sys2Proof.Machine

/-! ### EXPIRED at an output frame start -/

/-- The monitor of layer `l` may expire at this frame start, depending on the order (R118, R158). -/
def State.mayExpire (s : State) (l : Fin 8) : Prop := (s.monitor l).running = true
  ∧ ((s.monitor l).remaining ≤ 1 ∨ ((s.monitor l).period ≤ 1 ∧ s.vin.ready ≠ none ∧ (s.layer l).namesVin = true))

theorem State.unrefreshed_iff (s : State) (l : Fin 8) :
    s.unrefreshed l ↔ ¬ (s.vin.ready ≠ none ∧ (s.layer l).namesVin = true) := by
  rw [State.unrefreshed, not_and_or, not_not, Bool.not_eq_true]

/-- A monitor not yet counted that expires now (R158). -/
theorem Uncounted.mayExpire {s : State} {l : Fin 8} {m : Monitor} (h : Uncounted s l m) (hr : m.running = true)
    (hn : m.remaining ≤ 1) : s.mayExpire l ∧ m.lockingPort = (s.monitor l).lockingPort := by
  rcases h with rfl | ⟨hu, rfl⟩
  · exact ⟨⟨hr, .inl hn⟩, rfl⟩
  · rw [State.unrefreshed_iff, not_not] at hu
    exact ⟨⟨hr, .inr ⟨hn, hu⟩⟩, rfl⟩

/-- Which ports have EXPIRED once the works `done` have been taken from `s` (R159, R162). -/
structure ExpiryTold (s : State) (done : List FrameWork) (u : State) : Prop where
  must : ∀ l q, .monitor l ∈ done → s.mustExpire l →
    ((s.layer l).binding = .bound ∧ (s.layer l).owner = some q) ∨ (s.monitor l).lockingPort = some q →
    (u.port q).hasFlag .expired = true
  only : ∀ q, (u.port q).hasFlag .expired = true → (s.port q).hasFlag .expired = true ∨ ∃ l, s.mayExpire l
    ∧ (((s.layer l).binding ≠ .unbound ∧ (s.layer l).owner = some q) ∨ (s.monitor l).lockingPort = some q)

theorem ExpiryTold.start (s : State) : ExpiryTold s [] s := ⟨nofun, fun _ => .inl⟩

section
variable {s u : State} {done : List FrameWork}

/-- A monitor's work tells the ports that may be told (R159). -/
theorem ExpiryTold.monitorWork {l : Fin 8} (hk : .monitor l ∉ done) (hlayer : LayerTaken s l done u)
    (h : ExpiryTold s done u) : ExpiryTold s (.monitor l :: done) (frameWork (.monitor l) u) := by
  have hbefore := hlayer.layer_before hk
  have hmon := hlayer.monitor hk
  refine ⟨fun m q hm hmust htold => ?_, fun q hq => ?_⟩
  · by_cases hml : m = l
    · subst hml
      obtain ⟨hr, hn, hun⟩ := hmust
      have hsame : u.monitor m = s.monitor m := hmon.resolve_right fun hn => hn.1 hun
      refine (u.expired_monitorWork m q).mpr (.inr ⟨by rw [hsame]; exact ⟨hr, hn⟩, ?_⟩)
      rw [hsame]
      refine htold.imp_left fun ⟨hb, ho⟩ => ?_
      rw [hbefore]
      split
      · exact Layer.told_started hb ho
      · exact ⟨by rw [hb]; nofun, ho⟩
    · have hd : .monitor m ∈ done := by simpa [hml] using hm
      exact (u.expired_monitorWork l q).mpr (.inl (h.must m q hd hmust htold))
  · rcases (u.expired_monitorWork l q).mp hq with hq | ⟨⟨hr, hn⟩, htold⟩
    · exact h.only q hq
    · obtain ⟨hmay, hport⟩ := hmon.mayExpire hr hn
      rw [hport] at htold
      refine .inr ⟨l, hmay, htold.imp_left fun hq => ?_⟩
      rw [hbefore] at hq
      split at hq
      · exact Layer.told_of_started hq
      · exact hq

theorem ExpiryTold.step {k : FrameWork} (hk : k ∉ done) (hlayers : ∀ l, LayerTaken s l done u)
    (h : ExpiryTold s done u) : ExpiryTold s (k :: done) (frameWork k u) := by
  by_cases hm : ∃ l, k = .monitor l
  · obtain ⟨l, rfl⟩ := hm
    exact h.monitorWork hk (hlayers l)
  · have hno (l : Fin 8) : k ≠ .monitor l := fun e => hm ⟨l, e⟩
    have hkept := frameWork_expired u hno
    refine ⟨fun l q hd hmust htold => ?_, fun q hq => h.only q (hkept q ▸ hq)⟩
    rw [hkept q]
    exact h.must l q ((mem_cons_of_ne (hno l) done).mp hd) hmust htold

end

/-! ### The frame start -/

/-- What stands of every count once the works `done` have been taken from `s`. -/
structure StartStands (s : State) (done : List FrameWork) (u : State) : Prop where
  taken : Taken s done u
  counts : CountsStand s done u
  monitors : ∀ l, MonitorStands s l done u
  expiry : ExpiryTold s done u
  cut : ∀ r, s.lapses → s.cap.active = some r → s.cap.phase = .settle ∨ s.cap.phase = .sample → CutStands s r done u

theorem StartStands.start (s : State) : StartStands s [] s :=
  ⟨.start s, .start s, fun l => .start s l, .start s, fun r _ _ _ => .start s r⟩

theorem StartStands.step {s u : State} {done : List FrameWork} {k : FrameWork} (hk : k ∉ done) (h : StartStands s done u) :
    StartStands s (k :: done) (frameWork k u) where
  taken := h.taken.step hk
  counts := h.counts.step hk
  monitors l := (h.monitors l).step hk h.taken.copies (h.taken.layers l)
  expiry := h.expiry.step hk h.taken.layers
  cut r hl ha hp := (h.cut r hl ha hp).step hl ha hp hk h.counts.input

theorem exec_outputFrameStart_stands (order : List FrameWork) {s : State} (hpin : s.resetPin = false)
    (hs : s.frameTaken = []) : ∃ done u, (∀ k, k ∈ done) ∧ StartStands s done u
      ∧ exec (.outputFrameStart order) s = .next { u with frameTaken := [], view := some (takeView u) } := by
  obtain ⟨done, u, hall, hstands, he⟩ := State.frameStart_of_steps (P := StartStands s)
    (fun _ _ _ hk hu => hu.step hk) s order hs (.start s)
  refine ⟨done, u, hall, hstands, ?_⟩
  show Host.Outcome.next _ = _
  rw [if_neg (by simp [hpin]), he]

section
variable {s u : State} {done : List FrameWork} (hall : ∀ k, k ∈ done) (h : StartStands s done u)
include hall h

theorem StartStands.lock :
    u.vin.lock = if s.vin.lock = .locked ∧ 7 ≤ s.vin.silence then .lost else s.vin.lock := by
  by_cases hl : s.lapses
  · exact (h.counts.input.lockLost hl (hall _)).trans (if_pos hl).symm
  · exact (h.counts.input.lockStays (.inl hl)).trans (if_neg hl).symm

theorem StartStands.monitor_unrefreshed {l : Fin 8} (hun : s.unrefreshed l) : u.monitor l = (s.monitor l).counted :=
  ((h.monitors l).plain (.inl hun)).trans (if_pos (hall _))

theorem StartStands.monitor_refreshed {l : Fin 8} (hr : s.refreshes l) (hm : (s.monitor l).running = true)
    (hp : 2 ≤ (s.monitor l).period) : u.monitor l = { s.monitor l with remaining := (s.monitor l).period }
      ∨ u.monitor l = { s.monitor l with remaining := (s.monitor l).period - 1 } := by
  refine ((h.monitors l).sure hr (hall _)).imp (fun hu => ?_) fun hu => ?_
  · rw [hu, Monitor.refreshed_of_running hm]
  · rw [hu.2, Monitor.refreshed_counted hm hp]

theorem StartStands.cut_of_lost {r : CaptureRequest} (hl : s.lapses) (ha : s.cap.active = some r)
    (hp : s.cap.phase = .settle ∨ s.cap.phase = .sample) :
    u.cap = ⟨u.cap.queue, none, .recover, s.cap.settleCount, .none, .empty⟩
      ∧ (∀ q, (u.port q).reports = ((s.port q).told q [r] .noInput).reports)
      ∧ (u.port r.requester).hasFlag .capAbort = true
      ∧ ((∀ i, ¬ (s.timer i).TriggersAt .ofs) → u.cap.queue = s.cap.queue ∧ (u.slot r.slot).captureFlag = false) := by
  have hcut := h.cut r hl ha hp
  obtain ⟨hcap, hreports, hflag⟩ := hcut.after (hall _)
  exact ⟨hcap, hreports, hflag, fun hno => (hcut.untriggered hno).imp_right fun hclear => hclear (hall _)⟩

end

/-! ### The timers at an input frame end -/

theorem FlagsStay.moveLock (s : State) (st : LockState) : FlagsStay s (s.moveLock st) := by
  have hwith : FlagsStay s (s.withLock st) := fun q => by
    rw [State.port_withLock]
    dsimp only
    split
    · exact ⟨0#9, BitVec.or_zero.symm⟩
    · exact ⟨_, rfl⟩
  refine hwith.trans fun q => ?_
  rw [(s.moveLock_tells st).ports]
  dsimp only [PortState.told]
  split
  · exact ⟨0#9, BitVec.or_zero.symm⟩
  · exact ⟨_, rfl⟩

theorem FlagsStay.lockStep (s : State) (good : Bool) : FlagsStay s (s.lockStep good) := by
  have hmove (v : TrailerInput) (st : LockState) (x : State) (hx : x.ports = s.ports) :
      FlagsStay s ((x.setVin v).moveLock st) := FlagsStay.trans (t := x.setVin v) (.of_ports hx) (.moveLock _ st)
  unfold State.lockStep
  dsimp only
  split
  · exact .of_ports rfl
  · split
    · exact .of_ports rfl
    · exact hmove _ _ _ rfl
  · exact .of_ports rfl
  · exact .of_ports rfl
  · split
    · exact .of_ports rfl
    · exact hmove _ _ _ rfl
  · exact hmove _ _ _ rfl
  · exact .of_ports rfl

theorem FlagsStay.markWork (c : MarkContext) (s : State) (k : MarkWork) : FlagsStay s (markWork c k s) := by
  cases k with
  | lockAndCapture => exact (FlagsStay.lockStep s c.good).trans (s.lockAndCapture_flags _ _ _ _)
  | timer t =>
    unfold Machine.markWork
    dsimp only
    split
    · exact .timerMarkWork s t
    · exact .refl s

/-- A timer's work alone moves its record. -/
theorem markWork_timer (c : MarkContext) (s : State) {k : MarkWork} (i : Fin 4) (hk : k ≠ .timer i) :
    (markWork c k s).timer i = s.timer i := by
  cases k with
  | lockAndCapture =>
    rw [markWork, s.lockAndCapture_only c.good c.frame c.phase c.sampled, State.lockStep_eq]
    rfl
  | timer t =>
    have hi : i ≠ t := fun e => hk (by rw [e])
    unfold markWork
    dsimp only
    split
    · obtain ⟨_, _, htimers⟩ := s.timers_timerMarkWork t
      rw [State.timer, htimers]
      exact State.timer_setTimer_ne _ _ _ _ hi
    · rfl

/-- What stands of the timers once the works `done` of an input frame end have been taken from `s` (R148, R152). -/
structure MarkStands (s : State) (good : Bool) (done : List MarkWork) (u : State) : Prop where
  waiting : ∀ i, good = false ∨ .timer i ∉ done → u.timer i = s.timer i
  timers : ∀ i, good = true → .timer i ∈ done →
    ∃ index, ((s.timer i).action = .event → index = (s.timer i).templateIndex) ∧ u.timer i =
      (s.timer i).onEvent .ife { s.timer i with measured := (s.timer i).count, count := 0 } index
  told : ∀ i, good = true → .timer i ∈ done → (s.timer i).ExpiresAt .ife → ∀ q, (s.timer i).holder = some q →
    (u.port q).hasFlag .timer = true

theorem MarkStands.step {s u : State} {c : MarkContext} {done : List MarkWork} {k : MarkWork} (hk : k ∉ done)
    (h : MarkStands s c.good done u) : MarkStands s c.good (k :: done) (markWork c k u) := by
  have hmem {i : Fin 4} (hi : k ≠ .timer i) : MarkWork.timer i ∈ k :: done ↔ .timer i ∈ done := by simp [hi.symm]
  have hwork {i : Fin 4} (hg : c.good = true) : markWork c (.timer i) u = u.timerMarkWork i := if_pos hg
  refine ⟨fun i hw => ?_, fun i hg hm => ?_, fun i hg hm hexp q hq => ?_⟩
  · by_cases hi : k = .timer i
    · subst hi
      have hbad : c.good = false := hw.resolve_right fun hn => hn List.mem_cons_self
      rw [markWork, if_neg (by rw [hbad]; nofun), h.waiting i (.inl hbad)]
    · exact (markWork_timer c u i hi).trans (h.waiting i (hw.imp_right (mt (hmem hi).mpr)))
  · by_cases hi : k = .timer i
    · subst hi
      have hsame := h.waiting i (.inr hk)
      obtain ⟨index, hindex, htimers⟩ := u.timers_timerMarkWork i
      rw [hsame] at hindex htimers
      refine ⟨index, hindex, ?_⟩
      rw [hwork hg, State.timer, htimers]
      exact State.timer_setTimer _ _ _
    · obtain ⟨index, hindex, htimer⟩ := h.timers i hg ((hmem hi).mp hm)
      exact ⟨index, hindex, (markWork_timer c u i hi).trans htimer⟩
  · by_cases hi : k = .timer i
    · subst hi
      rw [← h.waiting i (.inr hk)] at hexp hq
      obtain ⟨hcounts, hp, hn⟩ := hexp
      rw [hwork hg, State.timerMarkWork_of_counts hcounts]
      exact State.hasFlag_countTimer hq hp hn true
    · exact (FlagsStay.markWork c u k).hasFlag nofun (h.told i hg ((hmem hi).mp hm) hexp q hq)

/-- The timers after an input frame end of the frame in reception, in whatever order the blocks take it. -/
theorem State.frameEnd_timers (s : State) (r : ReceivingFrame) (lines : List (List Half)) (order : List MarkWork) :
    ∃ done, (∀ k, k ∈ done) ∧ MarkStands s (goodFrame s.vin r lines) done (s.frameEnd r lines order) := by
  have hstored : MarkStands s (goodFrame s.vin r lines) [] (s.storeFrame (goodFrame s.vin r lines) lines) :=
    ⟨fun _ _ => rfl, nofun, nofun⟩
  exact State.frameEnd_of_steps (P := MarkStands s (goodFrame s.vin r lines))
    (fun _ _ _ hk hu => MarkStands.step (c := markContext s r lines) hk hu) order hstored

end Sys2Proof.Machine
end

section
/-! PROOFS. The statement on due counts, from its rows: the accepted trigger, the event expiry, the loss of lock, the
output frame start and the input frame end. -/

namespace Sys2Proof.Machine

section
variable {s : State} {i : Fin 4} {p : Port} {k : Template} {slot : Fin 64}

/-- A request that the checks of R150 let in crops inside the input's format and names a slot whose flag is clear. -/
theorem within_and_clear_of_triggerAdmits (ha : triggerAdmits s p k.crop slot = true) :
    (triggerRequest p i k slot).within s.vin ∧ (s.slot slot).captureFlag = false := by
  obtain ⟨hx, hy, _, _, hclear, _⟩ := (triggerAdmits_iff s p k.crop slot).mp ha
  exact ⟨⟨hx, hy⟩, hclear⟩

/-- The accepted request's slot has its flag set, though requests before it be aborted (R150, R129). -/
theorem CaptureDue.flag_accepted (h : CaptureDue s i p k slot) (hon : ¬ s.ignoresTriggers)
    (ha : triggerAdmits s p k.crop slot = true) (hok : CaptureOk s) :
    ((s.countTimer i false).slot slot).captureFlag = true := by
  obtain ⟨hwithin, hclear⟩ := within_and_clear_of_triggerAdmits (i := i) ha
  rw [h.slot_accepted hon ha]
  exact State.flag_acceptRequest (s := s.runOut i) (r := triggerRequest p i k slot) hwithin (hok.unnamed_of_clear hclear)

/-- Out of IDLE and LOCKED the accepted request waits at the tail of the queue (R129, R150). -/
theorem CaptureDue.accepted_waits (h : CaptureDue s i p k slot) (hon : ¬ s.ignoresTriggers)
    (ha : triggerAdmits s p k.crop slot = true) (hwait : s.cap.phase ≠ .idle ∨ s.vin.lock ≠ .locked) :
    ((s.countTimer i false).slot slot).captureFlag = true
      ∧ (s.countTimer i false).cap = { s.cap with queue := s.cap.queue ++ [triggerRequest p i k slot] } := by
  rw [h.slot_accepted hon ha, h.cap_accepted hon ha, State.acceptRequest_waits (s := s.runOut i) hwait,
    State.slot_enqueue]
  exact ⟨congrArg Slot.captureFlag (if_pos rfl), rfl⟩

/-- In IDLE and LOCKED the queue is considered, the accepted request at its tail (R129, R150). -/
theorem CaptureDue.accepted_served {dead rest : List CaptureRequest} (h : CaptureDue s i p k slot)
    (hon : ¬ s.ignoresTriggers) (ha : triggerAdmits s p k.crop slot = true) (hidle : s.cap.phase = .idle)
    (hlock : s.vin.lock = .locked) (hq : FirstFit s.vin s.cap.queue dead rest) :
    (s.countTimer i false).cap = s.cap.served s.vin.settle .awaited (rest ++ [triggerRequest p i k slot])
      ∧ (∀ q, (s.countTimer i false).port q = let x := (s.port q).told q dead .badArg
          if q = p then { x with sticky := x.sticky ||| 0x020 } else x)
      ∧ ∀ j, (s.countTimer i false).slot j
        = (if j = slot then { s.slot j with captureFlag := true } else s.slot j).unnamed j dead := by
  obtain ⟨hports, hslots, hcap⟩ := State.acceptRequest_served (s := s.runOut i)
    (within_and_clear_of_triggerAdmits (i := i) ha).1 hidle hlock hq
  refine ⟨(h.cap_accepted hon ha).trans hcap, fun q => (h.port_accepted hon ha q).trans ?_,
    fun j => (h.slot_accepted hon ha j).trans (hslots j)⟩
  by_cases hqp : q = p
  · subst hqp
    rw [State.port_raise, hports]
    exact (if_pos rfl).symm
  · rw [State.port_raise_ne _ _ _ _ hqp, hports]
    exact (if_neg hqp).symm

end

/-- An EVENT timer's expiry: the timer reloads and raises TIMER, and nothing else of the input or the capture unit moves
(R148, R149). -/
theorem State.countTimer_event {s : State} {i : Fin 4} (hexp : (s.timer i).ExpiresAt .ofs)
    (ha : (s.timer i).action = .event) : (s.countTimer i false).timer i = (s.timer i).rewound
      ∧ (∀ q, (s.timer i).holder = some q → ((s.countTimer i false).port q).hasFlag .timer = true)
      ∧ (∀ j, j ≠ i → (s.countTimer i false).timer j = s.timer j)
      ∧ (s.countTimer i false).cap = s.cap ∧ (s.countTimer i false).slots = s.slots
      ∧ (s.countTimer i false).vin = s.vin := by
  rw [State.countTimer_of_event hexp ha]
  refine ⟨?_, fun q hq => ?_, fun j hj => ?_, ?_⟩
  · exact ((s.runOut i).timer_expiredIn i).trans (FrameTimer.expired_of_runOut hexp.1 (s.timer_runOut i))
  · exact State.hasFlag_expiredIn (by rw [State.timer_runOut]; exact hq)
  · exact ((s.runOut i).timer_expiredIn_ne i j hj).trans (State.timer_setTimer_ne _ _ _ _ hj)
  · rw [State.expiredIn_eq]
    exact ⟨rfl, rfl, rfl⟩

/-- A due silence count with no request in SETTLE or SAMPLE loses the lock, and that alone (R113, R135). -/
theorem State.takeFrameWork_silence_of_uncut {s : State} (hl : s.lapses)
    (hp : s.cap.active = none ∨ s.cap.phase ≠ .settle ∧ s.cap.phase ≠ .sample) :
    s.takeFrameWork .silence = { s.lockLost with frameTaken := s.frameTaken ++ [.silence] } := by
  show { s.silenceWork with frameTaken := s.silenceWork.frameTaken ++ [FrameWork.silence] } = _
  rw [State.silenceWork_of_uncut hl hp]
  rfl

/-- Settles O42: each row by the equation of its due work; the frame start and the input frame end by what stands of every
count once the works taken so far have been taken, whatever their order. -/
theorem dueCountsExpireAndTrigger : Obligations.DueCountsExpireAndTrigger := by
  refine ⟨⟨fun s => ⟨fun hr hl h7 hn => ?_, exec_silenceLimit_of_not⟩,
      fun l s => ⟨fun hr hm hc hn => ?_, exec_monitorExpiry_of_not⟩,
      fun i s => ⟨exec_timerExpiry_of_not, fun hr hdue hs ha hn => ?_⟩⟩,
    fun i p k slot s hr hrun hmode hs ha hk hh hp hc hn hslot => ?_, fun order s hpin hs => ?_,
    fun bus order r s hl hr => ?_⟩
  case refine_1 =>
    have hlapse : s.lapses := ⟨hl, h7⟩
    refine ⟨_, exec_silenceLimit hr hlapse hn, State.vin_silenceWork_of_lapses s hlapse,
      fun r hactive hp => State.silenceWork_of_cut hlapse hactive hp, fun hp => ?_⟩
    rw [State.takeFrameWork_silence_of_uncut hlapse hp]
    exact ⟨rfl, rfl, State.port_lockLost s⟩
  case refine_2 =>
    have honly := s.expireMonitor_only l
    have hlayer := s.layer_expireMonitor l
    refine ⟨_, exec_monitorExpiry hr hm hc hn, s.monitor_expireMonitor_self l, ?_, fun r hs hc ha => ?_,
      fun q hq => (s.hasFlag_expireMonitor l q).mpr (.inr hq), ?_⟩
    · refine (congrArg Layer.expired hlayer).trans ?_
      cases (s.monitor l).action <;> rfl
    · exact (congrArg Layer.staged hlayer).trans (Layer.staged_expire hs hc ha)
    · rw [honly]
      exact ⟨rfl, rfl, rfl⟩
  case refine_3 =>
    obtain ⟨hrun, hmode, hp, hc⟩ := hdue
    have hexp : (s.timer i).ExpiresAt .ofs := ⟨⟨hrun, hmode, hs⟩, hp, hc⟩
    exact ⟨_, exec_timerExpiry hr hexp hn, State.countTimer_event hexp ha⟩
  case refine_4 =>
    have hdue : CaptureDue s i p k slot := ⟨⟨⟨hrun, hmode, hs⟩, hp, hc⟩, ha, hh, hk, hslot⟩
    have hadmits := triggerAdmits_iff s p k.crop slot
    refine ⟨_, exec_timerExpiry hr hdue.expires hn, State.hasFlag_countTimer hh hp hc false, fun hoff => ?_,
      fun hon hadm => ?_, fun hon hadm => ?_⟩
    · obtain ⟨htimer, hcap, hslots⟩ := hdue.rewound (v := s.runOut i) rfl
      rw [← hdue.ignored hoff] at htimer hcap hslots
      exact ⟨htimer, hcap, hslots, hdue.trigger_ignored_told hoff⟩
    · have hmiss := mt hadmits.mp hadm
      obtain ⟨htimer, hcap, hslots⟩ := hdue.rewound (v := (s.runOut i).raise p .trigMiss) rfl
      rw [← hdue.missed hon hmiss] at htimer hcap hslots
      exact ⟨htimer, hcap, hslots, hdue.trigger_missed_told hon hmiss⟩
    · have hadm := hadmits.mpr hadm
      exact ⟨hdue.timer_accepted hon hadm, hdue.flag_accepted hon hadm, hdue.accepted_waits hon hadm,
        fun dead rest => hdue.accepted_served hon hadm⟩
  case refine_5 =>
    obtain ⟨done, u, hall, h, hexec⟩ := exec_outputFrameStart_stands order hpin hs
    have hlock := h.lock hall
    have hcut := fun r => h.cut_of_lost (r := r) hall
    have hrefresh := fun l => h.monitor_refreshed (l := l) hall
    have hcounted := fun l => h.monitor_unrefreshed (l := l) hall
    refine ⟨_, hexec, h.counts.silence (hall _), hlock, fun q => ?_, hcut, fun q l hm hn hun htold => ?_,
      fun q hq => ?_, fun l => ⟨(h.monitors l).stopped, fun hm hun hn => ?_, fun hm hun hn => ?_,
      fun hm hready hv hst hb _ hp => hrefresh l ⟨hready, hv, hst, hb⟩ hm hp⟩, fun i => ?_⟩
    · exact (h.counts.vinChange q).trans (or_congr_right (and_iff_right (hall _)))
    · exact h.expiry.must l q (hall _) ⟨hm, hn, (s.unrefreshed_iff l).mpr hun⟩ htold
    · exact (h.expiry.only q hq).imp_right fun ⟨l, ⟨hr, hn⟩, htold⟩ => ⟨l, hr, hn, htold⟩
    · exact (hcounted l hun).trans (Monitor.counted_of_early hm hn)
    · exact (hcounted l hun).trans (Monitor.counted_of_last hm hn)
    · obtain ⟨index, hindex, htimer⟩ := h.counts.timers i (hall _)
      obtain ⟨hstill, hmeasure, hpre, hcount, hexp⟩ := FrameTimer.onEvent_clauses htimer hindex
      refine ⟨fun hi => hstill (hi.imp_right fun hi => ⟨hi.1, by rw [hi.2]; nofun⟩), hmeasure, hpre, hcount,
        fun hc hp hn => ⟨(hexp hc hp hn).1, (hexp hc hp hn).2, h.counts.told i (hall _) ⟨hc, hp, hn⟩⟩⟩
  case refine_6 =>
    obtain ⟨done, hall, h⟩ := s.frameEnd_timers r (busLines bus) order
    have hgood := goodFrame_iff s.vin r (busLines bus)
    refine ⟨_, exec_inputFrameEnd hl hr, fun i => ?_⟩
    by_cases hg : goodFrame s.vin r (busLines bus) = true
    case neg =>
      have hbad := mt hgood.mpr hg
      exact ⟨fun _ => h.waiting i (.inl (Bool.eq_false_iff.mpr hg)), fun hgood => absurd hgood hbad,
        fun hc => absurd hc.1 hbad, fun hc => absurd hc.1 hbad, fun hc => absurd hc.1 hbad⟩
    obtain ⟨index, hindex, htimer⟩ := h.timers i hg (hall _)
    obtain ⟨hstill, hmeasure, hpre, hcount, hexp⟩ := FrameTimer.onEvent_clauses htimer hindex
    refine ⟨fun hi => hstill ((hi.resolve_left (not_not_intro (hgood.mp hg))).imp_right
        fun hi => ⟨hi.1, by rw [hi.2]; nofun⟩),
      fun _ => hmeasure, fun hc => hpre hc.2, fun hc => hcount hc.2, fun hc hp hn => ?_⟩
    exact ⟨(hexp hc.2 hp hn).1, (hexp hc.2 hp hn).2, h.told i hg (hall _) ⟨hc.2, hp, hn⟩⟩

end Sys2Proof.Machine
end

section
/-! PROOFS. The Capture Unit's invariant, and the commands of thumbnail capture (R120 to R125, R129, R134, R136, R137, R139,
R140). -/

namespace Sys2Proof.Machine

/-- Settles O56: every part of a step keeps the requests with the timers' templates that triggers use, whatever the slot
records and their counts are. -/
theorem captureUnitStaysConsistent : Obligations.CaptureUnitStaysConsistent := by
  rintro s t ⟨hc, ht⟩ he
  have h := step_sound he
  exact ⟨h.capture ht hc, h.timers ht⟩

/-! ### CAP_REQUEST (R123, R124, R129) -/

/-- The checks of a rectangle and its decimation, by what fails each of them (R123, steps 6 to 8). -/
theorem Crop.fault_eq (c : Crop) (v : TrailerInput) : c.fault v =
    if c.dx < 1 ∨ 8 < c.dx ∨ c.dy < 1 ∨ 8 < c.dy ∨ c.w < 1 ∨ c.h < 1 ∨ v.width < c.x + c.w
      ∨ v.height < c.y + c.h then some .badArg
    else if c.outWidth < 1 ∨ c.outHeight < 1 then some .badArg
    else if 256 < c.outWidth ∨ 256 < c.outHeight ∨ 16384 < c.outWidth * c.outHeight then some .tooLarge
    else none := by
  unfold Crop.fault
  refine if_congr ?_ rfl (if_congr ?_ rfl (if_congr ?_ rfl rfl))
  · simp only [Crop.fits, Bool.and_eq_true, decide_eq_true_eq]
    omega
  · omega
  · omega

/-- The checks 3 to 10 of R123, by what fails each of them. -/
theorem captureFault_eq (s : State) (p : Port) (i : Fin 64) (c : Crop) : captureFault s p i c =
    if (s.slot i).state ≠ .empty ∧ (s.slot i).state ≠ .ready then some .slotState
    else if (s.slot i).captureFlag = true then some .slotBusy
    else if s.vin.lock = .off ∨ s.vin.captureEnabled = false then some .noInput
    else if c.dx < 1 ∨ 8 < c.dx ∨ c.dy < 1 ∨ 8 < c.dy ∨ c.w < 1 ∨ c.h < 1 ∨ s.vin.width < c.x + c.w
      ∨ s.vin.height < c.y + c.h then some .badArg
    else if c.outWidth < 1 ∨ c.outHeight < 1 then some .badArg
    else if 256 < c.outWidth ∨ 256 < c.outHeight ∨ 16384 < c.outWidth * c.outHeight then some .tooLarge
    else if 4 ≤ s.cap.queue.length then some .capFull
    else if 5 ≤ s.outstanding p then some .capFull
    else none := by
  unfold captureFault
  rw [Crop.fault_eq]
  refine if_congr not_or rfl (if_congr .rfl rfl (if_congr .rfl rfl ?_))
  split_ifs <;> rfl

theorem Crop.fits_of_fault {c : Crop} {v : TrailerInput} (h : c.fault v = none) : c.fits v = true := by
  unfold Crop.fault at h
  split at h
  · cases h
  · rename_i hrange
    obtain ⟨_, _, _, _, _, _, hfits⟩ := not_not.mp hrange
    exact hfits

theorem State.outstanding_dropHead (s : State) (p q : Port) : (s.dropHead p).outstanding q = s.outstanding q := by
  rw [State.outstanding_eq, State.outstanding_eq, State.dropHead_cap]
  by_cases hq : q = p
  · subst hq
    rw [State.port_dropHead]
  · rw [State.port_dropHead_ne _ _ _ hq]

/-- A request that joins the queue is outstanding at its requester (R125). -/
theorem State.outstanding_enqueue (s : State) (r : CaptureRequest) :
    (s.enqueue r).outstanding r.requester = s.outstanding r.requester + 1 := by
  rw [State.outstanding_eq, State.outstanding_eq, State.requests_enqueue, List.countP_append, List.countP_singleton,
    if_pos (decide_eq_true rfl)]
  show _ + (s.port r.requester).reports.length = _
  omega

section
variable {p : Port} {tag slot : Byte} {x y w h : Half} {dx dy : Byte} {i : Fin 64} {s : State}

/-- The request that CAP_REQUEST asks for (R120, R124). -/
def commandRequest (p : Port) (tag : Byte) (i : Fin 64) (x y w h : Half) (dx dy : Byte) : CaptureRequest :=
  ⟨p, tag, i, ⟨x.toNat, y.toNat, w.toNat, h.toNat, dx.toNat, dy.toNat⟩, .command⟩

theorem capRequest_of_fault {o : OutcomeCode} (hn : slot.toNat = i.val) (ho : (s.slot i).owner = some p)
    (hf : captureFault s p i (commandRequest p tag i x y w h dx dy).crop = some o) :
    capRequest p tag slot x y w h dx dy s = (s, refuse o) := by
  refine (ownedSlot_of_owner hn ho).trans ?_
  dsimp only
  dsimp only [commandRequest] at hf
  rw [hf]

theorem capRequest_of_admitted {t : State} (hn : slot.toNat = i.val) (ho : (s.slot i).owner = some p)
    (hf : captureFault s p i (commandRequest p tag i x y w h dx dy).crop = none)
    (ht : s.acceptRequest (commandRequest p tag i x y w h dx dy) false = t)
    (hout : t.outstanding p = s.outstanding p + 1) :
    capRequest p tag slot x y w h dx dy s = (t,
      { outcome := .ok
        value := w.toNat / dx.toNat * (h.toNat / dy.toNat)
        extra := natBytes (w.toNat / dx.toNat) ++ natBytes (h.toNat / dy.toNat) ++ [natByte (s.outstanding p + 1)] }) := by
  refine (ownedSlot_of_owner hn ho).trans ?_
  dsimp only
  dsimp only [commandRequest] at hf ht
  rw [hf, ht, ← hout]
  rfl

/-- A request accepted with the unit free, in IDLE and LOCKED with no other waiting (R129). -/
theorem State.acceptRequest_alone {r : CaptureRequest} (hr : r.crop.fits s.vin = true) (hp : s.cap.phase = .idle)
    (hl : s.vin.lock = .locked) (hq : s.cap.queue = []) :
    s.acceptRequest r false = (s.enqueue r).setCap (startRequest s.cap s.vin.settle false r []) := by
  have hqueue : (s.enqueue r).cap.queue = [r] := by
    show s.cap.queue ++ [r] = [r]
    rw [hq]
    rfl
  have hact : (s.enqueue r).activate false = activateFrom false (s.enqueue r).cap.queue (s.enqueue r) :=
    if_pos ⟨hp, hl⟩
  rw [State.acceptRequest_eq, hact, hqueue]
  exact if_pos hr

/-- A request that became active at once is the only one outstanding in the unit (R125). -/
theorem State.outstanding_alone {r : CaptureRequest} (ha : s.cap.active = none) (hq : s.cap.queue = [])
    (settle : Nat) : ((s.enqueue r).setCap (startRequest s.cap settle false r [])).outstanding r.requester
      = s.outstanding r.requester + 1 := by
  have hrequests : s.cap.requests ++ [r] = [r] := by rw [CaptureUnit.requests_of_none ha, hq]; rfl
  rw [← State.outstanding_enqueue, State.outstanding_eq, State.outstanding_eq, State.requests_enqueue, hrequests]
  show (startRequest s.cap settle false r []).requests.countP _ + _ = _
  rw [startRequest_requests]
  rfl

end

/-- Settles O31: the checks in their order, then `acceptRequest` from what they have established. -/
theorem captureRequestChecksThenJoins : Obligations.CaptureRequestChecksThenJoins := by
  intro p tag slot x y w h dx dy i s ht hn ho f c ow oh fault r
  have hfault : captureFault (s.dropHead p) p i r.crop = fault := by
    rw [captureFault_eq, State.outstanding_dropHead]
    rfl
  refine ⟨fun o hf => exec_refused rfl ht (capRequest_of_fault (s := s.dropHead p) hn ho (hfault.trans hf)),
    fun hf => ⟨fun hwait => ?_, fun hidle hlock hq ha => ?_⟩⟩
  all_goals have hadmit := hfault.trans hf
  · have hacc : (s.dropHead p).acceptRequest r false = (s.dropHead p).enqueue r := State.acceptRequest_waits hwait
    have hop := capRequest_of_admitted (s := s.dropHead p) (x := x) (y := y) (w := w) (h := h) (dx := dx) (dy := dy)
      (tag := tag) hn ho hadmit hacc (State.outstanding_enqueue (s.dropHead p) r)
    rw [State.outstanding_dropHead] at hop
    exact exec_answered _ _ _ _ rfl ht hop
  · have hfits := Crop.fits_of_fault (fault_of_captureFault p hadmit)
    have hacc := State.acceptRequest_alone (s := s.dropHead p) (r := r) hfits hidle hlock hq
    have hop := capRequest_of_admitted (s := s.dropHead p) (x := x) (y := y) (w := w) (h := h) (dx := dx) (dy := dy)
      (tag := tag) hn ho hadmit hacc (State.outstanding_alone (s := s.dropHead p) (r := r) ha hq _)
    rw [State.outstanding_dropHead] at hop
    exact exec_answered _ _ _ _ rfl ht hop

/-! ### CAP_ENABLE (R122, R136) -/

/-- The answer of CAP_ENABLE in a state that it leaves (R122). -/
def captureAnswer (t : State) (n : Nat) : State × Answer := (t, { outcome := .ok, value := n, extra := vinExtra t.vin })

/-- The input with capture enabled or disabled. -/
def State.setEnabled (s : State) (b : Bool) : State := s.setVin { s.vin with captureEnabled := b }

theorem capEnable_one {p : Port} {s : State} (h : s.vin.holder = some p) :
    capEnable p 1 s = captureAnswer (s.setEnabled true) 1 := by
  refine (byHolder_of_eq h).trans ?_
  show captureAnswer (if (s.vin.captureEnabled && !true) = true then _ else _) 1 = _
  rw [if_neg (by simp)]
  rfl

theorem capEnable_zero {p : Port} {s : State} (h : s.vin.holder = some p) : capEnable p 0 s = captureAnswer
    (if s.vin.captureEnabled = true then (s.setEnabled false).abortAll .noInput else s.setEnabled false) 0 := by
  refine (byHolder_of_eq h).trans ?_
  show captureAnswer (if (s.vin.captureEnabled && !false) = true then _ else _) 0 = _
  rw [Bool.not_false, Bool.and_true]
  rfl

/-- CAP_ENABLE that leaves state `t` behind the frame's removal answers with the record of `t`. -/
theorem exec_capEnable {p : Port} {tag on : Byte} {s t : State} {n : Nat} (ht : Takes s p (frameCapEnable tag on))
    (hop : capEnable p on (s.dropHead p) = captureAnswer t n) :
    exec (.capEnable p tag on) s = .next (t.pushRecord p ⟨tag, 0x54, .ok, n, vinExtra t.vin⟩) :=
  exec_answered t _ _ _ rfl ht hop

theorem OnlyCapture.onlyInput {s t : State} (h : OnlyCapture s t) : OnlyInput s t := by
  cases s; cases t
  simp_all [OnlyCapture, OnlyInput]

/-- The ports after an answer that the end of requests comes with (R134, R136). -/
theorem Tells.port_answer {s t : State} {p : Port} {rs : List CaptureRequest} {e : OutcomeCode}
    (h : Tells rs e (s.dropHead p) t) (f : Frame) (o : OutcomeCode) (v : Nat) (x : List Byte) (q : Port) :
    (t.pushRecord p ⟨f.tag, f.code, o, v, x⟩).port q = ((s.answered p f o v x).port q).told q rs e :=
  State.port_answer (g := fun q y => y.told q rs e) (fun _ _ _ => rfl) h.ports q

/-- The unit after every request has been aborted: one that served is out of service (R133, R136). -/
theorem State.cap_abortAll_of_some {s : State} (h : s.cap.active ≠ none) (o : OutcomeCode) (ho : o ≠ .ok) :
    (s.abortAll o).cap = ⟨[], none, if s.vin.lock = .off then .idle else .recover, s.cap.settleCount, .none, .empty⟩ := by
  obtain ⟨r, ha⟩ := Option.ne_none_iff_exists'.mp h
  obtain ⟨_, _, hcap⟩ := State.abortActive_told ha ho
  rw [State.cap_abortAll, hcap]

theorem State.cap_abortAll_of_none {s : State} (h : s.cap.active = none) (o : OutcomeCode) :
    (s.abortAll o).cap = { s.cap with queue := [] } := by
  rw [State.cap_abortAll, State.abortActive_of_none h]

/-! ### CAP_CANCEL (R137) -/

theorem requestFor_of_none {c : CaptureUnit} {i : Fin 64} (h : ∀ r ∈ c.requests, r.slot ≠ i) : requestFor c i = none :=
  List.find?_eq_none.mpr fun r hr => by simpa using h r hr

/-- A slot is named by one request at most (R137). -/
theorem requestFor_of_mem {c : CaptureUnit} (h : (c.requests.map (·.slot)).Nodup) {r : CaptureRequest}
    (hr : r ∈ c.requests) : requestFor c r.slot = some r := by
  obtain ⟨b, hb⟩ : ∃ b, requestFor c r.slot = some b :=
    Option.isSome_iff_exists.mp (List.find?_isSome.mpr ⟨r, hr, decide_eq_true rfl⟩)
  have hslot : b.slot = r.slot := by simpa using List.find?_some hb
  rw [hb, List.inj_on_of_nodup_map h (List.mem_of_find?_eq_some hb) hr hslot]

/-- The request withdrawn has ended with CANCELLED (R134, R137). -/
theorem State.cancelRequest_tells (s : State) (r : CaptureRequest) : Tells [r] .cancelled s (s.cancelRequest r) := by
  unfold State.cancelRequest
  split
  · rename_i ha
    obtain ⟨hports, hslots, _⟩ := State.abortActive_told ha (o := .cancelled) nofun
    exact ⟨hports, hslots⟩
  · obtain ⟨hports, hslots, _⟩ := State.endRequest_told
      (s.setCap { s.cap with queue := s.cap.queue.filter fun q => q ≠ r }) r .cancelled nofun
    exact ⟨hports, hslots⟩

theorem State.cap_cancelRequest_active {s : State} {r : CaptureRequest} (ha : s.cap.active = some r) :
    (s.cancelRequest r).cap =
      ⟨s.cap.queue, none, if s.vin.lock = .off then .idle else .recover, s.cap.settleCount, .none, .empty⟩ := by
  obtain ⟨_, _, hcap⟩ := State.abortActive_told ha (o := .cancelled) nofun
  rw [State.cancelRequest, if_pos ha, hcap]

/-- The other requests keep their places (R137). -/
theorem State.requests_cancelRequest {s : State} (h : (s.cap.requests.map (·.slot)).Nodup) (r : CaptureRequest) :
    (s.cancelRequest r).cap.requests = s.cap.requests.filter fun q => q ≠ r := by
  by_cases ha : s.cap.active = some r
  · have hnodup : (r :: s.cap.queue).Nodup := by
      rw [← CaptureUnit.requests_of_some ha]
      exact h.of_map
    have hkept : ∀ q ∈ s.cap.queue, q ≠ r := fun q hq e => (List.nodup_cons.mp hnodup).1 (e ▸ hq)
    rw [State.cap_cancelRequest_active ha, CaptureUnit.requests_of_some ha]
    show s.cap.queue = (r :: s.cap.queue).filter _
    rw [List.filter_cons_of_neg (by simp), List.filter_eq_self.mpr (by simpa using hkept)]
  · rw [State.cancelRequest, if_neg ha, State.endRequest_cap]
    show s.cap.active.toList ++ _ = (s.cap.active.toList ++ s.cap.queue).filter _
    rw [List.filter_append]
    congr 1
    cases hs : s.cap.active with
    | none => rfl
    | some a =>
      have hne : a ≠ r := fun e => ha (by rw [hs, e])
      simp [hne]

section
variable {p : Port} {slot : Byte} {i : Fin 64} {s : State}

theorem capCancel_of_unnamed (hn : slot.toNat = i.val) (h : requestFor s.cap i = none) :
    capCancel p slot s = (s, refuse .badArg) := by
  rw [capCancel, slotOf_of_eq hn]
  dsimp only
  rw [h]

theorem capCancel_of_other {r : CaptureRequest} (hn : slot.toNat = i.val) (h : requestFor s.cap i = some r)
    (hr : r.requester ≠ p) : capCancel p slot s = (s, refuse .notOwner) := by
  rw [capCancel, slotOf_of_eq hn]
  dsimp only
  rw [h]
  exact if_neg hr

theorem capCancel_of_own {r : CaptureRequest} (hn : slot.toNat = i.val) (h : requestFor s.cap i = some r)
    (hr : r.requester = p) : capCancel p slot s = (s.cancelRequest r, { outcome := .ok, value := i.val }) := by
  rw [capCancel, slotOf_of_eq hn]
  dsimp only
  rw [h]
  exact if_pos hr

end

theorem PortState.told_of_ne (x : PortState) {q : Port} {r : CaptureRequest} (h : r.requester ≠ q) (o : OutcomeCode) :
    x.told q [r] o = x := by
  simp [PortState.told, h]

/-- Settles O30: CAP_ENABLE switched off is `abortAll` behind the holder's check, and CAP_CANCEL ends the one request that
names the slot. -/
theorem captureIsEnabledAndCancelled : Obligations.CaptureIsEnabledAndCancelled := by
  refine ⟨fun p tag on s ht hh => ⟨fun hon => ?_, ?_, ?_, ?_⟩, fun p tag slot s ht => ⟨fun hn => ?_, fun i hn =>
    ⟨fun hnone => ?_, fun r hr hi hok => ⟨fun hne => ?_, fun hp => ?_⟩⟩⟩⟩
  · exact exec_refused rfl ht (by
      rw [capEnable, byHolder_of_eq (s := s.dropHead p) hh, boolOf_of_le hon])
  · rintro rfl
    exact exec_capEnable ht (capEnable_one hh)
  · rintro rfl hoff
    have hsame : (s.dropHead p).setEnabled false = s.dropHead p := by
      rw [State.setEnabled, ← hoff]
      rfl
    have hop := capEnable_zero (s := s.dropHead p) hh
    rw [if_neg (by rw [State.dropHead_vin, hoff]; nofun), hsame] at hop
    exact exec_capEnable ht hop
  · rintro rfl hon
    have hop := (capEnable_zero (s := s.dropHead p) hh).trans (congrArg (captureAnswer · 0) (if_pos hon))
    have htells := ((s.dropHead p).setEnabled false).abortAll_tells (o := .noInput) nofun
    refine ⟨_, exec_capEnable ht hop, ?_, fun ha => ?_, fun ha => ?_, fun q => ?_, fun i => ?_, ?_⟩
    · exact State.vin_abortAll _ _
    · exact State.cap_abortAll_of_none (s := (s.dropHead p).setEnabled false) ha _
    · exact State.cap_abortAll_of_some (s := (s.dropHead p).setEnabled false) ha _ nofun
    · exact Tells.port_answer (s := s) ⟨htells.ports, htells.slots⟩ (frameCapEnable tag 0) _ _ _ q
    · exact htells.slots i
    · exact OnlyInput.answered (OnlyInput.trans (t := (s.dropHead p).setEnabled false) rfl
        (State.abortAll_only _ _).onlyInput) _
  · exact exec_refused rfl ht (by rw [capCancel, slotOf_of_le hn])
  · exact exec_refused rfl ht (capCancel_of_unnamed (s := s.dropHead p) hn (requestFor_of_none hnone))
  all_goals
    obtain ⟨hreq, _⟩ := (captureOk_iff s).mp hok
    have hfind : requestFor (s.dropHead p).cap i = some r := hi ▸ requestFor_of_mem hreq.nodup hr
  · exact exec_refused rfl ht (capCancel_of_other hn hfind hne)
  · have htells := (s.dropHead p).cancelRequest_tells r
    have hports := htells.port_answer (frameCapCancel tag slot) .ok i.val []
    refine ⟨_, exec_answered _ _ _ _ rfl ht (capCancel_of_own hn hfind hp), ?_, fun ha => ?_, ?_, fun j hj => ?_, ?_,
      fun q hq => ?_, ?_⟩
    · exact State.requests_cancelRequest (s := s.dropHead p) hreq.nodup r
    · exact State.cap_cancelRequest_active (s := s.dropHead p) ha
    · refine (htells.slots i).trans ?_
      rw [Slot.unnamed, if_pos ⟨r, List.mem_singleton_self r, hi⟩]
      rfl
    · refine (htells.slots j).trans ?_
      rw [Slot.unnamed, if_neg (by simpa [hi] using Ne.symm hj)]
      rfl
    · rw [hports, State.port_answered, State.port_dropHead]
      simp [PortState.told, hp, hi, frameCapCancel]
    · rw [hports, PortState.told_of_ne _ (by rw [hp]; exact Ne.symm hq), State.answered, State.pushRecord,
        State.port_setPort_ne _ _ _ _ hq, State.port_dropHead_ne _ _ _ hq]
    · exact (OnlyCapture.trans (t := s.dropHead p) rfl ((s.dropHead p).cancelRequest_only r)).trans rfl

end Sys2Proof.Machine
end

section
/-! PROOFS. The Capture Unit at an input frame end (R127 to R135), in whatever order the blocks take it. -/

namespace Sys2Proof.Machine

/-! ### The thumbnail in raster order (R127) -/

/-- The element in column `i` of row `j` of rows of equal width, laid one behind the other. -/
theorem getElem?_raster {α : Type} (g : Nat → Nat → α) (w h : Nat) {i j : Nat} (hi : i < w) (hj : j < h) :
    ((List.range h).flatMap fun b => (List.range w).map (g b))[j * w + i]? = some (g j i) := by
  have hlen (n : Nat) : ((List.range n).flatMap fun b => (List.range w).map (g b)).length = n * w := by
    simp [List.length_flatMap]
  induction h with
  | zero => cases hj
  | succ h ih =>
    rw [List.range_succ, List.flatMap_append, List.flatMap_singleton]
    by_cases hjh : j < h
    · have hlt : j * w + i < h * w := by
        have := Nat.mul_le_mul_right w (Nat.succ_le_of_lt hjh)
        rw [Nat.succ_mul] at this
        omega
      rw [List.getElem?_append_left (by rw [hlen]; exact hlt)]
      exact ih hjh
    · obtain rfl : j = h := by omega
      rw [List.getElem?_append_right (by rw [hlen]; omega), hlen, Nat.add_sub_cancel_left, List.getElem?_map,
        List.getElem?_range hi]
      rfl

theorem getElem?_thumbnail (f : VideoFrame) (c : Crop) {i j : Nat} (hi : i < c.outWidth) (hj : j < c.outHeight) :
    (thumbnail f c)[j * c.outWidth + i]? = some (cellAverage c (cellPixels f c i j)) :=
  getElem?_raster (fun j i => cellAverage c (cellPixels f c i j)) _ _ hi hj

/-! ### The queue considered at an input frame end (R129, R131) -/

/-- The queue considered in IDLE and LOCKED; the frame that begins at an input frame end can be sampled (R129, R131). -/
theorem State.activate_served_at {s : State} {dead rest : List CaptureRequest} (atMark : Bool) (hp : s.cap.phase = .idle)
    (hl : s.vin.lock = .locked) (hq : FirstFit s.vin s.cap.queue dead rest) :
    Tells dead .badArg s (s.activate atMark)
      ∧ (s.activate atMark).cap = s.cap.served s.vin.settle (if atMark = true then .receiving else .awaited) rest := by
  obtain ⟨hqueue, hdead, hrest⟩ := hq
  obtain ⟨hports, hslots, hcap⟩ := activateFrom_told atMark dead rest s
    (fun d hd => by simpa [CaptureRequest.within_iff] using hdead d hd)
    fun b hb => (b.within_iff s.vin).mp (hrest b hb)
  rw [State.activate, if_pos ⟨hp, hl⟩, hqueue]
  refine ⟨⟨hports, hslots⟩, hcap.trans ?_⟩
  cases rest <;> rfl

/-- Nothing begins with no request queued, or out of LOCKED (R129). -/
theorem State.activate_of_nothing {s : State} (h : s.vin.lock ≠ .locked ∨ s.cap.queue = []) (atMark : Bool) :
    s.activate atMark = s := by
  unfold State.activate
  split
  · rename_i hidle
    have hq := h.resolve_left (not_not_intro hidle.2)
    rw [hq, activateFrom, ← hq]
    rfl
  · rfl

theorem FirstFit.congr {v w : TrailerInput} (hw : w.width = v.width) (hh : w.height = v.height)
    {queue dead rest : List CaptureRequest} (h : FirstFit v queue dead rest) : FirstFit w queue dead rest := by
  simpa only [FirstFit, CaptureRequest.within, hw, hh] using h

/-! ### What the other blocks leave -/

/-- From `s` to `t` nothing is reported and no trigger is taken: the slots, the reports, TRIG_MISS and the timers' places
in their templates stay, and flags only join. -/
structure Rests (s t : State) : Prop where
  slots : t.slots = s.slots
  reports : ∀ q, (t.port q).reports = (s.port q).reports
  flags : FlagsStay s t
  spared : FlagKept .trigMiss s t
  index : ∀ i, (t.timer i).templateIndex = (s.timer i).templateIndex

theorem Rests.refl (s : State) : Rests s s := ⟨rfl, fun _ => rfl, .refl s, .refl _ s, fun _ => rfl⟩

theorem Rests.trans {s t u : State} (h : Rests s t) (k : Rests t u) : Rests s u where
  slots := k.slots.trans h.slots
  reports q := (k.reports q).trans (h.reports q)
  flags := h.flags.trans k.flags
  spared := h.spared.trans k.spared
  index i := (k.index i).trans (h.index i)

/-- A write that leaves the slots, the ports and the timers. -/
theorem Rests.of_same {s t : State} (hslots : t.slots = s.slots) (hports : t.ports = s.ports)
    (htimers : t.timers = s.timers) : Rests s t :=
  ⟨hslots, fun q => by rw [State.port, hports]; rfl, .of_ports hports, .of_ports hports,
    fun i => by rw [State.timer, htimers]; rfl⟩

theorem Rests.slot {s t : State} (h : Rests s t) (i : Fin 64) : t.slot i = s.slot i := by
  rw [State.slot, h.slots]
  rfl

/-- From `s` to `t` neither the Capture Unit nor the input moves either. -/
structure Still (s t : State) : Prop extends Rests s t where
  cap : t.cap = s.cap
  vin : t.vin = s.vin

theorem Still.refl (s : State) : Still s s := ⟨.refl s, rfl, rfl⟩

theorem Still.trans {s t u : State} (h : Still s t) (k : Still t u) : Still s u :=
  ⟨h.toRests.trans k.toRests, k.cap.trans h.cap, k.vin.trans h.vin⟩

/-- A timer's record written, at the same place of its template. -/
theorem Still.setTimer (s : State) (i : Fin 4) {m : FrameTimer} (hm : m.templateIndex = (s.timer i).templateIndex) :
    Still s (s.setTimer i m) := by
  refine ⟨⟨rfl, fun _ => rfl, .of_ports rfl, .of_ports rfl, fun j => ?_⟩, rfl, rfl⟩
  by_cases hj : j = i
  · subst hj
    rw [State.timer_setTimer]
    exact hm
  · rw [State.timer_setTimer_ne _ _ _ _ hj]

theorem Still.raiseAt (s : State) (p : Option Port) {f : EventFlag} (hf : f ≠ .trigMiss) : Still s (s.raiseAt p f) := by
  refine ⟨⟨?_, fun q => State.reports_raiseAt s p q f, ?_, .raiseAt (f := .trigMiss) nofun hf s p,
    fun i => ?_⟩, ?_, ?_⟩
  · rw [State.raiseAt_eq]
  · exact (Quiet.raiseAt (k := .scene) s p f).sticky
  · rw [State.raiseAt_eq]
    rfl
  · rw [State.raiseAt_eq]
  · rw [State.raiseAt_eq]

theorem Still.runOut (s : State) (i : Fin 4) : Still s (s.runOut i) := .setTimer s i rfl

/-- What an expiry does beside its trigger (R149). -/
theorem Still.expiredIn (s : State) (i : Fin 4) : Still s (s.expiredIn i) := by
  have hraise : Still s (s.raiseAt (s.timer i).holder .timer) := .raiseAt s _ nofun
  exact hraise.trans (.setTimer _ i (hraise.index i).symm)

/-- A timer's event that triggers no capture (R148, R149). -/
theorem Still.countTimer (s : State) (i : Fin 4) (atMark : Bool) (h : ¬ ((s.timer i).action = .capture
    ∧ (s.timer i).prescaler ≤ (s.timer i).prescaleCount + 1 ∧ (s.timer i).count ≤ 1)) :
    Still s (s.countTimer i atMark) := by
  by_cases hlast : (s.timer i).prescaler ≤ (s.timer i).prescaleCount + 1 ∧ (s.timer i).count ≤ 1
  · rw [State.countTimer_of_last hlast.1 hlast.2, State.expireTimer_eq, State.timer_runOut,
      if_neg fun ha => h ⟨ha, hlast⟩]
    exact (Still.runOut s i).trans (.expiredIn _ i)
  · unfold State.countTimer
    dsimp only
    split
    case isFalse => exact .setTimer s i rfl
    rename_i hfull
    rw [if_neg fun hn => hlast ⟨by simpa [prescaleFull] using hfull, hn⟩]
    exact .setTimer s i rfl

theorem Still.timerMarkWork (s : State) (i : Fin 4) (h : ¬ (s.timer i).TriggersAt .ife) :
    Still s (s.timerMarkWork i) := by
  unfold State.timerMarkWork
  dsimp only
  split
  case isFalse => exact .refl s
  rename_i hr
  split
  · exact .setTimer s i rfl
  all_goals
    rename_i hmode
    split
    · rename_i hs
      exact .countTimer s i true fun ⟨ha, hfull, hlast⟩ => h ⟨hr, by rw [hmode]; nofun, hs, ha, hfull, hlast⟩
    · exact .refl s

/-! ### The other timers (R148, R152) -/

/-- The work of a timer that triggers no capture. -/
theorem Still.markWork_timer {c : MarkContext} {s : State} {i : Fin 4}
    (h : c.good = true → ¬ (s.timer i).TriggersAt .ife) : Still s (markWork c (.timer i) s) := by
  unfold markWork
  dsimp only
  split
  · exact .timerMarkWork s i (h ‹_›)
  · exact .refl s

/-- From `s` to `t` the works `ks` are taken in their order, with `R` before, between and behind them. -/
def Chain {ι : Type} (R : State → State → Prop) (work : ι → State → State) : List ι → State → State → Prop
  | [], s, t => R s t
  | k :: ks, s, t => ∃ u, R s u ∧ Chain R work ks (work k u) t

section
variable {ι : Type} {R : State → State → Prop} {work : ι → State → State} {ready : ι → State → Prop}
  (htrans : ∀ s t u, R s t → R t u → R s u)
include htrans

theorem Chain.of_step {s u t : State} {ks : List ι} (h : R s u) (hu : Chain R work ks u t) : Chain R work ks s t := by
  cases ks with
  | nil => exact htrans s u t h hu
  | cons k ks =>
    obtain ⟨v, hv, ht⟩ := hu
    exact ⟨v, htrans s u v h hv, ht⟩

/-- Works taken once each, of which `keeps` names some and each other one keeps to `R` where it is `ready`, which no work
but its own changes. -/
theorem Chain.foldl (hrefl : ∀ s, R s s) (keeps : ι → Bool)
    (hstep : ∀ k u, keeps k = false → ready k u → R u (work k u))
    (hready : ∀ k j u, k ≠ j → ready k u → ready k (work j u)) (ks : List ι) (s : State) (hn : ks.Nodup)
    (h : ∀ k ∈ ks, keeps k = false → ready k s) :
    Chain R work (ks.filter keeps) s (ks.foldl (fun u k => work k u) s) := by
  induction ks generalizing s with
  | nil => exact hrefl s
  | cons k rest ih =>
    obtain ⟨hk, hrest⟩ := List.nodup_cons.mp hn
    have hchain := ih (work k s) hrest fun j hj hkeep =>
      hready j k s (fun e => hk (e ▸ hj)) (h j (List.mem_cons_of_mem k hj) hkeep)
    by_cases hkeep : keeps k = true
    · rw [List.filter_cons_of_pos hkeep]
      exact ⟨s, hrefl s, hchain⟩
    · rw [List.filter_cons_of_neg hkeep]
      have hkeep : keeps k = false := Bool.eq_false_iff.mpr hkeep
      exact Chain.of_step htrans (hstep k s hkeep (h k List.mem_cons_self hkeep)) hchain

end

/-- The works of a list that are one of two, each in it once: in one order or the other. -/
theorem filter_pair {ι : Type} [DecidableEq ι] {ks : List ι} (hn : ks.Nodup) {a b : ι} (hab : a ≠ b) (ha : a ∈ ks)
    (hb : b ∈ ks) : ks.filter (fun k => k = a ∨ k = b) = [a, b] ∨ ks.filter (fun k => k = a ∨ k = b) = [b, a] := by
  refine List.perm_pair.mp ((List.perm_ext_iff_of_nodup (hn.filter _) (by simp [hab])).mpr fun k => ?_)
  simp only [List.mem_filter, decide_eq_true_eq, List.mem_cons, List.not_mem_nil, or_false, and_iff_right_iff_imp]
  rintro (rfl | rfl) <;> assumption

theorem filter_single {ι : Type} [DecidableEq ι] {ks : List ι} (hn : ks.Nodup) {a : ι} (ha : a ∈ ks) :
    ks.filter (fun k => k = a) = [a] := by
  refine List.perm_singleton.mp ((List.perm_ext_iff_of_nodup (hn.filter _) (List.nodup_singleton a)).mpr fun k => ?_)
  simp only [List.mem_filter, decide_eq_true_eq, List.mem_singleton, and_iff_right_iff_imp]
  rintro rfl
  exact ha

/-- Whether a timer's work at an input frame end triggers no capture. -/
def MarkQuiet (c : MarkContext) (k : MarkWork) (s : State) : Prop :=
  c.good = true → ∀ i, k = .timer i → ¬ (s.timer i).TriggersAt .ife

theorem MarkQuiet.step {c : MarkContext} {k j : MarkWork} {s : State} (h : k ≠ j) (hs : MarkQuiet c k s) :
    MarkQuiet c k (markWork c j s) := by
  rintro hg i rfl
  rw [Machine.markWork_timer c s i h.symm]
  exact hs hg i rfl

/-- From `s` to `t` the Capture Unit would notice nothing, and timer `i` is as it was. -/
def StillBeside (i : Fin 4) (s t : State) : Prop := Still s t ∧ t.timer i = s.timer i

theorem StillBeside.trans {i : Fin 4} {s t u : State} (h : StillBeside i s t) (k : StillBeside i t u) :
    StillBeside i s u := ⟨h.1.trans k.1, k.2.trans h.2⟩

theorem markOrder_nodup (order : List MarkWork) : (markOrder order).Nodup := firsts_nodup _

theorem mem_markOrder (order : List MarkWork) (k : MarkWork) : k ∈ markOrder order := by
  simp [markOrder, mem_firsts, mem_allMarkWork]

section
variable (s : State) (r : ReceivingFrame) (lines : List (List Half)) (order : List MarkWork)

/-- The state that the input store leaves at an input frame end (R115). -/
def State.storedAt : State := s.storeFrame (goodFrame s.vin r lines) lines

/-- An input frame end that triggers no capture: the Capture Unit's work alone. -/
theorem State.frameEnd_untriggered (h : goodFrame s.vin r lines = true → ∀ i, ¬ (s.timer i).TriggersAt .ife) :
    Chain Still (markWork (markContext s r lines)) [.lockAndCapture] (s.storedAt r lines)
      (s.frameEnd r lines order) := by
  have hchain := Chain.foldl (R := Still) (work := markWork (markContext s r lines)) (fun _ _ _ => .trans) .refl
    (fun k => k = .lockAndCapture) (ready := MarkQuiet (markContext s r lines)) (fun k u hk hready => ?_)
    (fun k j u => MarkQuiet.step) (markOrder order) (s.storedAt r lines) (markOrder_nodup order)
    fun k _ _ hg i _ => h hg i
  · rwa [filter_single (markOrder_nodup order) (mem_markOrder order _)] at hchain
  · cases k with
    | lockAndCapture => simp at hk
    | timer i => exact .markWork_timer fun hg => hready hg i rfl

/-- An input frame end at which timer `i` alone may trigger a capture: its work before the Capture Unit's, or behind it. -/
theorem State.frameEnd_triggered {i : Fin 4}
    (h : goodFrame s.vin r lines = true → ∀ j, j ≠ i → ¬ (s.timer j).TriggersAt .ife) :
    Chain (StillBeside i) (markWork (markContext s r lines)) [.timer i, .lockAndCapture] (s.storedAt r lines)
        (s.frameEnd r lines order)
      ∨ Chain (StillBeside i) (markWork (markContext s r lines)) [.lockAndCapture, .timer i] (s.storedAt r lines)
        (s.frameEnd r lines order) := by
  have hchain := Chain.foldl (R := StillBeside i) (work := markWork (markContext s r lines)) (fun _ _ _ => .trans)
    (fun s => ⟨.refl s, rfl⟩) (fun k => k = .timer i ∨ k = .lockAndCapture)
    (ready := MarkQuiet (markContext s r lines)) (fun k u hk hready => ?_) (fun k j u => MarkQuiet.step) (markOrder order) (s.storedAt r lines) (markOrder_nodup order)
    fun k _ hk hg j hj => h hg j fun e => by simp [hj, e] at hk
  · refine (filter_pair (markOrder_nodup order) (a := .timer i) (b := .lockAndCapture) nofun (mem_markOrder order _)
      (mem_markOrder order _)).imp (fun hf => ?_) fun hf => ?_
    all_goals rwa [hf] at hchain
  · cases k with
    | lockAndCapture => simp at hk
    | timer j =>
      exact ⟨.markWork_timer fun hg => hready hg j rfl, Machine.markWork_timer _ u i fun e => by simp [e] at hk⟩

end

/-! ### The lock state machine (R112, R135) -/

theorem TrailerInput.judged_format (v : TrailerInput) (good : Bool) : (v.judged good).width = v.width
    ∧ (v.judged good).height = v.height ∧ (v.judged good).settle = v.settle := by
  unfold TrailerInput.judged
  split <;> try split
  all_goals exact ⟨rfl, rfl, rfl⟩

theorem TrailerInput.judged_off {v : TrailerInput} (h : v.lock = .off) (good : Bool) :
    v.judged good = { v with silence := 0, lock := .off } := by unfold TrailerInput.judged; rw [h]

/-- When a frame's judgement leaves the state LOCKED (R112). -/
theorem TrailerInput.judged_locked_iff (v : TrailerInput) (good : Bool) : (v.judged good).lock = .locked ↔
    v.lock = .locked ∧ (good = true ∨ v.badRun = 0) ∨ v.lock = .acquiring ∧ good = true ∧ 2 ≤ v.goodCount := by
  cases hl : v.lock with
  | off => simp [TrailerInput.judged, hl]
  | acquiring =>
    cases good with
    | false => simp [TrailerInput.judged_acquiring_bad hl]
    | true =>
      rcases Nat.lt_or_ge v.goodCount 2 with h2 | h2
      · simp [TrailerInput.judged_early_good hl h2, h2]
      · simp [TrailerInput.judged_third_good hl h2, h2]
  | locked =>
    cases good with
    | true => simp [TrailerInput.judged_locked_good hl]
    | false =>
      rcases Nat.eq_zero_or_pos v.badRun with h0 | h1
      · simp [TrailerInput.judged_first_bad hl h0, h0]
      · simp [TrailerInput.judged_second_bad hl h1, h1.ne']
  | lost =>
    cases good with
    | true => simp [TrailerInput.judged_lost_good hl]
    | false => simp [TrailerInput.judged_lost_bad hl]

/-- LOCKED is left for LOST alone (R112). -/
theorem TrailerInput.judged_lost {v : TrailerInput} {good : Bool} (h : v.lock = .locked)
    (hn : (v.judged good).lock ≠ .locked) : (v.judged good).lock = .lost := by
  cases good with
  | true => exact absurd (congrArg TrailerInput.lock (TrailerInput.judged_locked_good h)) hn
  | false =>
    rcases Nat.eq_zero_or_pos v.badRun with h0 | h1
    · exact absurd (congrArg TrailerInput.lock (TrailerInput.judged_first_bad h h0)) hn
    · rw [TrailerInput.judged_second_bad h h1]

/-- `t` is `s` with the input's counts written and then its lock state moved to `st`. -/
def LockMoved (st : LockState) (s t : State) : Prop := ∃ v, v.lock = s.vin.lock ∧ t = (s.setVin v).moveLock st

/-- The lock state machine is one move of the lock state (R112). -/
theorem State.lockStep_moved (s : State) (good : Bool) : LockMoved (s.vin.judged good).lock s (s.lockStep good) := by
  have stay {v w : TrailerInput} (hj : s.vin.judged good = w) (h : s.vin.lock = w.lock) (hv : v.lock = s.vin.lock) :
      LockMoved (s.vin.judged good).lock s (s.setVin v) :=
    ⟨v, hv, by rw [hj, ← h, ← hv]; exact (State.moveLock_self rfl).symm⟩
  have move {v w : TrailerInput} (hj : s.vin.judged good = w) (hv : v.lock = s.vin.lock) :
      LockMoved (s.vin.judged good).lock s ((s.setVin v).moveLock w.lock) := ⟨v, hv, by rw [hj]⟩
  unfold State.lockStep
  dsimp only
  split
  case h_1 hl => exact stay (TrailerInput.judged_off (v := s.vin) hl _) hl rfl
  case h_2 hl =>
    split
    case isTrue hn => exact stay (TrailerInput.judged_early_good (v := s.vin) hl (Nat.lt_of_succ_lt_succ hn)) hl rfl
    case isFalse hn => exact move (TrailerInput.judged_third_good (v := s.vin) hl (by simpa using hn)) rfl
  case h_3 hl => exact stay (TrailerInput.judged_acquiring_bad (v := s.vin) hl) hl rfl
  case h_4 hl => exact stay (TrailerInput.judged_locked_good (v := s.vin) hl) hl rfl
  case h_5 hl =>
    split
    case isTrue hn => exact stay (TrailerInput.judged_first_bad (v := s.vin) hl (by simpa using hn)) hl rfl
    case isFalse hn =>
      have hrun : 1 ≤ s.vin.badRun := Nat.one_le_iff_ne_zero.mpr (by simpa using hn)
      exact move (TrailerInput.judged_second_bad (v := s.vin) hl hrun) rfl
  case h_6 hl => exact move (TrailerInput.judged_lost_good (v := s.vin) hl) rfl
  case h_7 hl => exact stay (TrailerInput.judged_lost_bad (v := s.vin) hl) hl rfl

theorem Rests.withLock (s : State) (st : LockState) : Rests s (s.withLock st) := by
  have hmore (q : Port) : ∃ more, more &&& flagBit .trigMiss = 0#9
      ∧ ((s.withLock st).port q).sticky = (s.port q).sticky ||| more := by
    rw [State.port_withLock]
    dsimp only
    split
    · exact ⟨0#9, BitVec.zero_and, BitVec.or_zero.symm⟩
    · exact ⟨flagBit .vinChange, flagBit_and_of_ne nofun, rfl⟩
  refine ⟨s.slots_withLock st, fun q => by rw [State.port_withLock], fun q => ?_, fun q => ?_, fun i => ?_⟩
  · obtain ⟨more, _, hq⟩ := hmore q
    exact ⟨more, hq⟩
  · obtain ⟨more, hother, hq⟩ := hmore q
    exact PortState.hasFlag_of_other nofun hother hq
  · unfold State.withLock
    split <;> rfl

/-- Whether an input frame end aborts the active request (R135). -/
def State.cutAtMark (s : State) (good : Bool) : Prop := s.cuts (s.vin.judged good).lock

theorem State.not_cutAtMark_of_locked {s : State} {good : Bool} (h : (s.vin.judged good).lock = .locked) :
    ¬ s.cutAtMark good := fun ⟨hne, hl, _⟩ => hne (hl.trans h.symm)

theorem State.not_cutAtMark_of_phase {s : State} (h : ¬ (s.cap.phase = .settle ∨ s.cap.phase = .sample)) (good : Bool) :
    ¬ s.cutAtMark good := fun ⟨_, _, hp⟩ => h hp

/-- Where no request is aborted the lock state machine leaves the Capture Unit (R112). -/
theorem State.lockStep_rests {s : State} {good : Bool} (h : ¬ s.cutAtMark good) :
    Rests s (s.lockStep good) ∧ (s.lockStep good).cap = s.cap := by
  obtain ⟨v, hv, hmove⟩ := s.lockStep_moved good
  have hcuts : ¬ (s.setVin v).cuts (s.vin.judged good).lock := fun hn => h ⟨hv ▸ hn.1, hv ▸ hn.2.1, hn.2.2⟩
  rw [hmove, State.moveLock_of_not_cuts hcuts]
  exact ⟨Rests.trans (t := s.setVin v) (.of_same rfl rfl rfl) (.withLock _ _), State.cap_withLock _ _⟩

/-- From `s` to `t` the requests `rs` have ended with outcome `o`, and nothing else is reported (R134, R139, R140). -/
structure EndTold (rs : List CaptureRequest) (o : OutcomeCode) (s t : State) : Prop where
  reports : ∀ q, (t.port q).reports = ((s.port q).told q rs o).reports
  told : ∀ d ∈ rs, (t.port d.requester).hasFlag .capAbort = true
  slots : ∀ i, t.slot i = (s.slot i).unnamed i rs

theorem Tells.endTold {rs : List CaptureRequest} {o : OutcomeCode} {s t : State} (h : Tells rs o s t) :
    EndTold rs o s t where
  reports q := by rw [h.ports]
  told d hd := by
    rw [h.ports]
    exact PortState.hasFlag_told _ hd o
  slots := h.slots

theorem Rests.endTold {rs : List CaptureRequest} {o : OutcomeCode} {s t u : State} (h : Rests s t)
    (k : EndTold rs o t u) : EndTold rs o s u where
  reports q := (k.reports q).trans (PortState.reports_told_congr (h.reports q) q rs o)
  told := k.told
  slots i := by rw [k.slots, h.slot]

theorem EndTold.rests {rs : List CaptureRequest} {o : OutcomeCode} {s t u : State} (h : EndTold rs o s t)
    (k : Rests t u) : EndTold rs o s u where
  reports q := (k.reports q).trans (h.reports q)
  told d hd := k.flags.hasFlag nofun (h.told d hd)
  slots i := (k.slot i).trans (h.slots i)

/-- The second bad frame in a row aborts the request in SETTLE or SAMPLE (R112, R133 to R135). -/
theorem State.lockStep_cut {s : State} {good : Bool} {a : CaptureRequest} (h : s.cutAtMark good)
    (ha : s.cap.active = some a) : EndTold [a] .noInput s (s.lockStep good)
      ∧ (s.lockStep good).cap = ⟨s.cap.queue, none, .recover, s.cap.settleCount, .none, .empty⟩ := by
  obtain ⟨v, hv, hmove⟩ := s.lockStep_moved good
  have hcuts : (s.setVin v).cuts (s.vin.judged good).lock := ⟨hv ▸ h.1, hv ▸ h.2.1, h.2.2⟩
  have hlost : (s.vin.judged good).lock = .lost := TrailerInput.judged_lost h.2.1 fun e => h.1 (h.2.1.trans e.symm)
  have htells := (s.setVin v).moveLock_tells (s.vin.judged good).lock
  have hended : (s.setVin v).cutBy (s.vin.judged good).lock = [a] := by
    rw [State.cutBy_of_cuts hcuts]
    exact congrArg Option.toList ha
  rw [hended] at htells
  rw [hmove]
  have hrests : Rests s ((s.setVin v).withLock (s.vin.judged good).lock) :=
    Rests.trans (t := s.setVin v) (.of_same rfl rfl rfl) (.withLock _ _)
  exact ⟨hrests.endTold htells.endTold, State.cap_moveLock_of_cuts hcuts (by rw [hlost]; nofun) ha⟩

/-! ### The Capture Unit's work (R130, R131, R133) -/

/-- The unit in SETTLE, SAMPLE or HELD behind an input frame end, the lock kept (R130, R131). -/
def CaptureUnit.atMark (c : CaptureUnit) (v : TrailerInput) (good : Bool) (f : VideoFrame) (phase : Phase)
    (sampled : Sampled) : CaptureUnit :=
  if phase = .settle ∧ c.phase = .settle then settleStep v good c
  else if phase = .sample ∧ sampled = .receiving ∧ c.phase = .sample then sampleStep good f c
  else beginSampled c

/-- An input frame end for a unit that serves a request and keeps it. -/
theorem State.lockAndCapture_serving {s : State} {good : Bool} (f : VideoFrame) (phase : Phase) (sampled : Sampled)
    (h : ¬ s.cutAtMark good) (hp : s.cap.phase.serving = true) :
    Rests s (s.lockAndCapture good f phase sampled)
      ∧ (s.lockAndCapture good f phase sampled).cap = s.cap.atMark (s.vin.judged good) good f phase sampled := by
  obtain ⟨hrests, hcap⟩ := State.lockStep_rests h
  have hset (c : CaptureUnit) : Rests s ((s.lockStep good).setCap c) := hrests.trans (.of_same rfl rfl rfl)
  unfold State.lockAndCapture CaptureUnit.atMark
  dsimp only
  rw [hcap, State.vin_lockStep]
  split
  case isTrue hr =>
    rw [hr] at hp
    cases hp
  split
  · exact ⟨hset _, rfl⟩
  split
  · exact ⟨hset _, rfl⟩
  · have hserving : (beginSampled s.cap).phase ≠ .idle := by
      intro hidle
      rw [(beginSampled_keeps s.cap).1] at hidle
      rw [hidle] at hp
      cases hp
    rw [State.activate_of_not fun hn => hserving hn.1]
    exact ⟨hset _, rfl⟩

/-- The unit with no request in service, in IDLE. -/
def State.freed (s : State) : State := s.setCap { s.cap with phase := .idle }

/-- An input frame end for a unit that serves none, or serves none once the lock has moved: the queue considered (R129,
R133). -/
theorem State.lockAndCapture_free {s : State} {good : Bool} (f : VideoFrame) (phase : Phase) (sampled : Sampled)
    (hp : (s.lockStep good).cap.phase = .idle ∨ (s.lockStep good).cap.phase = .recover) :
    s.lockAndCapture good f phase sampled = (s.lockStep good).freed.activate true := by
  unfold State.lockAndCapture
  dsimp only
  rcases hp with hp | hp
  · have hsame : (s.lockStep good).setCap (beginSampled (s.lockStep good).cap) = (s.lockStep good).freed := by
      rw [beginSampled, if_neg (by rw [hp]; nofun), State.freed, ← hp]
    rw [hp, if_neg nofun, if_neg (by simp), if_neg (by simp), hsame]
  · rw [if_pos hp]
    rfl

section
variable {s : State} {good : Bool} (f : VideoFrame) (phase : Phase) (sampled : Sampled)

/-- The unit's work once the lock has moved and left none in service, with nothing to begin (R133). -/
theorem State.lockAndCapture_freed (hp : (s.lockStep good).cap.phase = .idle ∨ (s.lockStep good).cap.phase = .recover)
    (hl : (s.vin.judged good).lock ≠ .locked ∨ (s.lockStep good).cap.queue = []) :
    s.lockAndCapture good f phase sampled = (s.lockStep good).freed := by
  rw [State.lockAndCapture_free f phase sampled hp]
  have hvin : (s.lockStep good).freed.vin = s.vin.judged good := s.vin_lockStep good
  exact State.activate_of_nothing (by rw [hvin]; exact hl) true

/-- A unit that serves none, at an input frame end that leaves it nothing to begin (R133). -/
theorem State.lockAndCapture_waits (hp : s.cap.phase = .idle ∨ s.cap.phase = .recover)
    (hl : (s.vin.judged good).lock ≠ .locked ∨ s.cap.queue = []) : Rests s (s.lockAndCapture good f phase sampled)
      ∧ (s.lockAndCapture good f phase sampled).cap = { s.cap with phase := .idle } := by
  have hserves : ¬ (s.cap.phase = .settle ∨ s.cap.phase = .sample) := by
    rcases hp with hp | hp <;> rw [hp] <;> nofun
  obtain ⟨hrests, hcap⟩ := State.lockStep_rests (State.not_cutAtMark_of_phase hserves good)
  rw [State.lockAndCapture_freed f phase sampled (by rw [hcap]; exact hp) (by rw [hcap]; exact hl), ← hcap]
  exact ⟨hrests.trans (.of_same rfl rfl rfl), rfl⟩

/-- A unit that serves none, at an input frame end that leaves the state LOCKED: the queue considered (R129, R131). -/
theorem State.lockAndCapture_served {dead rest : List CaptureRequest} (hp : s.cap.phase = .idle ∨ s.cap.phase = .recover)
    (hl : (s.vin.judged good).lock = .locked) (hq : FirstFit s.vin s.cap.queue dead rest) :
    (∃ u, Rests s u ∧ Tells dead .badArg u (s.lockAndCapture good f phase sampled))
      ∧ (s.lockAndCapture good f phase sampled).cap =
        { s.cap with phase := .idle }.served s.vin.settle .receiving rest := by
  obtain ⟨hrests, hcap⟩ := State.lockStep_rests (State.not_cutAtMark_of_locked hl)
  obtain ⟨hwidth, hheight, hsettle⟩ := s.vin.judged_format good
  have hvin : (s.lockStep good).freed.vin = s.vin.judged good := s.vin_lockStep good
  have hfree : (s.lockStep good).freed.cap = { s.cap with phase := .idle } := by
    rw [← hcap]
    rfl
  obtain ⟨htells, hserved⟩ := State.activate_served_at (s := (s.lockStep good).freed) true rfl (by rw [hvin, hl])
    (by rw [hvin, hfree]; exact hq.congr hwidth hheight)
  rw [State.lockAndCapture_free f phase sampled (by rw [hcap]; exact hp)]
  refine ⟨⟨(s.lockStep good).freed, hrests.trans (.of_same rfl rfl rfl), htells⟩, hserved.trans ?_⟩
  rw [hvin, hfree, hsettle, if_pos rfl]

/-- The second bad frame in a row, with a request in SETTLE or SAMPLE: the unit is IDLE behind it (R133 to R135). -/
theorem State.lockAndCapture_cut {a : CaptureRequest} (h : s.cutAtMark good) (ha : s.cap.active = some a) :
    EndTold [a] .noInput s (s.lockAndCapture good f phase sampled)
      ∧ (s.lockAndCapture good f phase sampled).cap =
        ⟨s.cap.queue, none, .idle, s.cap.settleCount, .none, .empty⟩ := by
  obtain ⟨hended, hcap⟩ := State.lockStep_cut h ha
  obtain ⟨hmoved, hlocked, _⟩ := h
  rw [State.lockAndCapture_freed f phase sampled (.inr (by rw [hcap])) (.inl fun e => hmoved (hlocked.trans e.symm))]
  refine ⟨hended.rests (.of_same rfl rfl rfl), ?_⟩
  rw [State.freed, State.setCap_cap, hcap]

end

/-! ### The frames counted and sampled (R127, R128, R130, R131) -/

section
variable {c : CaptureUnit} {v : TrailerInput} {f : VideoFrame} {a : CaptureRequest}

theorem CaptureUnit.atMark_settle (hp : c.phase = .settle) (good : Bool) (sampled : Sampled) :
    c.atMark v good f c.phase sampled = settleStep v good c := if_pos ⟨hp, hp⟩

theorem CaptureUnit.atMark_sample (hp : c.phase = .sample) (hs : c.sampled = .receiving) (good : Bool) :
    c.atMark v good f c.phase c.sampled = sampleStep good f c := by
  rw [CaptureUnit.atMark, if_neg (by rw [hp]; nofun), if_pos ⟨hp, hs, hp⟩]

/-- A unit that neither counts the frame nor samples it. -/
theorem CaptureUnit.atMark_other (hp : c.phase ≠ .settle) (hs : c.sampled ≠ .receiving ∨ c.phase ≠ .sample)
    (good : Bool) : c.atMark v good f c.phase c.sampled = beginSampled c := by
  rw [CaptureUnit.atMark, if_neg fun h => hp h.1, if_neg fun h => hs.elim (fun hs => hs h.2.1) fun hs => hs h.1]

theorem settleStep_early (h : c.settleCount + 1 < v.settle) :
    settleStep v true c = { c with settleCount := c.settleCount + 1 } := by
  rw [settleStep, if_neg nofun, if_neg (Nat.not_le.mpr h)]

theorem settleStep_last (h : v.settle ≤ c.settleCount + 1) (ha : c.active = some a) : settleStep v true c = { c with
    settleCount := c.settleCount + 1, phase := .sample, sampled := .receiving
    result := .forming a.crop.outWidth a.crop.outHeight } := by
  rw [settleStep, if_neg nofun, if_pos h, ha]

theorem sampleStep_bad (hs : c.sampled = .receiving) : sampleStep false f c = c := by
  show { c with sampled := .receiving } = c
  rw [← hs]

theorem sampleStep_good (ha : c.active = some a) : sampleStep true f c = { c with
    phase := .held, sampled := .none
    result := .finished a.crop.outWidth a.crop.outHeight (thumbnail f a.crop) } := by
  unfold sampleStep
  rw [ha]

end

theorem CaptureUnit.atMark_congr {v w : TrailerInput} (h : v.settle = w.settle) (c : CaptureUnit) (good : Bool)
    (f : VideoFrame) (phase : Phase) (sampled : Sampled) :
    c.atMark v good f phase sampled = c.atMark w good f phase sampled := by
  unfold CaptureUnit.atMark settleStep
  rw [h]

/-! ### An input frame end that triggers no capture -/

/-- `u` is `s` when the Capture Unit's work of an input frame end comes: the frame just ended is stored, and other blocks
may have worked. -/
structure AtMark (s : State) (r : ReceivingFrame) (lines : List (List Half)) (u : State) : Prop extends Rests s u where
  cap : u.cap = s.cap
  vin : u.vin = s.vin.stored (goodFrame s.vin r lines) lines

section
variable {s t u : State} {r : ReceivingFrame} {lines : List (List Half)}

theorem AtMark.of_still (h : Still (s.storedAt r lines) u) : AtMark s r lines u :=
  ⟨Rests.trans (t := s.storedAt r lines) (.of_same rfl rfl rfl) h.toRests, h.cap, h.vin⟩

/-- The Capture Unit's work at an input frame end of `s`. -/
def State.captureAtMark (u s : State) (r : ReceivingFrame) (lines : List (List Half)) : State :=
  u.lockAndCapture (goodFrame s.vin r lines) ⟨s.vin.width, s.vin.height, storedLines lines⟩ s.cap.phase s.cap.sampled

theorem State.frameEnd_captured (h : goodFrame s.vin r lines = true → ∀ i, ¬ (s.timer i).TriggersAt .ife)
    (order : List MarkWork) : ∃ u, AtMark s r lines u ∧ Still (u.captureAtMark s r lines) (s.frameEnd r lines order) := by
  obtain ⟨u, hu, ht⟩ := s.frameEnd_untriggered r lines order h
  exact ⟨u, .of_still hu, ht⟩

section
variable (hv : u.vin = s.vin.stored (goodFrame s.vin r lines) lines)
include hv

theorem TrailerInput.judged_stored_locked (good : Bool) :
    (u.vin.judged good).lock = .locked ↔ (s.vin.judged good).lock = .locked := by
  rw [TrailerInput.judged_locked_iff, TrailerInput.judged_locked_iff, hv]
  exact .rfl

theorem State.captureAtMark_serving (hcut : ¬ u.cutAtMark (goodFrame s.vin r lines))
    (hp : u.cap.phase.serving = true) : Rests u (u.captureAtMark s r lines)
      ∧ (u.captureAtMark s r lines).cap = u.cap.atMark s.vin (goodFrame s.vin r lines)
        ⟨s.vin.width, s.vin.height, storedLines lines⟩ s.cap.phase s.cap.sampled := by
  obtain ⟨hrests, hcap⟩ := State.lockAndCapture_serving ⟨s.vin.width, s.vin.height, storedLines lines⟩ s.cap.phase
    s.cap.sampled hcut hp
  obtain ⟨_, _, hsettle⟩ := u.vin.judged_format (goodFrame s.vin r lines)
  refine ⟨hrests, hcap.trans (CaptureUnit.atMark_congr ?_ _ _ _ _ _)⟩
  rw [hsettle, hv]
  rfl

theorem State.captureAtMark_waits (hp : u.cap.phase = .idle ∨ u.cap.phase = .recover)
    (hl : (s.vin.judged (goodFrame s.vin r lines)).lock ≠ .locked ∨ u.cap.queue = []) :
    Rests u (u.captureAtMark s r lines) ∧ (u.captureAtMark s r lines).cap = { u.cap with phase := .idle } :=
  State.lockAndCapture_waits _ _ _ hp (hl.imp_left (mt (TrailerInput.judged_stored_locked hv _).mp))

theorem State.captureAtMark_served {dead rest : List CaptureRequest} (hp : u.cap.phase = .idle ∨ u.cap.phase = .recover)
    (hl : (s.vin.judged (goodFrame s.vin r lines)).lock = .locked) (hq : FirstFit s.vin u.cap.queue dead rest) :
    (∃ w, Rests u w ∧ Tells dead .badArg w (u.captureAtMark s r lines))
      ∧ (u.captureAtMark s r lines).cap = { u.cap with phase := .idle }.served s.vin.settle .receiving rest := by
  obtain ⟨htells, hcap⟩ := State.lockAndCapture_served ⟨s.vin.width, s.vin.height, storedLines lines⟩ s.cap.phase
    s.cap.sampled hp ((TrailerInput.judged_stored_locked hv _).mpr hl) (hq.congr (by rw [hv]; rfl) (by rw [hv]; rfl))
  refine ⟨htells, hcap.trans ?_⟩
  rw [hv]
  rfl

end

theorem AtMark.serving (h : AtMark s r lines u) (hcut : ¬ u.cutAtMark (goodFrame s.vin r lines))
    (hp : s.cap.phase.serving = true) : Rests s (u.captureAtMark s r lines)
      ∧ (u.captureAtMark s r lines).cap = s.cap.atMark s.vin (goodFrame s.vin r lines)
        ⟨s.vin.width, s.vin.height, storedLines lines⟩ s.cap.phase s.cap.sampled := by
  obtain ⟨hrests, hcap⟩ := State.captureAtMark_serving h.vin hcut (by rw [h.cap]; exact hp)
  exact ⟨h.toRests.trans hrests, by rw [hcap, h.cap]⟩

theorem AtMark.waits (h : AtMark s r lines u) (hp : s.cap.phase = .idle ∨ s.cap.phase = .recover)
    (hl : (s.vin.judged (goodFrame s.vin r lines)).lock ≠ .locked ∨ s.cap.queue = []) :
    Rests s (u.captureAtMark s r lines) ∧ (u.captureAtMark s r lines).cap = { s.cap with phase := .idle } := by
  obtain ⟨hrests, hcap⟩ := State.captureAtMark_waits h.vin (by rw [h.cap]; exact hp) (by rw [h.cap]; exact hl)
  exact ⟨h.toRests.trans hrests, by rw [hcap, h.cap]⟩

theorem AtMark.served {dead rest : List CaptureRequest} (h : AtMark s r lines u)
    (hp : s.cap.phase = .idle ∨ s.cap.phase = .recover)
    (hl : (s.vin.judged (goodFrame s.vin r lines)).lock = .locked) (hq : FirstFit s.vin s.cap.queue dead rest) :
    (∃ w, Rests s w ∧ Tells dead .badArg w (u.captureAtMark s r lines))
      ∧ (u.captureAtMark s r lines).cap = { s.cap with phase := .idle }.served s.vin.settle .receiving rest := by
  obtain ⟨⟨w, hw, htells⟩, hcap⟩ := State.captureAtMark_served h.vin (by rw [h.cap]; exact hp) hl (by rw [h.cap]; exact hq)
  exact ⟨⟨w, h.toRests.trans hw, htells⟩, by rw [hcap, h.cap]⟩

theorem AtMark.cut {a : CaptureRequest} (h : AtMark s r lines u) (hcut : u.cutAtMark (goodFrame s.vin r lines))
    (ha : s.cap.active = some a) : EndTold [a] .noInput s (u.captureAtMark s r lines)
      ∧ (u.captureAtMark s r lines).cap = ⟨s.cap.queue, none, .idle, s.cap.settleCount, .none, .empty⟩ := by
  obtain ⟨hended, hcap⟩ := State.lockAndCapture_cut ⟨s.vin.width, s.vin.height, storedLines lines⟩ s.cap.phase
    s.cap.sampled hcut (by rw [h.cap]; exact ha)
  exact ⟨h.toRests.endTold hended, by rw [State.captureAtMark, hcap, h.cap]⟩

end

/-- Settles O45: behind the input store the Capture Unit's work alone moves the unit, by what its phase was and whether the
lock holds. -/
theorem captureFollowsInputFrameEnds : Obligations.CaptureFollowsInputFrameEnds := by
  intro bus order r s hl hr v lines good hno frame holds locked
  have hgood : goodFrame v r lines = true ↔ good := goodFrame_iff v r lines
  have hlocked : (v.judged (goodFrame v r lines)).lock = .locked ↔ locked := by
    rw [TrailerInput.judged_locked_iff, hgood]
  obtain ⟨u, hu, ht⟩ := State.frameEnd_captured (s := s) (r := r) (lines := lines) (fun hg => hno (hgood.mp hg)) order
  have hkeeps (h : holds) : ¬ u.cutAtMark (goodFrame v r lines) :=
    State.not_cutAtMark_of_locked ((TrailerInput.judged_stored_locked hu.vin _).mpr (hlocked.mpr (.inl h)))
  have hserved (h : ¬ u.cutAtMark (goodFrame v r lines)) (hp : s.cap.phase.serving = true) :
      (s.frameEnd r lines order).cap = s.cap.atMark v (goodFrame v r lines) frame s.cap.phase s.cap.sampled :=
    ht.cap.trans (hu.serving h hp).2
  refine ⟨_, exec_inputFrameEnd hl hr, fun a hp ha => ?_, fun a hp ha hs => ?_, fun hp hs h => ?_, fun hp => ?_,
    fun hp hq => ?_, fun a hbad hlock hrun hp ha => ?_, fun dead rest hp h hq => ?_⟩
  · have hcap (h : holds) := (hserved (hkeeps h) (by rw [hp]; rfl)).trans (CaptureUnit.atMark_settle hp _ _)
    refine ⟨fun hg hlock hn => ?_, fun hg hlock hn => ?_, fun hg h => ?_⟩
    · rw [hcap ⟨hlock, .inl hg⟩, hgood.mpr hg, settleStep_early hn]
    · rw [hcap ⟨hlock, .inl hg⟩, hgood.mpr hg, settleStep_last hn ha]
      rfl
    · rw [hcap h, Bool.eq_false_iff.mpr (mt hgood.mp hg)]
      rfl
  · have hcap (h : holds) := (hserved (hkeeps h) (by rw [hp]; rfl)).trans (CaptureUnit.atMark_sample hp hs _)
    refine ⟨fun hg hlock => ⟨thumbnail frame a.crop, ?_, thumbnail_length _ _, fun i j hi hj => ?_⟩, fun hg h => ?_⟩
    · rw [hcap ⟨hlock, .inl hg⟩, hgood.mpr hg, sampleStep_good ha]
      rfl
    · exact getElem?_thumbnail frame a.crop hi hj
    · rw [hcap h, Bool.eq_false_iff.mpr (mt hgood.mp hg), sampleStep_bad hs]
  · rw [hserved (hkeeps h) (by rw [hp]; rfl), CaptureUnit.atMark_other (by rw [hp]; nofun) (.inl (by rw [hs]; nofun))]
    exact if_pos ⟨hp, hs⟩
  · rw [hserved (State.not_cutAtMark_of_phase (by rw [hu.cap, hp]; nofun) _) (by rw [hp]; rfl),
      CaptureUnit.atMark_other (by rw [hp]; nofun) (.inr (by rw [hp]; nofun))]
    rw [beginSampled, if_neg]
    rintro ⟨h, _⟩
    rw [hp] at h
    cases h
  · obtain ⟨hrests, hcap⟩ := hu.waits hp (hq.symm.imp_left (mt hlocked.mp))
    have hrests := hrests.trans ht.toRests
    exact ⟨ht.cap.trans hcap, hrests.slots, hrests.reports⟩
  · have hcut : u.cutAtMark (goodFrame v r lines) := by
      have hlost : (u.vin.judged (goodFrame v r lines)).lock ≠ .locked := by
        rw [Ne, TrailerInput.judged_stored_locked hu.vin, hlocked]
        rintro (⟨_, hg | h0⟩ | ⟨ha, _⟩)
        · exact hbad hg
        · omega
        · exact absurd (hlock.symm.trans ha) nofun
      have hon : u.vin.lock = .locked := by rw [hu.vin]; exact hlock
      exact ⟨fun e => hlost (e ▸ hon), hon, by rw [hu.cap]; exact hp⟩
    obtain ⟨hended, hcap⟩ := hu.cut hcut ha
    have hend := hended.rests ht.toRests
    refine ⟨ht.cap.trans hcap, ?_, fun j hj => ?_, ?_, hend.told a (List.mem_singleton_self a)⟩
    · rw [hend.slots, Slot.unnamed, if_pos ⟨a, List.mem_singleton_self a, rfl⟩]
    · rw [hend.slots, Slot.unnamed, if_neg (by simpa using Ne.symm hj)]
    · rw [hend.reports]
      simp [PortState.told]
  · obtain ⟨⟨w, hw, htells⟩, hcap⟩ := hu.served hp (hlocked.mpr h) hq
    have hend := (hw.endTold htells.endTold).rests ht.toRests
    exact ⟨ht.cap.trans hcap, hend.reports, hend.told, hend.slots⟩

end Sys2Proof.Machine
end

section
/-! PROOFS. Capture triggers at the frame events (R148 to R151): what a trigger leaves, whatever the state it comes in, and
the other blocks' work before and behind it. -/

namespace Sys2Proof.Machine

/-! ### What a trigger leaves (R150) -/

/-- Timer `i` of port `p` is at its last event, and template `k` then names `slot` (R149, R150). -/
structure TriggerDue (s : State) (i : Fin 4) (p : Port) (k : Template) (slot : Fin 64) : Prop where
  full : (s.timer i).prescaler ≤ (s.timer i).prescaleCount + 1
  last : (s.timer i).count ≤ 1
  capture : (s.timer i).action = .capture
  holder : (s.timer i).holder = some p
  template : (s.timer i).template = some k
  slot : slot.val = k.first + (s.timer i).templateIndex

/-- From `s` to `t` a trigger of timer `i` of port `p` was missed (R150). -/
structure TriggerMissed (i : Fin 4) (p : Port) (s t : State) : Prop where
  cap : t.cap = s.cap
  index : (t.timer i).templateIndex = (s.timer i).templateIndex
  told : (t.port p).hasFlag .trigMiss = true

/-- From `s` to `t` a trigger of timer `i` was accepted, whatever becomes of its request (R150). -/
structure TriggerAccepted (i : Fin 4) (k : Template) (s t : State) : Prop where
  vin : t.vin = s.vin
  index : (t.timer i).templateIndex = ((s.timer i).templateIndex + 1) % k.count
  spared : FlagKept .trigMiss s t

section
variable {s : State} {i : Fin 4} {p : Port} {k : Template} {slot : Fin 64}

theorem TriggerDue.congr (h : TriggerDue s i p k slot) {t : State} (ht : t.timer i = s.timer i) :
    TriggerDue t i p k slot := by
  constructor <;> rw [ht]
  exacts [h.full, h.last, h.capture, h.holder, h.template, h.slot]

theorem TriggerDue.countTimer (h : TriggerDue s i p k slot) (atMark : Bool) :
    s.countTimer i atMark = ((s.runOut i).trigger i atMark).expiredIn i := by
  rw [State.countTimer_of_last h.full h.last, State.expireTimer_eq, State.timer_runOut, if_pos h.capture]

theorem TriggerDue.ignored (h : TriggerDue s i p k slot) (hoff : s.ignoresTriggers) (atMark : Bool) :
    Still s (s.countTimer i atMark) := by
  rw [h.countTimer, State.trigger_ignored (s := s.runOut i) (p := p) (k := k) (by rw [State.timer_runOut]; exact h.holder)
    (by rw [State.timer_runOut]; exact h.template) hoff]
  exact (Still.runOut s i).trans (.expiredIn _ i)

theorem TriggerDue.missed (h : TriggerDue s i p k slot) (hon : ¬ s.ignoresTriggers)
    (ha : triggerAdmits s p k.crop slot ≠ true) (atMark : Bool) : TriggerMissed i p s (s.countTimer i atMark) := by
  rw [h.countTimer, State.trigger_missed (s := s.runOut i) (p := p) (k := k) (by rw [State.timer_runOut]; exact h.holder)
    (by rw [State.timer_runOut]; exact h.template) (by rw [State.timer_runOut]; exact h.slot) hon ha]
  have hstill := Still.expiredIn ((s.runOut i).raise p .trigMiss) i
  refine ⟨hstill.cap, (hstill.index i).trans ?_, ?_⟩
  · exact (Still.runOut s i).index i
  · rw [hstill.spared]
    exact State.hasFlag_raise _ _ nofun

theorem TriggerDue.accepted_eq (h : TriggerDue s i p k slot) (hon : ¬ s.ignoresTriggers)
    (ha : triggerAdmits s p k.crop slot = true) (atMark : Bool) : s.countTimer i atMark =
      (((s.runOut i).acceptRequest (triggerRequest p i k slot) atMark).setTimer i { (s.runOut i).timer i with
        templateIndex := nextIndex k ((s.runOut i).timer i).templateIndex }).expiredIn i := by
  rw [h.countTimer, State.trigger_accepted (s := s.runOut i) (p := p) (k := k)
    (by rw [State.timer_runOut]; exact h.holder) (by rw [State.timer_runOut]; exact h.template)
    (by rw [State.timer_runOut]; exact h.slot) hon ha]

theorem FlagKept.activate {f : EventFlag} (hf : f ≠ .result) (ha : f ≠ .capAbort) (s : State) (atMark : Bool) :
    FlagKept f s (s.activate atMark) := by
  unfold State.activate
  split
  · obtain ⟨dead, rest, hqueue, hdead, hrest⟩ := exists_firstFit s.vin s.cap.queue
    obtain ⟨hports, hslots, _⟩ := activateFrom_told atMark dead rest s hdead hrest
    rw [hqueue]
    exact Tells.flagKept ⟨hports, hslots⟩ hf ha
  · exact .refl f s

theorem TriggerDue.accepted (h : TriggerDue s i p k slot) (hon : ¬ s.ignoresTriggers)
    (ha : triggerAdmits s p k.crop slot = true) (atMark : Bool) : TriggerAccepted i k s (s.countTimer i atMark) := by
  rw [h.accepted_eq hon ha]
  have honly := (s.runOut i).acceptRequest_only (triggerRequest p i k slot) atMark
  have hkept : FlagKept .trigMiss s ((s.runOut i).acceptRequest (triggerRequest p i k slot) atMark) :=
    FlagKept.trans (t := (s.runOut i).enqueue (triggerRequest p i k slot)) (.of_ports rfl)
      (.activate (f := .trigMiss) nofun nofun _ atMark)
  refine ⟨?_, ?_, FlagKept.trans hkept (Still.expiredIn _ i).spared⟩
  · rw [(Still.expiredIn _ i).vin]
    exact honly.steady.vin
  · rw [(Still.expiredIn _ i).index, State.timer_setTimer, State.timer_runOut]
    rfl

/-- Out of IDLE and LOCKED the accepted request waits at the tail of the queue (R129, R150). -/
theorem TriggerDue.accepted_waits (h : TriggerDue s i p k slot) (hon : ¬ s.ignoresTriggers)
    (ha : triggerAdmits s p k.crop slot = true) (hw : s.cap.phase ≠ .idle ∨ s.vin.lock ≠ .locked) (atMark : Bool) :
    (s.countTimer i atMark).cap = { s.cap with queue := s.cap.queue ++ [triggerRequest p i k slot] }
      ∧ ∀ j, (s.countTimer i atMark).slot j = if j = slot then { s.slot j with captureFlag := true } else s.slot j := by
  have hacc : (s.runOut i).acceptRequest (triggerRequest p i k slot) atMark
      = (s.runOut i).enqueue (triggerRequest p i k slot) := by
    rw [State.acceptRequest_eq, State.activate_of_not]
    rintro ⟨hp, hl⟩
    exact hw.elim (fun hw => hw hp) fun hw => hw hl
  rw [h.accepted_eq hon ha, hacc]
  refine ⟨(Still.expiredIn _ i).cap, fun j => ?_⟩
  rw [(Still.expiredIn _ i).slot]
  exact State.slot_enqueue _ _ j

/-- In IDLE and LOCKED the queue is considered, the accepted request at its tail (R129, R150). -/
theorem TriggerDue.accepted_served {dead rest : List CaptureRequest} (h : TriggerDue s i p k slot)
    (hon : ¬ s.ignoresTriggers) (ha : triggerAdmits s p k.crop slot = true) (hidle : s.cap.phase = .idle)
    (hlock : s.vin.lock = .locked) (hq : FirstFit s.vin s.cap.queue dead rest) (atMark : Bool) :
    (s.countTimer i atMark).cap = s.cap.served s.vin.settle (if atMark = true then .receiving else .awaited)
        (rest ++ [triggerRequest p i k slot])
      ∧ ∀ j, (s.countTimer i atMark).slot j
        = (if j = slot then { s.slot j with captureFlag := true } else s.slot j).unnamed j dead := by
  obtain ⟨htells, hcap⟩ := State.activate_served_at (s := (s.runOut i).enqueue (triggerRequest p i k slot)) atMark hidle
    hlock (hq.append (within_and_clear_of_triggerAdmits ha).1)
  rw [h.accepted_eq hon ha, State.acceptRequest_eq]
  refine ⟨(Still.expiredIn _ i).cap.trans (hcap.trans (CaptureUnit.served_queue _ _ _ _ _)), fun j => ?_⟩
  rw [(Still.expiredIn _ i).slot]
  refine (htells.slots j).trans ?_
  rw [State.slot_enqueue]
  rfl

end

/-! ### The queue behind a request served (R129, R150) -/

theorem CaptureUnit.served_cons (c : CaptureUnit) (settle : Nat) (sampled : Sampled) (b : CaptureRequest)
    (behind : List CaptureRequest) : (c.served settle sampled (b :: behind)).queue = behind
      ∧ (c.served settle sampled (b :: behind)).active = some b
      ∧ (c.served settle sampled (b :: behind)).phase.serving = true := by
  unfold CaptureUnit.served
  dsimp only
  split <;> exact ⟨rfl, rfl, rfl⟩

/-- One more request behind the one that is served. -/
theorem CaptureUnit.served_append (c : CaptureUnit) (settle : Nat) (sampled : Sampled) (b : CaptureRequest)
    (behind : List CaptureRequest) (r : CaptureRequest) : c.served settle sampled (b :: behind ++ [r]) =
      { c.served settle sampled (b :: behind) with
        queue := (c.served settle sampled (b :: behind)).queue ++ [r] } := by
  unfold CaptureUnit.served
  dsimp only [List.cons_append]
  split <;> rfl

theorem Phase.ne_idle_of_serving {x : Phase} (h : x.serving = true) : x ≠ .idle ∧ x ≠ .recover := by
  cases x <;> simp [Phase.serving] at h ⊢

section
variable {s : State} {i : Fin 4} {p : Port} {k : Template} {slot : Fin 64}

/-- A request accepted in LOCKED once the queue before it has been considered (R129, R150). -/
theorem TriggerDue.accepted_behind {base : CaptureUnit} {rest : List CaptureRequest} {atMark : Bool}
    (h : TriggerDue s i p k slot) (hon : ¬ s.ignoresTriggers) (ha : triggerAdmits s p k.crop slot = true)
    (hidle : base.phase = .idle) (hlock : s.vin.lock = .locked)
    (hcap : s.cap = base.served s.vin.settle (if atMark = true then .receiving else .awaited) rest) :
    (s.countTimer i atMark).cap = base.served s.vin.settle (if atMark = true then .receiving else .awaited)
        (rest ++ [triggerRequest p i k slot])
      ∧ ((s.countTimer i atMark).slot slot).captureFlag = true := by
  cases rest with
  | nil =>
    have hqueue : s.cap.queue = [] := by rw [hcap]; rfl
    obtain ⟨hserved, hslots⟩ := h.accepted_served (dead := []) (rest := []) hon ha (by rw [hcap]; exact hidle) hlock
      ⟨hqueue, nofun, nofun⟩ atMark
    refine ⟨hserved.trans ?_, ?_⟩
    · rw [hcap]
      exact CaptureUnit.served_queue _ _ _ _ _
    · rw [hslots, if_pos rfl, Slot.unnamed_nil]
  | cons b behind =>
    obtain ⟨_, _, hserving⟩ := base.served_cons s.vin.settle (if atMark = true then .receiving else .awaited) b behind
    obtain ⟨hwaits, hslots⟩ := h.accepted_waits hon ha (.inl (by rw [hcap]; exact (Phase.ne_idle_of_serving hserving).1))
      atMark
    refine ⟨hwaits.trans ?_, ?_⟩
    · rw [CaptureUnit.served_append, ← hcap]
    · rw [hslots, if_pos rfl]

/-- An accepted trigger sets its slot's flag, and flags of requests before it may clear (R129, R134, R150). -/
theorem TriggerDue.slot_accepted (h : TriggerDue s i p k slot) (hon : ¬ s.ignoresTriggers)
    (ha : triggerAdmits s p k.crop slot = true) (atMark : Bool) : ∃ dead ⊆ s.cap.queue,
      ∀ j, (s.countTimer i atMark).slot j =
        (if j = slot then { s.slot j with captureFlag := true } else s.slot j).unnamed j dead := by
  by_cases hw : s.cap.phase = .idle ∧ s.vin.lock = .locked
  · obtain ⟨dead, rest, hq⟩ := exists_FirstFit s.vin s.cap.queue
    exact ⟨dead, hq.1 ▸ List.subset_append_left dead rest, (h.accepted_served hon ha hw.1 hw.2 hq atMark).2⟩
  · obtain ⟨_, hslots⟩ := h.accepted_waits hon ha (not_and_or.mp hw) atMark
    exact ⟨[], List.nil_subset _, fun j => by rw [hslots, Slot.unnamed_nil]⟩

/-- The flag of the accepted request's slot stays set when the queue is considered: no other request names the slot. -/
theorem TriggerDue.flag_accepted (h : TriggerDue s i p k slot) (hon : ¬ s.ignoresTriggers)
    (ha : triggerAdmits s p k.crop slot = true) (hfree : ∀ d ∈ s.cap.queue, d.slot ≠ slot) (atMark : Bool) :
    ((s.countTimer i atMark).slot slot).captureFlag = true := by
  obtain ⟨dead, hdead, hslots⟩ := h.slot_accepted hon ha atMark
  rw [hslots, if_pos rfl, Slot.unnamed, if_neg]
  rintro ⟨d, hd, he⟩
  exact hfree d (hdead hd) he

end

/-! ### What a trigger's checks find behind other blocks' work -/

/-- Whether a slot is EMPTY or READY (R150). -/
def Slot.Stands (x : Slot) : Prop := x.state = .empty ∨ x.state = .ready

/-- A slot that a trigger may name stays one, and no port comes by a slot. -/
structure Slot.Lasts (x y : Slot) : Prop where
  owner : y.owner = x.owner ∨ y.owner = none
  stands : x.Stands → y.Stands ∧ y.owner = x.owner
  clear : x.captureFlag = false → y.captureFlag = false

theorem Slot.Lasts.refl (x : Slot) : x.Lasts x := ⟨.inl rfl, fun h => ⟨h, rfl⟩, id⟩

theorem Slot.Lasts.trans {x y z : Slot} (h : x.Lasts y) (k : y.Lasts z) : x.Lasts z where
  owner := by
    rcases k.owner with hz | hz
    · rw [hz]
      exact h.owner
    · exact .inr hz
  stands hx := by
    obtain ⟨hy, ho⟩ := h.stands hx
    obtain ⟨hz, ho'⟩ := k.stands hy
    exact ⟨hz, ho'.trans ho⟩
  clear hx := k.clear (h.clear hx)

theorem Slot.state_unnamed (x : Slot) (i : Fin 64) (rs : List CaptureRequest) :
    (x.unnamed i rs).state = x.state ∧ (x.unnamed i rs).owner = x.owner := by
  unfold Slot.unnamed
  split <;> exact ⟨rfl, rfl⟩

theorem Slot.Lasts.unnamed (x : Slot) (i : Fin 64) (rs : List CaptureRequest) : x.Lasts (x.unnamed i rs) := by
  obtain ⟨hstate, howner⟩ := x.state_unnamed i rs
  exact ⟨.inl howner, fun h => ⟨by rwa [Slot.Stands, hstate], howner⟩, fun h => Slot.unnamed_clear h i rs⟩

/-- Two input records that a trigger's checks do not tell apart. -/
structure TrailerInput.Alike (v w : TrailerInput) : Prop where
  width : w.width = v.width
  height : w.height = v.height
  enabled : w.captureEnabled = v.captureEnabled
  off : w.lock = .off ↔ v.lock = .off

theorem TrailerInput.Alike.refl (v : TrailerInput) : v.Alike v := ⟨rfl, rfl, rfl, .rfl⟩

theorem TrailerInput.Alike.trans {u v w : TrailerInput} (h : u.Alike v) (k : v.Alike w) : u.Alike w :=
  ⟨k.width.trans h.width, k.height.trans h.height, k.enabled.trans h.enabled, k.off.trans h.off⟩

theorem TrailerInput.alike_judged (v : TrailerInput) (good : Bool) : v.Alike (v.judged good) := by
  unfold TrailerInput.judged
  split
  case h_1 hl => exact ⟨rfl, rfl, rfl, by simp [hl]⟩
  case h_2 hl => split <;> exact ⟨rfl, rfl, rfl, by simp [hl]⟩
  case h_5 hl => split <;> exact ⟨rfl, rfl, rfl, by simp [hl]⟩
  all_goals
    rename_i hl
    exact ⟨rfl, rfl, rfl, by simp [hl]⟩

/-- From `s` to `t` the checks of a trigger of port `p` find nothing worse, and no trigger is taken. -/
structure Poised (p : Port) (s t : State) : Prop where
  input : s.vin.Alike t.vin
  outstanding : t.outstanding p ≤ s.outstanding p
  queue : t.cap.queue.length ≤ s.cap.queue.length
  slots : ∀ j, (s.slot j).Lasts (t.slot j)
  spared : FlagKept .trigMiss s t
  index : ∀ i, (t.timer i).templateIndex = (s.timer i).templateIndex

section
variable {p : Port} {s t u : State}

theorem Poised.refl (p : Port) (s : State) : Poised p s s :=
  ⟨.refl _, le_rfl, le_rfl, fun _ => .refl _, .refl _ s, fun _ => rfl⟩

theorem Poised.trans (h : Poised p s t) (k : Poised p t u) : Poised p s u where
  input := h.input.trans k.input
  outstanding := k.outstanding.trans h.outstanding
  queue := k.queue.trans h.queue
  slots j := (h.slots j).trans (k.slots j)
  spared := h.spared.trans k.spared
  index i := (k.index i).trans (h.index i)

theorem Poised.ignores_iff (h : Poised p s t) : t.ignoresTriggers ↔ s.ignoresTriggers := by
  unfold State.ignoresTriggers
  rw [h.input.enabled, h.input.off]

/-- A trigger that would be accepted still is. -/
theorem Poised.admits (h : Poised p s t) {c : Crop} {slot : Fin 64} (ha : triggerAdmits s p c slot = true) :
    triggerAdmits t p c slot = true := by
  obtain ⟨hx, hy, howner, hstands, hclear, hqueue, hout⟩ := (triggerAdmits_iff s p c slot).mp ha
  obtain ⟨hstands, hsame⟩ := (h.slots slot).stands hstands
  exact (triggerAdmits_iff t p c slot).mpr ⟨by rw [h.input.width]; exact hx, by rw [h.input.height]; exact hy,
    hsame.trans howner, hstands, (h.slots slot).clear hclear, h.queue.trans_lt hqueue, h.outstanding.trans_lt hout⟩

theorem State.outstanding_congr (hq : t.cap.requests = s.cap.requests) (hr : (t.port p).reports = (s.port p).reports) :
    t.outstanding p = s.outstanding p := by
  rw [State.outstanding_eq, State.outstanding_eq, hq, hr]

theorem Rests.poised (h : Rests s t) (hv : s.vin.Alike t.vin) (hq : t.cap.queue = s.cap.queue)
    (ha : t.cap.active = s.cap.active) : Poised p s t where
  input := hv
  outstanding := (State.outstanding_congr (by rw [CaptureUnit.requests, hq, ha]; rfl) (h.reports p)).le
  queue := by rw [hq]
  slots j := by
    rw [h.slot]
    exact .refl _
  spared := h.spared
  index := h.index

theorem Still.poised (h : Still s t) : Poised p s t :=
  h.toRests.poised (by rw [h.vin]; exact .refl _) (by rw [h.cap]) (by rw [h.cap])

end

/-! ### The queue considered, as a trigger's checks see it -/

/-- What the queue considered in IDLE and LOCKED leaves of a port's requests and reports: all of them, if none was active
(R125, R129). -/
theorem State.outstanding_activate (s : State) (atMark : Bool) (p : Port) :
    (s.activate atMark).outstanding p ≤ s.outstanding p
      ∧ (s.cap.active = none → (s.activate atMark).outstanding p = s.outstanding p) := by
  by_cases h : s.cap.phase = .idle ∧ s.vin.lock = .locked
  case neg =>
    rw [State.activate_of_not h]
    exact ⟨le_rfl, fun _ => rfl⟩
  obtain ⟨dead, rest, hq⟩ := exists_FirstFit s.vin s.cap.queue
  obtain ⟨htells, hcap⟩ := State.activate_served_at atMark h.1 h.2 hq
  have hafter : (s.activate atMark).outstanding p = (s.activate atMark).cap.requests.countP (fun r => r.requester = p)
      + ((s.port p).reports.length + dead.countP fun r => r.requester = p) := by
    rw [State.outstanding_eq, htells.ports, State.reports_told]
  have hbefore : s.outstanding p = s.cap.active.toList.countP (fun r => r.requester = p)
      + (dead.countP (fun r => r.requester = p) + rest.countP fun r => r.requester = p) + (s.port p).reports.length := by
    rw [State.outstanding_eq, CaptureUnit.requests, List.countP_append, hq.1, List.countP_append]
  have hunit : (s.activate atMark).cap.requests =
      if rest = [] then s.cap.active.toList else rest := by
    rw [hcap]
    cases rest with
    | nil => exact List.append_nil _
    | cons b behind =>
      obtain ⟨hqueue, hactive, _⟩ := s.cap.served_cons s.vin.settle (if atMark = true then .receiving else .awaited) b
        behind
      rw [CaptureUnit.requests, hqueue, hactive]
      rfl
  rw [hafter, hbefore, hunit]
  by_cases hrest : rest = []
  · rw [if_pos hrest, hrest, List.countP_nil]
    exact ⟨by omega, fun _ => by omega⟩
  · rw [if_neg hrest]
    refine ⟨by omega, fun hnone => ?_⟩
    rw [hnone, Option.toList_none, List.countP_nil]
    omega

/-- The queue considered clears flags of the slots alone (R129, R134). -/
theorem State.slot_activate (s : State) (atMark : Bool) :
    ∃ dead, dead ⊆ s.cap.queue ∧ ∀ j, (s.activate atMark).slot j = (s.slot j).unnamed j dead := by
  by_cases h : s.cap.phase = .idle ∧ s.vin.lock = .locked
  · obtain ⟨dead, rest, hq⟩ := exists_FirstFit s.vin s.cap.queue
    obtain ⟨htells, _⟩ := State.activate_served_at atMark h.1 h.2 hq
    exact ⟨dead, hq.1 ▸ List.subset_append_left dead rest, htells.slots⟩
  · rw [State.activate_of_not h]
    exact ⟨[], List.nil_subset _, fun j => (Slot.unnamed_nil _ j).symm⟩

theorem State.queue_activate_le (s : State) (atMark : Bool) :
    (s.activate atMark).cap.queue.length ≤ s.cap.queue.length := by
  obtain ⟨_, h⟩ := s.activate_retires atMark
  exact h.queue

theorem Poised.activate (p : Port) (s : State) (atMark : Bool) : Poised p s (s.activate atMark) := by
  have honly := s.activate_only atMark
  obtain ⟨dead, _, hslots⟩ := s.slot_activate atMark
  refine ⟨?_, (s.outstanding_activate atMark p).1, s.queue_activate_le atMark, fun j => ?_,
    .activate (f := .trigMiss) nofun nofun s atMark, fun i => ?_⟩
  · rw [honly.steady.vin]
    exact .refl _
  · rw [hslots]
    exact .unnamed _ j dead
  · rw [honly]
    rfl

/-! ### The Capture Unit's work at a good input frame end -/

/-- A unit that goes on with the requests it has, and serves one if it did. -/
structure CaptureUnit.GoesOn (c d : CaptureUnit) : Prop where
  queue : d.queue = c.queue
  active : d.active = c.active
  serving : c.phase.serving = true → d.phase.serving = true

theorem CaptureUnit.goesOn_settleStep (c : CaptureUnit) (v : TrailerInput) (good : Bool) :
    c.GoesOn (settleStep v good c) := by
  unfold settleStep
  split
  · exact ⟨rfl, rfl, id⟩
  · split
    · exact ⟨rfl, rfl, fun _ => rfl⟩
    · exact ⟨rfl, rfl, id⟩

theorem CaptureUnit.goesOn_sampleStep (c : CaptureUnit) (good : Bool) (f : VideoFrame) :
    c.GoesOn (sampleStep good f c) := by
  unfold sampleStep
  split
  · exact ⟨rfl, rfl, fun _ => rfl⟩
  · exact ⟨rfl, rfl, id⟩

theorem CaptureUnit.goesOn_beginSampled (c : CaptureUnit) : c.GoesOn (beginSampled c) := by
  unfold beginSampled
  split <;> exact ⟨rfl, rfl, id⟩

theorem CaptureUnit.goesOn_atMark (c : CaptureUnit) (v : TrailerInput) (good : Bool) (f : VideoFrame) (phase : Phase)
    (sampled : Sampled) : c.GoesOn (c.atMark v good f phase sampled) := by
  unfold CaptureUnit.atMark
  split
  · exact c.goesOn_settleStep v good
  split
  · exact c.goesOn_sampleStep good f
  · exact c.goesOn_beginSampled

section
variable {s : State}

theorem TrailerInput.judged_good_locked (v : TrailerInput) :
    (v.judged true).lock = .locked ↔ v.lock = .locked ∨ v.lock = .acquiring ∧ 2 ≤ v.goodCount := by
  rw [TrailerInput.judged_locked_iff]
  simp

/-- A good frame aborts no request (R112, R135). -/
theorem State.not_cutAtMark_good (s : State) : ¬ s.cutAtMark true := fun h =>
  State.not_cutAtMark_of_locked (s.vin.judged_good_locked.mpr (.inl h.2.1)) h

/-- A unit that serves none at a good input frame end: the queue considered from a state in which it is IDLE. -/
theorem State.lockAndCapture_good_free (f : VideoFrame) (phase : Phase) (sampled : Sampled)
    (hp : s.cap.phase.serving = false) : ∃ u, Rests s u ∧ s.vin.Alike u.vin ∧ u.cap = { s.cap with phase := .idle }
      ∧ s.lockAndCapture true f phase sampled = u.activate true := by
  obtain ⟨hrests, hcap⟩ := State.lockStep_rests s.not_cutAtMark_good
  refine ⟨(s.lockStep true).freed, hrests.trans (.of_same rfl rfl rfl), ?_, ?_, ?_⟩
  · show s.vin.Alike (s.lockStep true).vin
    rw [State.vin_lockStep]
    exact s.vin.alike_judged true
  · rw [← hcap]
    rfl
  · refine State.lockAndCapture_free f phase sampled ?_
    rw [hcap]
    cases hphase : s.cap.phase <;> simp [hphase, Phase.serving] at hp ⊢

theorem Poised.lockAndCapture (p : Port) (s : State) (f : VideoFrame) (phase : Phase) (sampled : Sampled) :
    Poised p s (s.lockAndCapture true f phase sampled) := by
  by_cases hp : s.cap.phase.serving = true
  · obtain ⟨hrests, hcap⟩ := State.lockAndCapture_serving f phase sampled s.not_cutAtMark_good hp
    obtain ⟨hqueue, hactive, _⟩ := s.cap.goesOn_atMark (s.vin.judged true) true f phase sampled
    refine hrests.poised ?_ (by rw [hcap, hqueue]) (by rw [hcap, hactive])
    rw [State.vin_lockAndCapture]
    exact s.vin.alike_judged true
  · obtain ⟨u, hrests, halike, hcap, hwork⟩ := State.lockAndCapture_good_free f phase sampled (Bool.eq_false_iff.mpr hp)
    rw [hwork]
    exact (hrests.poised halike (by rw [hcap]) (by rw [hcap])).trans (.activate p u true)

/-- It takes none of a port's requests and reports away, where a unit that serves none has none active (R121, R125). -/
theorem State.outstanding_lockAndCapture (f : VideoFrame) (phase : Phase) (sampled : Sampled)
    (ha : s.cap.phase.serving = true ∨ s.cap.active = none) (p : Port) :
    (s.lockAndCapture true f phase sampled).outstanding p = s.outstanding p := by
  by_cases hp : s.cap.phase.serving = true
  · obtain ⟨hrests, hcap⟩ := State.lockAndCapture_serving f phase sampled s.not_cutAtMark_good hp
    obtain ⟨hqueue, hactive, _⟩ := s.cap.goesOn_atMark (s.vin.judged true) true f phase sampled
    exact State.outstanding_congr (by rw [CaptureUnit.requests, hcap, hqueue, hactive]; rfl) (hrests.reports p)
  · obtain ⟨u, hrests, _, hcap, hwork⟩ := State.lockAndCapture_good_free f phase sampled (Bool.eq_false_iff.mpr hp)
    rw [hwork, (u.outstanding_activate true p).2 (by rw [hcap]; exact ha.resolve_left hp)]
    exact State.outstanding_congr (by rw [hcap]; rfl) (hrests.reports p)

/-- The slots keep their states and owners. -/
theorem State.slot_lockAndCapture (s : State) (f : VideoFrame) (phase : Phase) (sampled : Sampled) (j : Fin 64) :
    ((s.lockAndCapture true f phase sampled).slot j).state = (s.slot j).state
      ∧ ((s.lockAndCapture true f phase sampled).slot j).owner = (s.slot j).owner := by
  by_cases hp : s.cap.phase.serving = true
  · obtain ⟨hrests, _⟩ := State.lockAndCapture_serving f phase sampled s.not_cutAtMark_good hp
    rw [hrests.slot]
    exact ⟨rfl, rfl⟩
  · obtain ⟨u, hrests, _, _, hwork⟩ := State.lockAndCapture_good_free f phase sampled (Bool.eq_false_iff.mpr hp)
    obtain ⟨dead, _, hslots⟩ := u.slot_activate true
    rw [hwork, hslots, hrests.slot]
    exact Slot.state_unnamed _ j dead

end

/-! ### A trigger amid other blocks' work -/

/-- The checks of a trigger that no other block's work decides: the format, the slot's owner and the requester's
outstanding count (R150, R151). -/
def TriggerFixed (s : State) (p : Port) (c : Crop) (slot : Fin 64) : Prop :=
  (c.x + c.w ≤ s.vin.width ∧ c.y + c.h ≤ s.vin.height) ∧ (s.slot slot).owner = some p ∧ s.outstanding p < 5

theorem triggerAdmits_iff_fixed (s : State) (p : Port) (c : Crop) (slot : Fin 64) : triggerAdmits s p c slot = true ↔
    TriggerFixed s p c slot ∧ (s.slot slot).Stands ∧ (s.slot slot).captureFlag = false ∧ s.cap.queue.length < 4 := by
  rw [triggerAdmits_iff]
  constructor
  · rintro ⟨hx, hy, howner, hstands, hclear, hqueue, hout⟩
    exact ⟨⟨⟨hx, hy⟩, howner, hout⟩, hstands, hclear, hqueue⟩
  · rintro ⟨⟨⟨hx, hy⟩, howner, hout⟩, hstands, hclear, hqueue⟩
    exact ⟨hx, hy, howner, hstands, hclear, hqueue, hout⟩

section
variable {s t x : State} {i : Fin 4} {p : Port} {k : Template} {slot : Fin 64} {atMark : Bool}

/-- The checks that no other block's work decides hold of `s` where they hold of `t`. -/
theorem TriggerFixed.of_admits {c : Crop} (hv : s.vin.Alike t.vin) (hout : t.outstanding p = s.outstanding p)
    (howner : (t.slot slot).owner = some p → (s.slot slot).owner = some p)
    (ha : triggerAdmits t p c slot = true) : TriggerFixed s p c slot := by
  obtain ⟨⟨⟨hx, hy⟩, ho, hlt⟩, _⟩ := (triggerAdmits_iff_fixed t p c slot).mp ha
  exact ⟨⟨hv.width ▸ hx, hv.height ▸ hy⟩, howner ho, hout ▸ hlt⟩

theorem triggerAdmits_congr {c : Crop} (hv : s.vin.Alike t.vin) (hout : t.outstanding p = s.outstanding p)
    (hslot : t.slot slot = s.slot slot) (hqueue : t.cap.queue = s.cap.queue) :
    triggerAdmits t p c slot = triggerAdmits s p c slot := by
  unfold triggerAdmits Crop.fits
  rw [hv.width, hv.height, hout, hslot, hqueue]

variable (hd : TriggerDue s i p k slot) (hx : Poised p s x) (htimer : x.timer i = s.timer i)
  (ht : Poised p (x.countTimer i atMark) t)
include hd hx htimer ht

/-- A trigger ignored between what other blocks do (R150). -/
theorem TriggerDue.ignored_amid (hoff : s.ignoresTriggers) :
    (t.timer i).templateIndex = (s.timer i).templateIndex
      ∧ (t.port p).hasFlag .trigMiss = (s.port p).hasFlag .trigMiss := by
  have hstill := (hd.congr htimer).ignored (hx.ignores_iff.mpr hoff) atMark
  exact ⟨by rw [ht.index, hstill.index, hx.index], by rw [ht.spared, hstill.spared, hx.spared]⟩

/-- A trigger missed between what other blocks do (R150). -/
theorem TriggerDue.missed_amid (hon : ¬ s.ignoresTriggers) (ha : triggerAdmits x p k.crop slot ≠ true) :
    (t.timer i).templateIndex = (s.timer i).templateIndex ∧ (t.port p).hasFlag .trigMiss = true := by
  have hmissed := (hd.congr htimer).missed (mt hx.ignores_iff.mp hon) ha atMark
  exact ⟨by rw [ht.index, hmissed.index, hx.index], by rw [ht.spared, hmissed.told]⟩

/-- A trigger accepted between what other blocks do (R150). -/
theorem TriggerDue.accepted_amid (hon : ¬ s.ignoresTriggers) (ha : triggerAdmits s p k.crop slot = true) :
    (t.timer i).templateIndex = ((s.timer i).templateIndex + 1) % k.count
      ∧ (t.port p).hasFlag .trigMiss = (s.port p).hasFlag .trigMiss := by
  have hacc := (hd.congr htimer).accepted (mt hx.ignores_iff.mp hon) (hx.admits ha) atMark
  exact ⟨by rw [ht.index, hacc.index, hx.index], by rw [ht.spared, hacc.spared, hx.spared]⟩

end

/-! ### A trigger at a good input frame end (R148 to R151) -/

section
variable {s t : State} {r : ReceivingFrame} {lines : List (List Half)} {i : Fin 4} {p : Port}

/-- Timer `i` triggers at an input frame end of `s` before the Capture Unit's work. -/
def TriggerThenCapture (s : State) (r : ReceivingFrame) (lines : List (List Half)) (i : Fin 4) (t : State) : Prop :=
  ∃ a b, AtMark s r lines a ∧ a.timer i = s.timer i ∧ Still (a.countTimer i true) b
    ∧ Still (b.captureAtMark s r lines) t

/-- Timer `i` triggers at an input frame end of `s` behind the Capture Unit's work. -/
def CaptureThenTrigger (s : State) (r : ReceivingFrame) (lines : List (List Half)) (i : Fin 4) (t : State) : Prop :=
  ∃ a b, AtMark s r lines a ∧ Still (a.captureAtMark s r lines) b ∧ b.timer i = s.timer i
    ∧ Still (b.countTimer i true) t

theorem State.frameEnd_split (hg : goodFrame s.vin r lines = true) (hc : (s.timer i).CountsAt .ife)
    (h : ∀ j, j ≠ i → ¬ (s.timer j).TriggersAt .ife) (order : List MarkWork) :
    TriggerThenCapture s r lines i (s.frameEnd r lines order)
      ∨ CaptureThenTrigger s r lines i (s.frameEnd r lines order) := by
  have hwork {u : State} (hu : u.timer i = s.timer i) :
      markWork (markContext s r lines) (.timer i) u = u.countTimer i true :=
    (if_pos hg).trans (State.timerMarkWork_of_counts (by rw [hu]; exact hc))
  refine (s.frameEnd_triggered r lines order fun _ => h).imp (fun hchain => ?_) fun hchain => ?_
  · obtain ⟨a, ⟨ha, hta⟩, b, ⟨hb, _⟩, ht, _⟩ := hchain
    rw [hwork hta] at hb
    exact ⟨a, b, .of_still ha, hta, hb, ht⟩
  · obtain ⟨a, ⟨ha, hta⟩, b, ⟨hb, htb⟩, ht, _⟩ := hchain
    have htb : b.timer i = s.timer i := by
      rw [htb, Machine.markWork_timer (k := .lockAndCapture) _ a i nofun, hta]
      rfl
    rw [hwork htb] at ht
    exact ⟨a, b, .of_still ha, hb, htb, ht⟩

theorem AtMark.poised (h : AtMark s r lines t) : Poised p s t :=
  h.toRests.poised (by rw [h.vin]; exact ⟨rfl, rfl, rfl, .rfl⟩) (by rw [h.cap]) (by rw [h.cap])

theorem Poised.captureAtMark (hg : goodFrame s.vin r lines = true) (u : State) :
    Poised p u (u.captureAtMark s r lines) := by
  rw [State.captureAtMark, hg]
  exact .lockAndCapture p u _ _ _

/-- A unit that serves a request keeps its queue at a good input frame end (R130, R131). -/
theorem State.queue_captureAtMark (hg : goodFrame s.vin r lines = true) {u : State} (hp : u.cap.phase.serving = true) :
    (u.captureAtMark s r lines).cap.queue = u.cap.queue := by
  rw [State.captureAtMark, hg, (State.lockAndCapture_serving _ _ _ u.not_cutAtMark_good hp).2]
  exact (u.cap.goesOn_atMark _ _ _ _ _).queue

/-- `x` is what a trigger finds at a good input frame end of `s`, and `t` the state behind it. -/
structure AmidMark (s : State) (r : ReceivingFrame) (lines : List (List Half)) (i : Fin 4) (x t : State) : Prop where
  timer : x.timer i = s.timer i
  found : ∃ a, AtMark s r lines a ∧ (Still a x ∨ Still (a.captureAtMark s r lines) x)
  queue : s.cap.phase.serving = true → (x.countTimer i true).cap = x.cap → t.cap.queue = s.cap.queue
  behind : ∀ p, Poised p (x.countTimer i true) t

/-- In either order the trigger comes amid work that makes its checks no worse. -/
theorem State.amidMark_of_split (hg : goodFrame s.vin r lines = true)
    (h : TriggerThenCapture s r lines i t ∨ CaptureThenTrigger s r lines i t) : ∃ x, AmidMark s r lines i x t := by
  rcases h with ⟨a, b, ha, hta, hb, ht⟩ | ⟨a, b, ha, hb, htb, ht⟩
  · refine ⟨a, hta, ⟨a, ha, .inl (.refl a)⟩, fun hp hcap => ?_, fun p =>
      (hb.poised.trans (.captureAtMark hg b)).trans ht.poised⟩
    have hsame : b.cap = s.cap := hb.cap.trans (hcap.trans ha.cap)
    rw [ht.cap, State.queue_captureAtMark hg (by rw [hsame]; exact hp), hsame]
  · refine ⟨b, htb, ⟨a, ha, .inr hb⟩, fun hp hcap => ?_, fun p => ht.poised⟩
    rw [ht.cap, hcap, hb.cap, State.queue_captureAtMark hg (by rw [ha.cap]; exact hp), ha.cap]

section
variable {x : State} (hg : goodFrame s.vin r lines = true) (h : AmidMark s r lines i x t)
include hg h

theorem AmidMark.poised (p : Port) : Poised p s x := by
  obtain ⟨a, ha, hx | hx⟩ := h.found
  · exact ha.poised.trans hx.poised
  · exact (ha.poised.trans (.captureAtMark hg a)).trans hx.poised

/-- The Capture Unit's work decides no more of a slot than its flag, and takes no request or report away from a port. -/
theorem AmidMark.same (hp : s.cap.phase.serving = true ∨ s.cap.active = none) (p : Port) (j : Fin 64) :
    x.outstanding p = s.outstanding p ∧ (x.slot j).state = (s.slot j).state ∧ (x.slot j).owner = (s.slot j).owner := by
  obtain ⟨a, ha, hx⟩ := h.found
  have hout : a.outstanding p = s.outstanding p :=
    State.outstanding_congr (by rw [ha.cap]) (ha.toRests.reports p)
  rcases hx with hx | hx
  · refine ⟨?_, ?_⟩
    · rw [← hout]
      exact State.outstanding_congr (by rw [hx.cap]) (hx.reports p)
    · rw [hx.slot, ha.slot]
      exact ⟨rfl, rfl⟩
  · refine ⟨?_, ?_⟩
    · have hafter : x.outstanding p = (a.captureAtMark s r lines).outstanding p :=
        State.outstanding_congr (by rw [hx.cap]) (hx.reports p)
      rw [hafter, ← hout, State.captureAtMark, hg]
      exact State.outstanding_lockAndCapture _ _ _ (by rw [ha.cap]; exact hp) p
    · rw [hx.slot, State.captureAtMark, hg, ← ha.slot]
      exact a.slot_lockAndCapture _ _ _ j

/-- A unit that serves a request decides no check (R151). -/
theorem AmidMark.admits_iff (hp : s.cap.phase.serving = true) (c : Crop) (slot : Fin 64) :
    triggerAdmits x p c slot = triggerAdmits s p c slot := by
  refine triggerAdmits_congr (h.poised hg p).input (h.same hg (.inl hp) p slot).1 ?_ ?_
  all_goals obtain ⟨a, ha, hx⟩ := h.found
  · rcases hx with hx | hx
    · rw [hx.slot, ha.slot]
    · rw [hx.slot, (ha.serving (by rw [hg]; exact a.not_cutAtMark_good) hp).1.slot]
  · rcases hx with hx | hx
    · rw [hx.cap, ha.cap]
    · rw [hx.cap, State.queue_captureAtMark hg (by rw [ha.cap]; exact hp), ha.cap]

end

end

/-- A longer queue goes with the unit. -/
theorem CaptureUnit.atMark_queue (c : CaptureUnit) (queue : List CaptureRequest) (v : TrailerInput) (good : Bool)
    (f : VideoFrame) (phase : Phase) (sampled : Sampled) :
    CaptureUnit.atMark { c with queue := queue } v good f phase sampled =
      { c.atMark v good f phase sampled with queue := queue } := by
  have hsettle : settleStep v good { c with queue := queue } = { settleStep v good c with queue := queue } := by
    unfold settleStep
    split
    · rfl
    · split <;> rfl
  have hsample : sampleStep good f { c with queue := queue } = { sampleStep good f c with queue := queue } := by
    unfold sampleStep
    dsimp only
    split <;> rfl
  have hbegin : beginSampled { c with queue := queue } = { beginSampled c with queue := queue } := by
    unfold beginSampled
    dsimp only
    split <;> rfl
  unfold CaptureUnit.atMark
  rw [hsettle, hsample, hbegin]
  split
  · rfl
  · split <;> rfl

/-- A request that becomes active at an input frame end is counted by neither the settle count nor the sample (R129). -/
theorem CaptureUnit.atMark_served (c : CaptureUnit) (v : TrailerInput) (f : VideoFrame) {phase : Phase}
    (hp : phase.serving = false) (sampled : Sampled) (settle : Nat) (b : CaptureRequest) (behind : List CaptureRequest) :
    (c.served settle .receiving (b :: behind)).atMark v true f phase sampled =
      c.served settle .receiving (b :: behind) := by
  rw [CaptureUnit.atMark, if_neg (by rintro ⟨rfl, _⟩; cases hp), if_neg (by rintro ⟨rfl, _⟩; cases hp), beginSampled,
    if_neg]
  unfold CaptureUnit.served
  dsimp only
  split <;> simp

section
variable {s t : State} {r : ReceivingFrame} {lines : List (List Half)} {i : Fin 4} {p : Port} {k : Template}
  {slot : Fin 64}

/-- The unit that serves a request in `s`, behind a good input frame end (R130, R131). -/
def State.servedAtMark (s : State) (lines : List (List Half)) : CaptureUnit :=
  s.cap.atMark s.vin true ⟨s.vin.width, s.vin.height, storedLines lines⟩ s.cap.phase s.cap.sampled

theorem AtMark.serving_good (h : AtMark s r lines t) (hg : goodFrame s.vin r lines = true)
    (hp : s.cap.phase.serving = true) : Rests s (t.captureAtMark s r lines)
      ∧ (t.captureAtMark s r lines).cap = s.servedAtMark lines := by
  have hserving := h.serving (by rw [hg]; exact t.not_cutAtMark_good) hp
  rwa [hg] at hserving

variable (hd : TriggerDue s i p k slot) (hg : goodFrame s.vin r lines = true) (hon : ¬ s.ignoresTriggers)
  (ha : triggerAdmits s p k.crop slot = true)
include hd hg hon ha

/-- A trigger accepted before the work of a unit that serves a request (R129, R150). -/
theorem TriggerThenCapture.serving (h : TriggerThenCapture s r lines i t) (hp : s.cap.phase.serving = true) :
    (t.slot slot).captureFlag = true
      ∧ t.cap = { s.servedAtMark lines with queue := s.cap.queue ++ [triggerRequest p i k slot] } := by
  obtain ⟨a, b, hat, hta, hb, ht⟩ := h
  have hpoised := hat.poised (p := p)
  have hda := hd.congr hta
  have hona := mt hpoised.ignores_iff.mp hon
  have haa := hpoised.admits ha
  obtain ⟨hcap, hslots⟩ := hda.accepted_waits hona haa (.inl (by rw [hat.cap]; exact (Phase.ne_idle_of_serving hp).1)) true
  rw [hat.cap, ← hb.cap] at hcap
  have hvin := hb.vin.trans ((hda.accepted hona haa true).vin.trans hat.vin)
  obtain ⟨hrests, hwork⟩ := State.captureAtMark_serving hvin (by rw [hg]; exact b.not_cutAtMark_good)
    (by rw [hcap]; exact hp)
  refine ⟨?_, ?_⟩
  · rw [ht.slot, hrests.slot, hb.slot, hslots, if_pos rfl]
  · rw [ht.cap, hwork, hcap, hg]
    exact CaptureUnit.atMark_queue _ _ _ _ _ _ _

/-- A trigger accepted behind the work of a unit that serves a request (R129, R150). -/
theorem CaptureThenTrigger.serving (h : CaptureThenTrigger s r lines i t) (hp : s.cap.phase.serving = true) :
    (t.slot slot).captureFlag = true
      ∧ t.cap = { s.servedAtMark lines with queue := s.cap.queue ++ [triggerRequest p i k slot] } := by
  obtain ⟨a, b, hat, hb, htb, ht⟩ := h
  obtain ⟨_, hwork⟩ := hat.serving_good hg hp
  obtain ⟨hqueue, _, hserving⟩ := s.cap.goesOn_atMark s.vin true ⟨s.vin.width, s.vin.height, storedLines lines⟩
    s.cap.phase s.cap.sampled
  have hpoised : Poised p s b := (hat.poised.trans (.captureAtMark hg a)).trans hb.poised
  have hphase : b.cap.phase.serving = true := by
    rw [hb.cap, hwork]
    exact hserving hp
  obtain ⟨hcap, hslots⟩ := (hd.congr htb).accepted_waits (mt hpoised.ignores_iff.mp hon) (hpoised.admits ha)
    (.inl (Phase.ne_idle_of_serving hphase).1) true
  refine ⟨?_, ?_⟩
  · rw [ht.slot, hslots, if_pos rfl]
  · rw [ht.cap, hcap, hb.cap, hwork, State.servedAtMark, hqueue]

variable (hp : s.cap.phase = .idle ∨ s.cap.phase = .recover)
include hp

/-- A trigger accepted before the work of a unit that serves none, at an input frame end that leaves the state other than
LOCKED (R133, R150). -/
theorem TriggerThenCapture.waits (h : TriggerThenCapture s r lines i t)
    (hl : (s.vin.judged (goodFrame s.vin r lines)).lock ≠ .locked) : (t.slot slot).captureFlag = true
      ∧ t.cap = { s.cap with phase := .idle, queue := s.cap.queue ++ [triggerRequest p i k slot] } := by
  obtain ⟨a, b, hat, hta, hb, ht⟩ := h
  have hpoised := hat.poised (p := p)
  have hda := hd.congr hta
  have hona := mt hpoised.ignores_iff.mp hon
  have haa := hpoised.admits ha
  have hout : a.vin.lock ≠ .locked := fun e => hl (by
    rw [hg, TrailerInput.judged_good_locked]
    exact .inl (by rw [hat.vin] at e; exact e))
  obtain ⟨hcap, hslots⟩ := hda.accepted_waits hona haa (.inr hout) true
  rw [hat.cap, ← hb.cap] at hcap
  have hvin := hb.vin.trans ((hda.accepted hona haa true).vin.trans hat.vin)
  obtain ⟨hrests, hwork⟩ := State.captureAtMark_waits hvin (by rw [hcap]; exact hp) (.inl hl)
  refine ⟨?_, ?_⟩
  · rw [ht.slot, hrests.slot, hb.slot, hslots, if_pos rfl]
  · rw [ht.cap, hwork, hcap]

/-- A trigger accepted behind the work of a unit that serves none, at an input frame end that leaves the state other than
LOCKED (R133, R150). -/
theorem CaptureThenTrigger.waits (h : CaptureThenTrigger s r lines i t)
    (hl : (s.vin.judged (goodFrame s.vin r lines)).lock ≠ .locked) : (t.slot slot).captureFlag = true
      ∧ t.cap = { s.cap with phase := .idle, queue := s.cap.queue ++ [triggerRequest p i k slot] } := by
  obtain ⟨a, b, hat, hb, htb, ht⟩ := h
  obtain ⟨_, hwork⟩ := hat.waits hp (.inl hl)
  have hpoised : Poised p s b := (hat.poised.trans (.captureAtMark hg a)).trans hb.poised
  have hout : b.vin.lock ≠ .locked := by
    rw [hb.vin, State.captureAtMark, State.vin_lockAndCapture, Ne, TrailerInput.judged_stored_locked hat.vin]
    exact hl
  obtain ⟨hcap, hslots⟩ := (hd.congr htb).accepted_waits (mt hpoised.ignores_iff.mp hon) (hpoised.admits ha) (.inr hout)
    true
  refine ⟨?_, ?_⟩
  · rw [ht.slot, hslots, if_pos rfl]
  · rw [ht.cap, hcap, hb.cap, hwork]

variable {dead rest : List CaptureRequest} (hl : (s.vin.judged (goodFrame s.vin r lines)).lock = .locked)
  (hq : FirstFit s.vin s.cap.queue dead rest)
include hl hq

/-- A trigger accepted before the work of a unit that serves none, at an input frame end that leaves the state LOCKED
(R129, R131, R150). -/
theorem TriggerThenCapture.served (hfree : ∀ d ∈ s.cap.queue, d.slot ≠ slot)
    (h : TriggerThenCapture s r lines i t) : (t.slot slot).captureFlag = true
    ∧ t.cap = { s.cap with phase := .idle }.served s.vin.settle .receiving (rest ++ [triggerRequest p i k slot]) := by
  obtain ⟨a, b, hat, hta, hb, ht⟩ := h
  have hpoised := hat.poised (p := p)
  have hda := hd.congr hta
  have hona := mt hpoised.ignores_iff.mp hon
  have haa := hpoised.admits ha
  have hvin := hb.vin.trans ((hda.accepted hona haa true).vin.trans hat.vin)
  have hflag : (b.slot slot).captureFlag = true := by
    rw [hb.slot]
    exact hda.flag_accepted hona haa (by rw [hat.cap]; exact hfree) true
  by_cases hw : a.cap.phase = .idle ∧ a.vin.lock = .locked
  · obtain ⟨hcap, _⟩ := hda.accepted_served hona haa hw.1 hw.2 (dead := dead) (rest := rest)
      (by rw [hat.cap, hat.vin]; exact hq.congr rfl rfl) true
    have hidle : { s.cap with phase := .idle } = s.cap := by rw [← hat.cap, ← hw.1]
    obtain ⟨c, behind, hcons⟩ : ∃ c behind, rest ++ [triggerRequest p i k slot] = c :: behind :=
      List.exists_cons_of_ne_nil (by simp)
    rw [hat.cap, hat.vin, hcons, ← hb.cap] at hcap
    rw [hidle, hcons]
    obtain ⟨_, _, hserving⟩ := s.cap.served_cons s.vin.settle .receiving c behind
    obtain ⟨hrests, hwork⟩ := State.captureAtMark_serving hvin (by rw [hg]; exact b.not_cutAtMark_good)
      (by rw [hcap]; exact hserving)
    refine ⟨?_, ?_⟩
    · rw [ht.slot, hrests.slot, hflag]
    · rw [ht.cap, hwork, hcap, hg]
      exact s.cap.atMark_served _ _ (by rw [← hat.cap, hw.1]; rfl) _ _ c behind
  · obtain ⟨hcap, _⟩ := hda.accepted_waits hona haa (not_and_or.mp hw) true
    rw [hat.cap, ← hb.cap] at hcap
    obtain ⟨⟨w, hw, htells⟩, hwork⟩ := State.captureAtMark_served (s := s) (r := r) (lines := lines) (u := b)
      (dead := dead) (rest := rest ++ [triggerRequest p i k slot]) hvin (by rw [hcap]; exact hp) hl
      (by rw [hcap]; exact hq.append (within_and_clear_of_triggerAdmits ha).1)
    refine ⟨?_, ?_⟩
    · rw [ht.slot, htells.slots, hw.slot, Slot.unnamed, if_neg]
      · exact hflag
      · rintro ⟨d, hd, he⟩
        exact hfree d (hq.1 ▸ List.mem_append_left rest hd) he
    · rw [ht.cap, hwork, hcap]
      exact CaptureUnit.served_queue { s.cap with phase := .idle } _ _ _ _

/-- A trigger accepted behind the work of a unit that serves none, at an input frame end that leaves the state LOCKED
(R129, R131, R150). -/
theorem CaptureThenTrigger.served (h : CaptureThenTrigger s r lines i t) : (t.slot slot).captureFlag = true
    ∧ t.cap = { s.cap with phase := .idle }.served s.vin.settle .receiving (rest ++ [triggerRequest p i k slot]) := by
  obtain ⟨a, b, hat, hb, htb, ht⟩ := h
  obtain ⟨_, hwork⟩ := hat.served hp hl hq
  have hpoised : Poised p s b := (hat.poised.trans (.captureAtMark hg a)).trans hb.poised
  have hvin : b.vin = a.vin.judged (goodFrame s.vin r lines) := by
    rw [hb.vin, State.captureAtMark, State.vin_lockAndCapture]
  have hsettle : b.vin.settle = s.vin.settle := by
    rw [hvin, (a.vin.judged_format _).2.2, hat.vin]
    rfl
  obtain ⟨hcap, hflag⟩ := (hd.congr htb).accepted_behind (atMark := true) (base := { s.cap with phase := .idle })
    (mt hpoised.ignores_iff.mp hon) (hpoised.admits ha) rfl
    (by rw [hvin, TrailerInput.judged_stored_locked hat.vin]; exact hl) (by rw [hsettle, hb.cap, hwork]; rfl)
  refine ⟨?_, ?_⟩
  · rw [ht.slot, hflag]
  · rw [ht.cap, hcap, hsettle]
    rfl

end

/-- With the timer stopped that alone would trigger, none triggers. -/
theorem State.not_triggersAt_stopped {s : State} {i : Fin 4} {src : TimerSource}
    (h : ∀ j, j ≠ i → ¬ (s.timer j).TriggersAt src) (j : Fin 4) :
    ¬ ((s.setTimer i { s.timer i with running := false }).timer j).TriggersAt src := by
  by_cases hj : j = i
  · subst hj
    rw [State.timer_setTimer]
    exact fun ht => absurd ht.1 nofun
  · rw [State.timer_setTimer_ne _ _ _ _ hj]
    exact h j hj

/-- An accepted trigger at a good input frame end, with none in service before it (R129, R131, R133, R150). -/
theorem State.frameEnd_considered {s t : State} {r : ReceivingFrame} {lines : List (List Half)} {i : Fin 4} {p : Port}
    {k : Template} {slot : Fin 64} (hd : TriggerDue s i p k slot) (hg : goodFrame s.vin r lines = true)
    (hon : ¬ s.ignoresTriggers) (ha : triggerAdmits s p k.crop slot = true)
    (hp : s.cap.phase = .idle ∨ s.cap.phase = .recover) {dead rest : List CaptureRequest}
    (hq : FirstFit s.vin s.cap.queue dead rest) (hfree : ∀ d ∈ s.cap.queue, d.slot ≠ slot)
    (h : TriggerThenCapture s r lines i t ∨ CaptureThenTrigger s r lines i t) : (t.slot slot).captureFlag = true
      ∧ t.cap = if (s.vin.judged (goodFrame s.vin r lines)).lock = .locked then
          { s.cap with phase := .idle }.served s.vin.settle .receiving (rest ++ [triggerRequest p i k slot])
        else { s.cap with phase := .idle, queue := s.cap.queue ++ [triggerRequest p i k slot] } := by
  by_cases hl : (s.vin.judged (goodFrame s.vin r lines)).lock = .locked
  · rw [if_pos hl]
    exact h.elim (fun h => h.served hd hg hon ha hp hl hq hfree) fun h => h.served hd hg hon ha hp hl hq
  · rw [if_neg hl]
    exact h.elim (fun h => h.waits hd hg hon ha hp hl) fun h => h.waits hd hg hon ha hp hl

/-- A timer that triggers a capture at its next event of kind `src` is due. -/
theorem TriggerDue.of_triggersAt {s : State} {i : Fin 4} {p : Port} {k : Template} {slot : Fin 64} {src : TimerSource}
    (h : (s.timer i).TriggersAt src) (hk : (s.timer i).template = some k) (hh : (s.timer i).holder = some p)
    (hslot : slot.val = k.first + (s.timer i).templateIndex) :
    (s.timer i).ExpiresAt src ∧ TriggerDue s i p k slot := by
  obtain ⟨hr, hm, hs, ha, hp, hn⟩ := h
  exact ⟨⟨⟨hr, hm, hs⟩, hp, hn⟩, hp, hn, ha, hh, hk, hslot⟩

theorem Phase.serving_iff (x : Phase) : x.serving = true ↔ x = .settle ∨ x = .sample ∨ x = .held := by
  cases x <;> simp [Phase.serving]

theorem Phase.not_serving_iff (x : Phase) : x.serving = false ↔ x = .idle ∨ x = .recover := by
  cases x <;> simp [Phase.serving]

theorem CaptureOk.serving_or_none {s : State} (h : CaptureOk s) :
    s.cap.phase.serving = true ∨ s.cap.active = none := by
  obtain ⟨_, _, hactive, _⟩ := h
  cases ha : s.cap.active with
  | none => exact .inr rfl
  | some a => exact .inl (by rw [← hactive, ha]; rfl)

end Sys2Proof.Machine
end

section
/-! PROOFS. Capture triggers at an output frame start: what the other blocks' work leaves of a trigger's checks and of the
Capture Unit (R113, R132, R148 to R151). -/

namespace Sys2Proof.Machine

/-! ### Works that no trigger notices -/

/-- A slot that a trigger may name keeps what the trigger's checks read of it, and no other slot becomes one. -/
def Slot.Calm (x y : Slot) : Prop :=
  (y.state = x.state ∧ y.owner = x.owner ∧ y.captureFlag = x.captureFlag)
    ∨ ¬ x.Stands ∧ ¬ y.Stands ∧ (y.owner = x.owner ∨ y.owner = none) ∧ (x.captureFlag = false → y.captureFlag = false)

theorem Slot.Calm.refl (x : Slot) : x.Calm x := .inl ⟨rfl, rfl, rfl⟩

theorem Slot.Calm.stands_iff {x y : Slot} (h : x.Calm y) : y.Stands ↔ x.Stands := by
  rcases h with ⟨hs, _, _⟩ | ⟨hx, hy, _, _⟩
  · rw [Slot.Stands, hs]
    rfl
  · exact iff_of_false hy hx

theorem Slot.Calm.lasts {x y : Slot} (h : x.Calm y) : x.Lasts y := by
  have hstands := h.stands_iff
  rcases h with ⟨_, ho, hf⟩ | ⟨hx, _, ho, hf⟩
  · exact ⟨.inl ho, fun hx => ⟨hstands.mpr hx, ho⟩, fun hc => hf.trans hc⟩
  · exact ⟨ho, fun h => absurd h hx, hf⟩

theorem Slot.Calm.trans {x y z : Slot} (h : x.Calm y) (k : y.Calm z) : x.Calm z := by
  have hxz := h.lasts.trans k.lasts
  by_cases hx : x.Stands
  · rcases h with ⟨hs, ho, hf⟩ | ⟨hnot, _⟩
    · rcases k with ⟨hs', ho', hf'⟩ | ⟨hnot, _⟩
      · exact .inl ⟨hs'.trans hs, ho'.trans ho, hf'.trans hf⟩
      · exact absurd (by rwa [Slot.Stands, hs]) hnot
    · exact absurd hx hnot
  · exact .inr ⟨hx, by rw [k.stands_iff, h.stands_iff]; exact hx, hxz.owner, hxz.clear⟩

theorem Slot.Calm.slotLessRef (x : Slot) : x.Calm (slotLessRef x) := by
  unfold Machine.slotLessRef
  split
  · rename_i h
    refine .inr ⟨?_, by simp [Slot.Stands, Slot.freed], .inr rfl, fun _ => rfl⟩
    rw [Slot.Stands, h.1]
    nofun
  · exact .inl ⟨rfl, rfl, rfl⟩

theorem Slot.Calm.slotLessRefs (x : Slot) (n : Nat) : x.Calm (Machine.slotLessRef^[n] x) :=
  iterate_slotLessRef_keeps (P := x.Calm) (fun _ h => h.trans (.slotLessRef _)) n (.refl x)

/-- From `s` to `t` the slots are calm, and TRIG_MISS stays as it is. -/
structure Calm (s t : State) : Prop where
  slots : ∀ j, (s.slot j).Calm (t.slot j)
  spared : FlagKept .trigMiss s t

theorem Calm.trans {s t u : State} (h : Calm s t) (k : Calm t u) : Calm s u :=
  ⟨fun j => (h.slots j).trans (k.slots j), h.spared.trans k.spared⟩

theorem Calm.of_same {s t : State} (hslots : t.slots = s.slots) (hports : t.ports = s.ports) : Calm s t :=
  ⟨fun j => by rw [State.slot, State.slot, hslots]; exact .refl _, .of_ports hports⟩

theorem Calm.refl (s : State) : Calm s s := .of_same rfl rfl

theorem Calm.foldl {α : Type} (f : State → α → State) (h : ∀ s a, Calm s (f s a)) (as : List α) (s : State) :
    Calm s (as.foldl f s) := by
  induction as generalizing s with
  | nil => exact .refl s
  | cons a rest ih => exact (h s a).trans (ih (f s a))

section
variable (s : State)

theorem Calm.dropRefs (ps : List Placement) : Calm s (s.dropRefs ps) :=
  ⟨fun j => by rw [State.slot_dropRefs]; exact .slotLessRefs _ _, .of_ports (State.ports_dropRefs _ _)⟩

theorem Calm.raiseAt (p : Option Port) {f : EventFlag} (hf : f ≠ .trigMiss) : Calm s (s.raiseAt p f) :=
  ⟨fun j => by rw [(Still.raiseAt s p hf).slot]; exact .refl _, (Still.raiseAt s p hf).spared⟩

theorem Calm.applyCommit (l : Fin 8) : Calm s (s.applyCommit l) := by
  by_cases h : (s.layer l).commits
  · rw [State.applyCommit_of_commits h]
    have hdrop : Calm s ((s.setLayer l (s.layer l).applied).dropRefs (s.layer l).live) :=
      Calm.trans (t := s.setLayer l (s.layer l).applied) (.of_same rfl rfl) (.dropRefs _ _)
    exact hdrop.trans (.raiseAt _ _ (f := .frame) nofun)
  · rw [State.applyCommit_of_not_commits h]
    exact .refl s

theorem Calm.discardStaged (l : Fin 8) : Calm s (s.discardStaged l) :=
  Calm.trans (t := s.setLayer l { s.layer l with staged := none }) (.of_same rfl rfl) (.dropRefs _ _)

theorem Calm.finishRelease (l : Fin 8) : Calm s (s.finishRelease l) := by
  unfold State.finishRelease
  split
  · refine (Calm.discardStaged s l).trans (Calm.trans (t := (s.discardStaged l).setLayer l _) ?_ (.dropRefs _ _))
    exact .of_same rfl rfl
  · exact .refl s

theorem Calm.sceneWork : Calm s s.sceneWork := by
  have hstep (s : State) (l : Fin 8) : Calm s (s.stepOpacity l) := .of_same rfl rfl
  have hcopy (s : State) : Calm s s.copyScene := .of_same rfl rfl
  exact (((Calm.foldl _ Calm.applyCommit _ s).trans (.foldl _ Calm.finishRelease _ _)).trans (hcopy _)).trans
    (.foldl _ hstep _ _)

theorem Calm.openSlot (i : Fin 64) : Calm s (s.openSlot i) := by
  unfold State.openSlot
  split
  · rename_i h
    refine Calm.trans (t := s.setSlot i { s.slot i with state := .opened }) ⟨fun j => ?_, .of_ports rfl⟩
      (.raiseAt _ _ nofun)
    by_cases hj : j = i
    · subst hj
      rw [State.slot_setSlot]
      refine .inr ⟨?_, by simp [Slot.Stands], .inl rfl, id⟩
      rw [Slot.Stands, h]
      nofun
    · rw [State.slot_setSlot_ne _ _ _ _ hj]
      exact .refl _
  · exact .refl s

theorem Calm.fallbackWork : Calm s s.fallbackWork :=
  ⟨fun j => by rw [State.slot_fallbackWork]; exact .slotLessRefs _ _, .of_ports s.ports_fallbackWork⟩

theorem Calm.promotionWork : Calm s s.promotionWork := by
  have hrefresh (s : State) (l : Fin 8) : Calm s (s.refreshMonitor l) := by
    unfold State.refreshMonitor
    dsimp only
    split
    · exact .of_same rfl rfl
    · exact .refl s
  unfold State.promotionWork
  split
  · exact .refl s
  · rename_i f _
    exact Calm.trans (t := s.setVin { s.vin with shown := some f, ready := none }) (.of_same rfl rfl)
      (.foldl _ hrefresh _ _)

theorem Calm.monitorWork (l : Fin 8) : Calm s (s.monitorWork l) := by
  unfold State.monitorWork
  dsimp only
  split
  · exact .refl s
  split
  · have hfirst : Calm s ((s.withExpiry l).raiseAt (s.layer l).notified .expired) :=
      Calm.trans (t := s.withExpiry l) (.of_same rfl rfl) (.raiseAt _ _ nofun)
    exact (hfirst.trans (.raiseAt _ (s.monitor l).lockingPort (f := .expired) nofun)).trans (.of_same rfl rfl)
  · exact .of_same rfl rfl

end

/-- Every block's work but the silence count's, the Capture Unit's and the timers'. -/
theorem Calm.frameWork (s : State) {k : FrameWork} (hs : k ≠ .silence) (ht : k ≠ .takeover) (hm : ∀ i, k ≠ .timer i) :
    Calm s (frameWork k s) := by
  cases k with
  | scene => exact .sceneWork s
  | slots => exact .foldl _ Calm.openSlot _ s
  | fallback => exact .fallbackWork s
  | palette => exact .of_same rfl rfl
  | promotion => exact .promotionWork s
  | silence => exact absurd rfl hs
  | takeover => exact absurd rfl ht
  | monitor l => exact .monitorWork s l
  | timer i => exact absurd rfl (hm i)

/-! ### Works beside one timer's, no lock lost and no thumbnail taken over -/

/-- From `s` to `t` the Capture Unit and timer `i` stay, and of the input the frames and the silence count alone move. -/
structure Aside (i : Fin 4) (s t : State) : Prop extends Calm s t where
  cap : t.cap = s.cap
  vin : t.vin = { s.vin with ready := t.vin.ready, shown := t.vin.shown, silence := t.vin.silence }
  reports : ∀ q, (t.port q).reports = (s.port q).reports
  index : ∀ j, (t.timer j).templateIndex = (s.timer j).templateIndex
  timer : t.timer i = s.timer i

section
variable {i : Fin 4} {s t u : State}

theorem Aside.refl (i : Fin 4) (s : State) : Aside i s s :=
  ⟨.refl s, rfl, rfl, fun _ => rfl, fun _ => rfl, rfl⟩

theorem Aside.trans (h : Aside i s t) (k : Aside i t u) : Aside i s u where
  toCalm := h.toCalm.trans k.toCalm
  cap := k.cap.trans h.cap
  vin := by rw [k.vin, h.vin]
  reports q := (k.reports q).trans (h.reports q)
  index j := (k.index j).trans (h.index j)
  timer := k.timer.trans h.timer

theorem Still.aside (h : Still s t) (hi : t.timer i = s.timer i) : Aside i s t where
  slots j := by
    rw [h.slot]
    exact .refl _
  spared := h.spared
  cap := h.cap
  vin := by rw [h.vin]
  reports := h.reports
  index := h.index
  timer := hi

theorem Aside.poised (h : Aside i s t) (p : Port) : Poised p s t where
  input := by
    rw [h.vin]
    exact ⟨rfl, rfl, rfl, .rfl⟩
  outstanding := (State.outstanding_congr (by rw [h.cap]) (h.reports p)).le
  queue := by rw [h.cap]
  slots j := (h.slots j).lasts
  spared := h.spared
  index := h.index

theorem Aside.outstanding (h : Aside i s t) (p : Port) : t.outstanding p = s.outstanding p :=
  State.outstanding_congr (by rw [h.cap]) (h.reports p)

theorem Still.timerFrameWork (s : State) (j : Fin 4) (h : ¬ (s.timer j).TriggersAt .ofs) :
    Still s (s.timerFrameWork j) := by
  unfold State.timerFrameWork
  dsimp only
  split
  case isFalse => exact .refl s
  rename_i hr
  split
  · exact .setTimer s j rfl
  all_goals
    rename_i hmode
    split
    · rename_i hs
      exact .countTimer s j false fun ⟨ha, hfull, hlast⟩ => h ⟨hr, by rw [hmode]; nofun, hs, ha, hfull, hlast⟩
    · exact .refl s

/-- Short of the limit the silence count alone moves (R113). -/
theorem Aside.silenceWork (h : ¬ s.lapses) : Aside i s s.silenceWork := by
  obtain ⟨n, hn⟩ := State.silenceWork_of_not_lapses h
  rw [hn]
  exact ⟨.of_same rfl rfl, rfl, rfl, fun _ => rfl, fun _ => rfl, rfl⟩

/-- Whether a timer's work at an output frame start triggers no capture. -/
def FrameQuiet (k : FrameWork) (s : State) : Prop := ∀ j, k = .timer j → ¬ (s.timer j).TriggersAt .ofs

theorem FrameQuiet.step {k j : FrameWork} (h : k ≠ j) (hs : FrameQuiet k s) : FrameQuiet k (frameWork j s) := by
  rintro l rfl
  rw [frameWork_timer s l h.symm]
  exact hs l rfl

/-- Every work but the takeover's and that of timer `i`. -/
theorem Aside.frameWork {k : FrameWork} (ht : k ≠ .takeover) (hi : k ≠ .timer i) (hq : FrameQuiet k s)
    (hs : k = .silence → ¬ s.lapses) : Aside i s (frameWork k s) := by
  by_cases hsil : k = .silence
  · subst hsil
    exact .silenceWork (hs rfl)
  by_cases hm : ∃ j, k = .timer j
  · obtain ⟨j, rfl⟩ := hm
    exact (Still.timerFrameWork s j (hq j rfl)).aside (frameWork_timer s i hi)
  · have hno (j : Fin 4) : k ≠ .timer j := fun e => hm ⟨j, e⟩
    have hquiet := Quiet.frameWork s hsil ht hno
    exact ⟨.frameWork s hsil ht hno, hquiet.cap, by rw [hquiet.vin], hquiet.reports,
      fun j => by rw [hquiet.timers j (hno j)], hquiet.timers i (hno i)⟩

end

/-! ### A lock lost, and a thumbnail taken over (R132, R135) -/

/-- From `s` to `t` a trigger of port `p` by timer `i` is no worse off, and the port has as much outstanding. -/
structure PoisedBeside (i : Fin 4) (p : Port) (s t : State) : Prop extends Poised p s t where
  level : t.outstanding p = s.outstanding p
  timer : t.timer i = s.timer i

section
variable {i : Fin 4} {p : Port} {s t u : State}

theorem PoisedBeside.refl (i : Fin 4) (p : Port) (s : State) : PoisedBeside i p s s := ⟨.refl p s, rfl, rfl⟩

theorem PoisedBeside.trans (h : PoisedBeside i p s t) (k : PoisedBeside i p t u) : PoisedBeside i p s u :=
  ⟨h.toPoised.trans k.toPoised, k.level.trans h.level, k.timer.trans h.timer⟩

theorem Aside.poisedBeside (h : Aside i s t) (p : Port) : PoisedBeside i p s t :=
  ⟨h.poised p, h.outstanding p, h.timer⟩

/-- The report of an aborted request takes its place among its requester's (R125, R134). -/
theorem State.outstanding_abortActive (s : State) {o : OutcomeCode} (ho : o ≠ .ok) (p : Port) :
    (s.abortActive (some o)).outstanding p = s.outstanding p := by
  cases ha : s.cap.active with
  | none => rw [State.abortActive_of_none ha]
  | some r =>
    obtain ⟨hports, _, hcap⟩ := State.abortActive_told ha ho
    have hafter : (s.abortActive (some o)).cap.requests = s.cap.queue := by
      rw [hcap]
      rfl
    rw [State.outstanding_eq, State.outstanding_eq, hports, State.reports_told, hafter, CaptureUnit.requests_of_some ha]
    simp only [List.countP_cons, List.countP_nil]
    omega

theorem Poised.abortActive (s : State) {o : OutcomeCode} (ho : o ≠ .ok) : Poised p s (s.abortActive (some o)) where
  input := by
    rw [(s.abortActive_only (some o)).steady.vin]
    exact .refl _
  outstanding := (s.outstanding_abortActive ho p).le
  queue := by rw [s.queue_abortActive]
  slots j := by
    rw [(s.abortActive_tells ho).slots]
    exact .unnamed _ j _
  spared := (s.abortActive_tells ho).flagKept nofun nofun
  index j := by
    rw [s.abortActive_only (some o)]
    rfl

theorem State.outstanding_lockLost (s : State) (p : Port) : s.lockLost.outstanding p = s.outstanding p :=
  State.outstanding_congr (t := s.lockLost) (s := s) rfl (s.reports_lockLost p)

theorem Poised.lockLost (h : s.vin.lock = .locked) : Poised p s s.lockLost := by
  have hslot (j : Fin 64) : s.lockLost.slot j = s.slot j := rfl
  have htimer (j : Fin 4) : s.lockLost.timer j = s.timer j := rfl
  have hlock : s.lockLost.vin.lock = .lost := rfl
  refine ⟨⟨rfl, rfl, rfl, ?_⟩, (s.outstanding_lockLost p).le, le_rfl, fun j => ?_, fun q => ?_, fun j => ?_⟩
  · rw [h, hlock]
    exact iff_of_false nofun nofun
  · rw [hslot]
    exact .refl _
  · rw [State.port_lockLost]
    exact PortState.hasFlag_of_other nofun (flagBit_and_of_ne (g := .vinChange) nofun) rfl
  · rw [htimer]

theorem PoisedBeside.silenceWork (i : Fin 4) (p : Port) (s : State) : PoisedBeside i p s s.silenceWork := by
  by_cases h : s.lapses
  case neg => exact (Aside.silenceWork h).poisedBeside p
  have htimer : s.silenceWork.timer i = s.timer i := by
    rw [State.silenceWork_eq]
    rfl
  rw [State.silenceWork_of_lapses h] at htimer ⊢
  split at htimer
  · rename_i hp
    rw [if_pos hp]
    exact ⟨(Poised.lockLost h.1).trans (.abortActive _ nofun),
      (State.outstanding_abortActive _ (o := .noInput) nofun p).trans (s.outstanding_lockLost p), htimer⟩
  · rename_i hp
    rw [if_neg hp]
    exact ⟨.lockLost h.1, s.outstanding_lockLost p, htimer⟩

/-- The takeover does nothing, or hands a thumbnail over (R132). -/
theorem State.takeoverWork_cases (s : State) : s.takeoverWork = s ∨ ∃ r w h cs, s.cap.phase = .held
    ∧ s.cap.active = some r ∧ s.cap.result = .finished w h cs
    ∧ s.takeoverWork = (s.handOver r w h cs).activate false := by
  unfold State.takeoverWork
  split
  · rename_i r w h cs hp ha hr
    exact .inr ⟨r, w, h, cs, hp, ha, hr, rfl⟩
  · exact .inl rfl

theorem Slot.Lasts.takenOver (x : Slot) (w h : Nat) (cs : List Colour) : x.Lasts (takenOver x w h cs) :=
  ⟨.inl rfl, fun _ => ⟨.inr rfl, rfl⟩, fun _ => rfl⟩

/-- The report of a thumbnail taken over takes its request's place (R125, R132). -/
theorem State.outstanding_handOver {r : CaptureRequest} (ha : s.cap.active = some r) (w h : Nat) (cs : List Colour)
    (p : Port) : (s.handOver r w h cs).outstanding p = s.outstanding p := by
  have hunit : (s.handOver r w h cs).cap.requests = s.cap.queue := rfl
  rw [State.outstanding_eq, State.outstanding_eq, hunit, State.reports_handOver, CaptureUnit.requests_of_some ha,
    List.countP_cons, List.length_append]
  by_cases hp : r.requester = p
  · simp [hp]
    omega
  · simp [hp, Ne.symm hp]

theorem Poised.handOver {r : CaptureRequest} (ha : s.cap.active = some r) (w h : Nat) (cs : List Colour) :
    Poised p s (s.handOver r w h cs) where
  input := .refl _
  outstanding := (State.outstanding_handOver ha w h cs p).le
  queue := le_rfl
  slots j := by
    by_cases hj : j = r.slot
    · subst hj
      rw [State.slot_handOver_same]
      exact .takenOver _ w h cs
    · rw [State.slot_handOver_ne hj]
      exact .refl _
  spared q := by
    rw [State.port_handOver]
    unfold PortState.delivered
    split
    · exact PortState.hasFlag_of_other nofun (flagBit_and_of_ne (g := .capDone) nofun) rfl
    · rfl
  index _ := rfl

theorem PoisedBeside.takeoverWork (i : Fin 4) (p : Port) (s : State) : PoisedBeside i p s s.takeoverWork := by
  rcases s.takeoverWork_cases with h | ⟨r, w, h, cs, _, ha, _, he⟩
  · rw [h]
    exact .refl i p s
  · have htimer : s.takeoverWork.timer i = s.timer i := frameWork_timer s (k := .takeover) i nofun
    rw [he] at htimer ⊢
    exact ⟨(Poised.handOver ha w h cs).trans (.activate p _ false),
      ((State.outstanding_activate _ false p).2 rfl).trans (State.outstanding_handOver ha w h cs p), htimer⟩

theorem PoisedBeside.frameWork {k : FrameWork} (hi : k ≠ .timer i) (hq : FrameQuiet k s) :
    PoisedBeside i p s (frameWork k s) := by
  by_cases hs : k = .silence
  · subst hs
    exact .silenceWork i p s
  by_cases ht : k = .takeover
  · subst ht
    exact .takeoverWork i p s
  · exact (Aside.frameWork ht hi hq fun h => absurd h hs).poisedBeside p

end

/-! ### The order of the work at an output frame start -/

/-- The end of an output frame start: the view is taken. -/
def State.closed (u : State) : State := { u with frameTaken := [], view := some (takeView u) }

theorem Aside.closed (i : Fin 4) (u : State) : Aside i u u.closed :=
  ⟨.of_same rfl rfl, rfl, rfl, fun _ => rfl, fun _ => rfl, rfl⟩

theorem State.frameStart_eq {s : State} (hs : s.frameTaken = []) (order : List FrameWork) : s.frameStart order =
    ((firsts (order ++ allFrameWork)).foldl (fun u k => frameWork k u) s).closed := by
  rw [State.frameStart, hs, frameOrder_nil]
  rfl

theorem exec_outputFrameStart (order : List FrameWork) {s : State} (hpin : s.resetPin = false) :
    exec (.outputFrameStart order) s = .next (s.frameStart order) :=
  congrArg Host.Outcome.next (if_neg (by rw [hpin]; nofun))

theorem mem_startOrder (order : List FrameWork) (k : FrameWork) : k ∈ firsts (order ++ allFrameWork) := by
  simp [mem_firsts, mem_allFrameWork]

section
variable {i : Fin 4} {p : Port} {k : Template} {slot : Fin 64} {s x w : State}

theorem State.lapses_frameWork {j : FrameWork} (hj : j ≠ .silence) : (frameWork j s).lapses ↔ s.lapses := by
  unfold State.lapses
  rw [frameWork_vin s hj]

/-- An output frame start at which timer `i` alone triggers: its work amid the others' (R151). -/
theorem State.start_amid (hs : s.frameTaken = []) (hc : (s.timer i).CountsAt .ofs)
    (h : ∀ j, j ≠ i → ¬ (s.timer j).TriggersAt .ofs) (order : List FrameWork) (p : Port) :
    ∃ x, PoisedBeside i p s x ∧ PoisedBeside i p (x.countTimer i false) (s.frameStart order) := by
  have hchain := Chain.foldl (R := PoisedBeside i p) (work := frameWork) (fun _ _ _ => .trans) (.refl i p)
    (fun k => k = .timer i) (ready := FrameQuiet) (fun k u hk hq => .frameWork (by simpa using hk) hq)
    (fun k j u => FrameQuiet.step) (firsts (order ++ allFrameWork)) s (firsts_nodup _)
    fun k _ hk j hj => h j fun e => by simp [hj, e] at hk
  rw [filter_single (firsts_nodup _) (mem_startOrder order _)] at hchain
  obtain ⟨x, hx, ht⟩ := hchain
  have hwork : frameWork (.timer i) x = x.countTimer i false :=
    State.timerFrameWork_of_counts (by rw [hx.timer]; exact hc)
  rw [hwork] at ht
  rw [State.frameStart_eq hs]
  exact ⟨x, hx, ht.trans ((Aside.closed i _).poisedBeside p)⟩

/-- Timer `i` triggers at an output frame start of `s` before the takeover. -/
def TriggerThenTakeover (i : Fin 4) (s w : State) : Prop :=
  ∃ x y, Aside i s x ∧ Aside i (x.countTimer i false) y ∧ Aside i y.takeoverWork w

/-- Timer `i` triggers at an output frame start of `s` behind the takeover. -/
def TakeoverThenTrigger (i : Fin 4) (s w : State) : Prop :=
  ∃ x y, Aside i s x ∧ Aside i x.takeoverWork y ∧ Aside i (y.countTimer i false) w

/-- An output frame start that loses no lock, at which timer `i` alone triggers. -/
theorem State.start_split (hs : s.frameTaken = []) (hc : (s.timer i).CountsAt .ofs)
    (h : ∀ j, j ≠ i → ¬ (s.timer j).TriggersAt .ofs) (hl : ¬ s.lapses) (order : List FrameWork) :
    TriggerThenTakeover i s (s.frameStart order) ∨ TakeoverThenTrigger i s (s.frameStart order) := by
  have hwork {x : State} (hx : x.timer i = s.timer i) : frameWork (.timer i) x = x.countTimer i false :=
    State.timerFrameWork_of_counts (by rw [hx]; exact hc)
  have hchain := Chain.foldl (R := Aside i) (work := frameWork) (fun _ _ _ => .trans) (.refl i)
    (fun k => k = .timer i ∨ k = .takeover) (ready := fun k u => FrameQuiet k u ∧ (k = .silence → ¬ u.lapses))
    (fun k u hk hq => by
      obtain ⟨hi, ht⟩ := not_or.mp (of_decide_eq_false hk)
      exact .frameWork ht hi hq.1 hq.2)
    (fun k j u hkj hq => ⟨hq.1.step hkj, fun e => by
      rw [State.lapses_frameWork (e ▸ hkj.symm)]
      exact hq.2 e⟩)
    (firsts (order ++ allFrameWork)) s (firsts_nodup _)
    fun k _ hk => ⟨fun j hj => h j fun e => by simp [hj, e] at hk, fun _ => hl⟩
  rw [State.frameStart_eq hs]
  refine (filter_pair (firsts_nodup _) (a := FrameWork.timer i) (b := .takeover) nofun (mem_startOrder order _)
    (mem_startOrder order _)).imp (fun hf => ?_) fun hf => ?_
  · rw [hf] at hchain
    obtain ⟨x, hx, y, hy, ht⟩ := hchain
    rw [hwork hx.timer] at hy
    exact ⟨x, y, hx, hy, ht.trans (.closed i _)⟩
  · rw [hf] at hchain
    obtain ⟨x, hx, y, hy, ht⟩ := hchain
    have hty : y.timer i = s.timer i := by rw [hy.timer, frameWork_timer (k := .takeover) _ i nofun, hx.timer]
    rw [hwork hty] at ht
    exact ⟨x, y, hx, hy, ht.trans (.closed i _)⟩

/-- A trigger's checks find beside other blocks' work what they found before it. -/
theorem Aside.admits_iff (h : Aside i s x) (p : Port) (c : Crop) (slot : Fin 64) :
    triggerAdmits x p c slot = true ↔ triggerAdmits s p c slot = true := by
  refine ⟨fun ha => ?_, (h.poised p).admits⟩
  obtain ⟨_, hstands, hclear, hqueue⟩ := (triggerAdmits_iff_fixed x p c slot).mp ha
  obtain ⟨_, ho, hf⟩ | ⟨_, hnot, _⟩ := h.slots slot
  · refine (triggerAdmits_iff_fixed s p c slot).mpr ⟨.of_admits (h.poised p).input (h.outstanding p)
      (by rw [ho]; exact id) ha, (h.slots slot).stands_iff.mp hstands, hf.symm.trans hclear, by rw [← h.cap]; exact hqueue⟩
  · exact absurd hstands hnot

end

/-! ### The unit behind the trigger (R129, R132, R150) -/

theorem Slot.Calm.flag {x y : Slot} (h : x.Calm y) (hx : x.Stands) (hf : x.captureFlag = true) :
    y.captureFlag = true := by
  rcases h with ⟨_, _, hsame⟩ | ⟨hnot, _⟩
  · exact hsame.trans hf
  · exact absurd hx hnot

theorem Slot.unnamed_of_ne (x : Slot) {i : Fin 64} {rs : List CaptureRequest} (h : ∀ d ∈ rs, d.slot ≠ i) :
    x.unnamed i rs = x := by
  rw [Slot.unnamed, if_neg]
  rintro ⟨d, hd, he⟩
  exact h d hd he

theorem CaptureUnit.phase_served_ne_held {c : CaptureUnit} (h : c.phase ≠ .held) (settle : Nat) (sampled : Sampled)
    (rest : List CaptureRequest) : (c.served settle sampled rest).phase ≠ .held := by
  unfold CaptureUnit.served
  split
  · exact h
  · split <;> nofun

section
variable {i : Fin 4} {p : Port} {k : Template} {slot : Fin 64} {s x w : State}

theorem Aside.lock (h : Aside i s x) : x.vin.lock = s.vin.lock := by rw [h.vin]

theorem Aside.settle (h : Aside i s x) : x.vin.settle = s.vin.settle := by rw [h.vin]

theorem Aside.firstFit (h : Aside i s x) {queue dead rest : List CaptureRequest} (hq : FirstFit s.vin queue dead rest) :
    FirstFit x.vin queue dead rest := hq.congr (by rw [h.vin]) (by rw [h.vin])

/-- The slot of an accepted trigger is still EMPTY or READY. -/
theorem TriggerDue.stands_accepted (h : TriggerDue s i p k slot) (hon : ¬ s.ignoresTriggers)
    (ha : triggerAdmits s p k.crop slot = true) (atMark : Bool) : ((s.countTimer i atMark).slot slot).Stands := by
  obtain ⟨dead, _, hslots⟩ := h.slot_accepted hon ha atMark
  rw [hslots, if_pos rfl, Slot.Stands, (Slot.state_unnamed _ _ _).1]
  exact ((triggerAdmits_iff_fixed s p k.crop slot).mp ha).2.1

/-- A trigger takes no unit to HELD (R121, R129). -/
theorem TriggerDue.phase_ne_held (h : TriggerDue s i p k slot) (hp : s.cap.phase ≠ .held) (atMark : Bool) :
    (s.countTimer i atMark).cap.phase ≠ .held := by
  by_cases hoff : s.ignoresTriggers
  · rw [(h.ignored hoff atMark).cap]
    exact hp
  by_cases ha : triggerAdmits s p k.crop slot = true
  case neg =>
    rw [(h.missed hoff ha atMark).cap]
    exact hp
  by_cases hw : s.cap.phase = .idle ∧ s.vin.lock = .locked
  · obtain ⟨dead, rest, hq⟩ := exists_FirstFit s.vin s.cap.queue
    rw [(h.accepted_served hoff ha hw.1 hw.2 hq atMark).1]
    exact CaptureUnit.phase_served_ne_held hp _ _ _
  · rw [(h.accepted_waits hoff ha (not_and_or.mp hw) atMark).1]
    exact hp

/-- With no thumbnail held the takeover does nothing in either order. -/
theorem TriggerDue.start_unheld (h : TriggerDue s i p k slot) (hp : s.cap.phase ≠ .held)
    (hsplit : TriggerThenTakeover i s w ∨ TakeoverThenTrigger i s w) :
    ∃ x, Aside i s x ∧ Aside i (x.countTimer i false) w := by
  rcases hsplit with ⟨x, y, hx, hy, ht⟩ | ⟨x, y, hx, hy, ht⟩
  · have hphase : y.cap.phase ≠ .held := by
      rw [hy.cap]
      exact (h.congr hx.timer).phase_ne_held (by rw [hx.cap]; exact hp) false
    rw [State.takeoverWork_of_ne hphase] at ht
    exact ⟨x, hx, hy.trans ht⟩
  · rw [State.takeoverWork_of_ne (by rw [hx.cap]; exact hp)] at hy
    exact ⟨y, hx.trans hy, ht⟩

section
variable (hd : TriggerDue s i p k slot) (hon : ¬ s.ignoresTriggers) (ha : triggerAdmits s p k.crop slot = true)
  {dead rest : List CaptureRequest} (hq : FirstFit s.vin s.cap.queue dead rest)
include hd hon ha hq

/-- An accepted trigger at an output frame start with no thumbnail held (R129, R150). -/
theorem TriggerDue.start_accepted_unheld (hfree : ∀ d ∈ s.cap.queue, d.slot ≠ slot) (hx : Aside i s x)
    (hw : Aside i (x.countTimer i false) w) :
    (w.slot slot).captureFlag = true
      ∧ w.cap = if s.cap.phase = .idle ∧ s.vin.lock = .locked then
          s.cap.served s.vin.settle .awaited (rest ++ [triggerRequest p i k slot])
        else { s.cap with queue := s.cap.queue ++ [triggerRequest p i k slot] } := by
  have hdx := hd.congr hx.timer
  have honx := mt (hx.poised p).ignores_iff.mp hon
  have hax := (hx.poised p).admits ha
  refine ⟨(hw.slots slot).flag (hdx.stands_accepted honx hax false)
    (hdx.flag_accepted honx hax (by rw [hx.cap]; exact hfree) false), ?_⟩
  rw [hw.cap]
  split
  · rename_i hidle
    rw [(hdx.accepted_served honx hax (by rw [hx.cap]; exact hidle.1) (by rw [hx.lock]; exact hidle.2)
      (by rw [hx.cap]; exact hx.firstFit hq) false).1, hx.cap, hx.settle]
    rfl
  · rename_i hidle
    rw [(hdx.accepted_waits honx hax (by rw [hx.cap, hx.lock]; exact not_and_or.mp hidle) false).1, hx.cap]

variable {r : CaptureRequest} {width height : Nat} {cs : List Colour} (hp : s.cap.phase = .held)
  (hact : s.cap.active = some r) (hres : s.cap.result = .finished width height cs)
include hp hact hres

/-- An accepted trigger before the takeover of a held thumbnail (R129, R132, R150). -/
theorem TriggerThenTakeover.held (hfree : ∀ d ∈ s.cap.queue, d.slot ≠ slot) (hne : slot ≠ r.slot)
    (h : TriggerThenTakeover i s w) : (w.slot slot).captureFlag = true
    ∧ w.cap = if s.vin.lock = .locked then
        s.cap.handedOver.served s.vin.settle .awaited (rest ++ [triggerRequest p i k slot])
      else { s.cap.handedOver with queue := s.cap.queue ++ [triggerRequest p i k slot] } := by
  obtain ⟨x, y, hx, hy, hw⟩ := h
  have hdx := hd.congr hx.timer
  have honx := mt (hx.poised p).ignores_iff.mp hon
  have hax := (hx.poised p).admits ha
  obtain ⟨hcap, _⟩ := hdx.accepted_waits honx hax (.inl (by rw [hx.cap, hp]; nofun)) false
  rw [hx.cap, ← hy.cap] at hcap
  have hlock : y.vin.lock = s.vin.lock := by rw [hy.lock, (hdx.accepted honx hax false).vin, hx.lock]
  have hsettle : y.vin.settle = s.vin.settle := by rw [hy.settle, (hdx.accepted honx hax false).vin, hx.settle]
  have hfit : FirstFit y.vin y.cap.queue dead (rest ++ [triggerRequest p i k slot]) := by
    rw [hcap]
    refine hy.firstFit ?_
    rw [(hdx.accepted honx hax false).vin]
    exact hx.firstFit (hq.append (within_and_clear_of_triggerAdmits ha).1)
  obtain ⟨_, hslots, hserved⟩ := State.takeoverWork_served (s := y) (by rw [hcap]; exact hp) (by rw [hcap]; exact hact)
    (by rw [hcap]; exact hres) hfit
  have hflag : (y.slot slot).captureFlag = true := (hy.slots slot).flag (hdx.stands_accepted honx hax false)
    (hdx.flag_accepted honx hax (by rw [hx.cap]; exact hfree) false)
  have hstands : (y.slot slot).Stands := (hy.slots slot).stands_iff.mpr (hdx.stands_accepted honx hax false)
  have hsame : y.takeoverWork.slot slot = y.slot slot := by
    rw [hslots, State.slot_handOver_ne hne]
    refine Slot.unnamed_of_ne _ fun d hd => hfree d ?_
    split at hd
    · exact hq.1 ▸ List.mem_append_left rest hd
    · cases hd
  refine ⟨(hw.slots slot).flag (by rw [hsame]; exact hstands) (by rw [hsame]; exact hflag), ?_⟩
  rw [hw.cap, hserved, hlock, hsettle, hcap]
  exact if_congr .rfl (CaptureUnit.served_queue s.cap.handedOver _ _ _ _) rfl

/-- An accepted trigger behind the takeover of a held thumbnail (R129, R132, R150). -/
theorem TakeoverThenTrigger.held (h : TakeoverThenTrigger i s w) : (w.slot slot).captureFlag = true
    ∧ w.cap = if s.vin.lock = .locked then
        s.cap.handedOver.served s.vin.settle .awaited (rest ++ [triggerRequest p i k slot])
      else { s.cap.handedOver with queue := s.cap.queue ++ [triggerRequest p i k slot] } := by
  obtain ⟨x, y, hx, hy, hw⟩ := h
  have honly := x.takeoverWork_onlyCapture.steady.vin
  have hlock : y.vin.lock = s.vin.lock := by rw [hy.lock, honly, hx.lock]
  have hsettle : y.vin.settle = s.vin.settle := by rw [hy.settle, honly, hx.settle]
  have hpoised : Poised p s y :=
    ((hx.poised p).trans (PoisedBeside.takeoverWork i p x).toPoised).trans (hy.poised p)
  have hdy := hd.congr (t := y) (by rw [hy.timer, (PoisedBeside.takeoverWork i p x).timer, hx.timer])
  have hony := mt hpoised.ignores_iff.mp hon
  have hay := hpoised.admits ha
  obtain ⟨_, _, hserved⟩ := State.takeoverWork_served (s := x) (by rw [hx.cap]; exact hp) (by rw [hx.cap]; exact hact)
    (by rw [hx.cap]; exact hres) (by rw [hx.cap]; exact hx.firstFit hq)
  rw [← hy.cap, hx.lock, hx.settle, hx.cap] at hserved
  have hstands := hdy.stands_accepted hony hay false
  by_cases hl : s.vin.lock = .locked
  · rw [if_pos hl] at hserved ⊢
    obtain ⟨hcap, hflag⟩ := hdy.accepted_behind (atMark := false) (base := s.cap.handedOver) hony hay rfl
      (by rw [hlock]; exact hl) (by rw [hsettle]; exact hserved)
    refine ⟨(hw.slots slot).flag hstands hflag, ?_⟩
    rw [hw.cap, hcap, hsettle]
    rfl
  · rw [if_neg hl] at hserved ⊢
    obtain ⟨hcap, hslots⟩ := hdy.accepted_waits hony hay (.inr (by rw [hlock]; exact hl)) false
    refine ⟨(hw.slots slot).flag hstands (by rw [hslots, if_pos rfl]), ?_⟩
    rw [hw.cap, hcap, hserved]
    rfl

end

end

/-- A held thumbnail is complete, and its request's slot is not one whose flag is clear (R120, R121). -/
theorem CaptureOk.held {s : State} (h : CaptureOk s) (hp : s.cap.phase = .held) {slot : Fin 64}
    (hclear : (s.slot slot).captureFlag = false) : ∃ r w h cs, s.cap.active = some r
      ∧ s.cap.result = .finished w h cs ∧ slot ≠ r.slot := by
  obtain ⟨_, _, hactive, hfits, _, hflags, _⟩ := h
  obtain ⟨r, hact⟩ : ∃ r, s.cap.active = some r := Option.isSome_iff_exists.mp (by rw [hactive, hp]; rfl)
  rw [resultFits, hp, hact] at hfits
  cases hres : s.cap.result with
  | empty | forming _ _ =>
    rw [hres] at hfits
    exact hfits.elim
  | finished w h cs =>
    refine ⟨r, w, h, cs, hact, rfl, fun e => ?_⟩
    have hset := (hflags r.slot).mpr ⟨r, by rw [CaptureUnit.requests_of_some hact]; exact List.mem_cons_self, rfl⟩
    rw [← e, hclear] at hset
    cases hset

/-- Settles O52: at either frame event the trigger comes amid work that makes its checks no worse, and the unit behind it is
the one that the queue, its request at the tail, leads to in either order of the two blocks. -/
theorem frameEventsTriggerCaptures : Obligations.FrameEventsTriggerCaptures := by
  intro source i p k slot s htrig hothers hk hh hslot m v off new fixed stands admits serves missed spared moved
  obtain ⟨hexp, hd⟩ := TriggerDue.of_triggersAt htrig hk hh hslot
  have hadm : triggerAdmits s p k.crop slot = true ↔ admits := triggerAdmits_iff_fixed s p k.crop slot
  refine ⟨?_, ?_⟩
  · rintro rfl hpin hs order lost
    obtain ⟨x, hx, hw⟩ := State.start_amid hs hexp.1 hothers order p
    have hsplit (hl : ¬ lost) := State.start_split hs hexp.1 hothers hl order
    obtain ⟨_, u, hall, hstands, hu⟩ := exec_outputFrameStart_stands order hpin hs
    have hexec := exec_outputFrameStart order hpin
    refine ⟨_, hexec, ?_, fun hoff => ⟨?_, ?_, fun hp hl => ?_⟩, fun hon hnot => ?_, fun hon hnot hp hl => ?_,
      fun hon ha => ⟨?_, fun dead rest hl hok hq => ?_⟩⟩
    · have he := Host.Outcome.next.inj (hexec.symm.trans hu)
      rw [he]
      exact hstands.counts.told i (hall _) hexp p hh
    · exact (hd.ignored_amid hx.toPoised hx.timer hw.toPoised hoff).1
    · exact (hd.ignored_amid hx.toPoised hx.timer hw.toPoised hoff).2
    · obtain ⟨y, hy, hw⟩ := hd.start_unheld hp (hsplit hl)
      exact hw.cap.trans (((hd.congr hy.timer).ignored ((hy.poised p).ignores_iff.mpr hoff) false).cap.trans hy.cap)
    · refine hd.missed_amid hx.toPoised hx.timer hw.toPoised hon fun ha => hnot ?_
      exact TriggerFixed.of_admits hx.input hx.level (fun ho => ((hx.slots slot).owner.resolve_right
        (by rw [ho]; nofun)).symm.trans ho) ha
    · obtain ⟨y, hy, hw⟩ := hd.start_unheld hp (hsplit hl)
      have hay : triggerAdmits y p k.crop slot ≠ true := by
        rw [Ne, hy.admits_iff, hadm]
        exact hnot
      have hmissed := (hd.congr hy.timer).missed (mt (hy.poised p).ignores_iff.mp hon) hay false
      exact ⟨hd.missed_amid (hy.poised p) hy.timer (hw.poised p) hon hay, hw.cap.trans (hmissed.cap.trans hy.cap)⟩
    · exact hd.accepted_amid hx.toPoised hx.timer hw.toPoised hon (hadm.mpr ha)
    · have hfree := hok.unnamed_of_clear ha.2.2.1
      by_cases hp : s.cap.phase = .held
      · obtain ⟨r, width, height, cs, hact, hres, hne⟩ := hok.held hp ha.2.2.1
        have hunit := (hsplit hl).elim (fun h => h.held hd hon (hadm.mpr ha) hq hp hact hres hfree hne)
          fun h => h.held hd hon (hadm.mpr ha) hq hp hact hres
        rw [if_pos hp]
        exact ⟨hunit.1, hunit.2.trans (if_congr (and_iff_right rfl).symm rfl rfl)⟩
      · obtain ⟨y, hy, hw⟩ := hd.start_unheld hp (hsplit hl)
        have hunit := hd.start_accepted_unheld hon (hadm.mpr ha) hq hfree hy hw
        rw [if_neg hp]
        exact hunit
  · rintro rfl hl bus order r hr hstale hw hh' hlen hlines locked
    have hg : goodFrame s.vin r (busLines bus) = true :=
      (goodFrame_iff _ _ _).mpr ⟨hstale, hw, hh', hlen, hlines⟩
    have hlocked : (v.judged (goodFrame v r (busLines bus))).lock = .locked ↔ locked := by
      rw [hg, TrailerInput.judged_good_locked]
    obtain ⟨_, hall, hstands⟩ := s.frameEnd_timers r (busLines bus) order
    have hsplit := State.frameEnd_split hg hexp.1 hothers order
    obtain ⟨x, hx⟩ := State.amidMark_of_split hg hsplit
    have hpoised := hx.poised hg p
    have hserving (ha : admits) (hon : ¬ off) (hp : s.cap.phase.serving = true) :=
      hsplit.elim (fun h => h.serving hd hg hon (hadm.mpr ha) hp) fun h => h.serving hd hg hon (hadm.mpr ha) hp
    have hconsidered (ha : admits) (hon : ¬ off) (hok : CaptureOk s) (hp : ¬ s.cap.phase.serving = true)
        {dead rest : List CaptureRequest} (hq : FirstFit v s.cap.queue dead rest) :=
      State.frameEnd_considered hd hg hon (hadm.mpr ha) ((Phase.not_serving_iff _).mp (Bool.eq_false_iff.mpr hp)) hq
        (hok.unnamed_of_clear ha.2.2.1) hsplit
    refine ⟨_, exec_inputFrameEnd hl hr, hstands.told i hg (hall _) hexp p hh, fun hoff => ?_, fun hon hnot hok => ?_,
      fun hon hnot hp => ?_, fun hon ha => ⟨?_, fun hok => ⟨?_, fun hp => ?_, fun dead rest hp hq => ?_⟩⟩⟩
    · exact hd.ignored_amid hpoised hx.timer (hx.behind p) hoff
    · refine hd.missed_amid hpoised hx.timer (hx.behind p) hon fun ha => hnot ?_
      obtain ⟨hout, hstate, howner⟩ := hx.same hg hok.serving_or_none p slot
      have hstands : (x.slot slot).Stands := ((triggerAdmits_iff_fixed x p k.crop slot).mp ha).2.1
      rw [Slot.Stands, hstate] at hstands
      exact ⟨TriggerFixed.of_admits hpoised.input hout (by rw [howner]; exact id) ha, hstands⟩
    · have hp := s.cap.phase.serving_iff.mpr hp
      have hax : triggerAdmits x p k.crop slot ≠ true := by
        rw [hx.admits_iff hg hp, Ne, hadm]
        exact hnot
      have hmissed := (hd.congr hx.timer).missed (mt hpoised.ignores_iff.mp hon) hax true
      exact ⟨hd.missed_amid hpoised hx.timer (hx.behind p) hon hax, hx.queue hp hmissed.cap⟩
    · exact hd.accepted_amid hpoised hx.timer (hx.behind p) hon (hadm.mpr ha)
    · by_cases hp : s.cap.phase.serving = true
      · exact (hserving ha hon hp).1
      · obtain ⟨dead, rest, hq⟩ := exists_FirstFit v s.cap.queue
        exact (hconsidered ha hon hok hp hq).1
    · have hp := s.cap.phase.serving_iff.mpr hp
      obtain ⟨u, hu, ht⟩ := State.frameEnd_captured (s := s.setTimer i { m with running := false }) (r := r)
        (lines := busLines bus) (fun _ => State.not_triggersAt_stopped hothers) order
      refine ⟨_, exec_inputFrameEnd (s := s.setTimer i { m with running := false }) hl hr, ?_⟩
      rw [(hserving ha hon hp).2, ht.cap, (hu.serving_good hg hp).2]
      rfl
    · exact (hconsidered ha hon hok (mt s.cap.phase.serving_iff.mp hp) hq).2.trans (if_congr hlocked rfl rfl)

end Sys2Proof.Machine
end
